-- ==== Sys2Proof/Word.lean ====
section
/-! DEFINITION. Sys2Proof/Word.lean: the word and byte types of the host interface (R8, R77). -/

namespace Sys2Proof

/-- One byte of a layout, a buffer or a frame. -/
abbrev Byte := BitVec 8

/-- One 32-bit register word (R77). -/
abbrev Word := BitVec 32

end Sys2Proof
end

