-- ==== Sys2Proof/Syntax.lean ====
section
/-! DEFINITION. Sys2Proof/Syntax.lean: the commands of the block, one constructor per row of the operations table,
and the plain data their operands are made of. A Tamwyn command's operand is its session window: the request bytes
stand in that window, put there by DOORBELL_WRITE or TLS_RECORD (R98, R111). A command that stands for an instant or
an arrival carries what came from outside (a frame, a level, a measurement, the time since the tide edge). -/

namespace Sys2Proof

/-- Origins of register accesses and sessions (R73). -/
inductive Origin where
  | pcie | spi | usb | tls
  deriving DecidableEq, Repr

/-- The two register groups that freeze (R168, R185). -/
inductive RfGroup where
  | snapshot | rtc
  deriving DecidableEq, Repr

/-- What reaches the module at a tide edge besides the edge itself: which radio dies receive the strobe (R27)
and whose internal link is down (R227), the gain of the ended tide, one per RF channel (R280). -/
structure EdgeIn where
  strobe : BitVec 2
  linkDown : BitVec 2
  gain   : List Nat
  /-- Power behind the notch filters in 0.25 dB, from the same zero as the power at the converter (R285). -/
  power  : List Nat
  /-- Counts of sample clocks of the two lanes at the edge (R28). -/
  count  : List Nat := []
  /-- Engaged adaptive notches whose line moved: RF channel, notch and offset in Hz (R283). -/
  follow : List (Nat × Nat × Int) := []
  /-- Bins that rise above the median of all bins in the ended tide's average of 64 FFTs: RF channel, bin from the centre, and
  the rise in 0.25 dB (R283). -/
  lines : List (Nat × Int × Nat) := []
  /-- Antennas whose bias current is 2 mA or above (R281). -/
  loaded : BitVec 2 := 0
  deriving DecidableEq, Repr

/-- A time stamp on the PTP timescale: seconds and nanoseconds (R145). -/
structure Stamp where
  sec : Nat
  ns  : Nat
  deriving DecidableEq, Repr

/-- Functions that are stopped and started at tide edges (R60, R61, R62). -/
inductive Fn where
  | radio (x : Nat)
  | gnssSignal (antenna row : Nat)
  | reference
  | positioning
  | fleet
  | bowWave
  | port (p : Nat)
  | gates (p : Nat)
  | ptp (p : Nat)
  | queueWindow (q : Nat)
  | lighter (n : Nat)
  | quay (c : Nat)
  | meterPoint (p : Nat)
  | lamp (p : Nat)
  | sign (p : Nat)
  deriving DecidableEq, Repr

/-- Placed work items that move at a tide edge (R63). -/
inductive MoveItem where
  | node (n : Nat)
  | signal (ch : Nat)
  | task (t : Nat)
  deriving DecidableEq, Repr

/-- One dimming level entry: a 16-bit field of R240. -/
abbrev Level := Nat

/-- A bow-wave step of one node: the tide at which it applies and its level (R258, R260). -/
structure BwStep where
  node  : Nat
  tide  : Nat
  level : Level
  deriving DecidableEq, Repr

/-- What firmware schedules a cell for (R201 rules 5 and 6). -/
inductive CellKind where
  | unicast | broadcast | receive | indirect
  deriving DecidableEq, Repr

/-- A frame that firmware delivers for a cell of the next tide, or as an indirect frame with an expiry tide
(R203, R216). -/
structure CellFrame where
  x      : Nat
  kind   : CellKind
  node   : Nat
  ackReq : Bool
  expiry : Nat
  psdu   : List Byte
  deriving DecidableEq, Repr

/-- A reservation interval: a cell, an enter tide, and a leave tide, absent when standing (R347). -/
structure Interval where
  cell  : Nat
  enter : Nat
  leave : Option Nat
  deriving DecidableEq, Repr

/-- One vehicle's reservation request (R349). -/
structure ResRequest where
  vehicle : Nat
  adds    : List Interval
  removes : List Interval
  spec    : Option (List Interval)
  deriving DecidableEq, Repr

/-- A frame of a conditional generation on a transceiver: a RECALL (clear) or a BOW_WAVE, with the message's body (R241, R262). -/
structure CondFrame where
  x      : Nat
  clear  : Bool
  body   : List Byte
  deriving DecidableEq, Repr

/-- What the application cluster submits through its control queue (R34): lantern frames with the lamp levels that
travel with them (R520), a reservation batch with the conditional frames of a vehicle's request (R262), zone release requests, or checkpoint
data. -/
inductive ClusterResult where
  | lantern (frames : List CellFrame) (lamps : List (Nat × Nat × Level))
  | reservations (reqs : List ResRequest) (conditional : List (Nat × CondFrame))
  | release (zones : BitVec 64)
  | checkpoint (data : List Byte)
  deriving DecidableEq, Repr

/-- An Announce message (R139, R144, R181). -/
structure Announce where
  gm          : Nat
  priority1   : Nat
  clockClass  : Nat
  accuracy    : Nat
  variance    : Nat
  priority2   : Nat
  stepsRemoved : Nat
  source      : Nat
  timeSource  : Nat
  utcOfs      : Int
  utcValid    : Bool
  leap61      : Bool
  leap59      : Bool
  /-- domainNumber of its header (R139). -/
  domain      : Nat := 0
  deriving DecidableEq, Repr

/-- A Sync message with its Follow_Up where it is two-step (R139, R145, R156): the sending port, the precise origin timestamp,
the sum of the correction fields in units of 2^-16 ns, and the ingress timestamp before its correction. -/
structure SyncMsg where
  domain : Nat := 0
  source : Nat
  origin : Stamp
  corr   : Int
  stamp  : Stamp
  deriving DecidableEq, Repr

/-- What a delay request carries beside its sequence number: its domain, the identity of the port that sent it, its correction
in units of 2^-16 ns, and its ingress timestamp (R139). -/
structure DelayReq where
  domain : Nat
  source : Nat
  corr   : Int
  stamp  : Stamp
  deriving DecidableEq, Repr

/-- What a Delay_Resp carries beside its sequence number and its correction: its domain, the identity of the port whose request
it answers, and the receipt timestamp (R139). -/
structure DelayResp where
  domain    : Nat
  requester : Nat
  receive   : Stamp
  deriving DecidableEq, Repr

/-- A peer delay message (R139, R140): a request; a response with the receipt timestamp that it carries, its correction field and
its ingress timestamp; and the follow-up of a two-step response with the origin timestamp of that response. -/
inductive PdelayMsg where
  | request (seq : Nat) (m : DelayReq)
  | response (domain seq : Nat) (twoStep : Bool) (receipt : Stamp) (corr : Int) (stamp : Stamp)
  | followUp (domain seq : Nat) (origin : Stamp) (corr : Int)
  deriving DecidableEq, Repr

/-- A received IEEE 802.15.4 frame as the die sees it (R212, R214). `src` is the short address, or the EUI-64 when
`srcExt`. -/
structure RadioFrame where
  fcsOk   : Bool
  len     : Nat
  sfdNs   : Nat
  ccaBusy : Bool
  version : Nat
  dstPan  : Option Nat
  dst     : Nat
  srcExt  : Bool
  src     : Nat
  level   : Nat
  micOk   : Bool
  dsn     : Nat
  ackReq  : Bool
  errUs   : Int
  rssi    : Int
  slot    : Nat
  isHorn  : Bool
  isEb    : Bool
  payload : List Byte
  deriving DecidableEq, Repr

/-- A search request (R288). -/
structure AcqRequest where
  antenna : Nat
  signal  : Nat
  sat     : Nat
  doppler : Int
  halfWidth : Nat
  window  : Nat
  nonCoh  : Nat
  aided   : Bool
  deriving DecidableEq, Repr

/-- A detection (R289): the tracking channel firmware starts from it, code phase, Doppler and C/N0. -/
structure AcqHit where
  channel : Nat
  phase   : Int
  doppler : Int
  cn0     : Nat
  gloFreq : Int
  deriving DecidableEq, Repr

/-- What one channel latches at an epoch (R297, R299). -/
structure RawMeas where
  channel : Nat
  cn0     : Nat
  range   : Nat
  /-- Whole cycles of the accumulated carrier phase: the accumulator holds the rest (R293). -/
  cycles  : Int
  doppler : Int
  lockInd : Int
  prValid : Bool
  /-- The lock indicator was below 0.5 in an integration since the previous measurement (R295). -/
  low : Bool := false
  /-- Phase accumulators of the carrier and the code NCO at the epoch's instant, and the rates that their loops set (R293). -/
  carrierNco : BitVec 48 := 0
  codeNco : BitVec 48 := 0
  carrierRate : BitVec 48 := 0
  codeRate : BitVec 48 := 0
  /-- Integrators of the loop filters (R294, R301). -/
  loop : List Int := []
  deriving DecidableEq, Repr

/-- What a channel's report says it is of: channel, placement epoch and tide (R64, R302). -/
structure ChanReport where
  ch    : Nat
  epoch : BitVec 8
  tide  : Nat
  deriving DecidableEq, Repr

/-- ECEF coordinates in units of 0.1 mm (R317). -/
structure Ecef where
  x : Int
  y : Int
  z : Int
  deriving DecidableEq, Repr, Inhabited

/-- One signal of a vehicle's observations (R335): signal code, satellite and C/N0 in 0.25 dB-Hz. -/
structure ObsSignal where
  signal : Nat
  sat    : Nat
  cn0    : Nat
  deriving DecidableEq, Repr

/-- One central solution (R337, R338). -/
structure Solution where
  vehicle : Nat
  fix     : Nat
  ratio   : Nat
  pos     : Ecef
  vel     : Ecef
  sigmaH  : Nat
  sigmaV  : Nat
  deriving DecidableEq, Repr

/-- An NTRIP client request to a TCP port, of NTRIP version 2.0 or 1.0; or what a connected client does (R327, R328). -/
inductive NtripReq where
  | sourcetable (tcp : Nat) (two : Bool)
  | mount (tcp : Nat) (two : Bool) (m : Nat) (auth : Option Nat)
  | serverRole (tcp : Nat) (two : Bool)
  | gga
  | close
  | backlog (bytes : Nat)
  deriving DecidableEq, Repr

/-- A received Ethernet frame: its bytes from the destination address to the FCS, and the line errors (R391, R400). -/
structure EthFrame where
  bytes    : List Byte
  symbolErr : Bool
  fcsOk    : Bool
  /-- The place of a berth that shows an uncorrected error while the frame leaves cut-through (R430, R431). -/
  readErr : Option Nat := none
  deriving DecidableEq, Repr

/-- What the SECDED of the pool and of its link table found (R418, R431): in a pass of the scrubber, or in an ordinary read. -/
structure EccReport where
  scrub : Bool
  /-- Corrected errors: berth and bit. -/
  corrected : List (Nat × Nat)
  /-- Berths with an uncorrected error. -/
  uncorrected : List Nat
  linkCorrected : Nat := 0
  linkUncorrected : Nat := 0
  deriving DecidableEq, Repr

/-- An R-APS message (R399). -/
inductive Raps where
  | signalFail | noRequest | noRequestRplBlocked | forcedSwitch | manualSwitch
  deriving DecidableEq, Repr

/-- What host memory answers to a burst: the descriptor read at HEAD, and the data bytes of a read burst; an error
completion is `ok = false` (R440, R441). -/
structure HostMem where
  ok   : Bool
  desc : List Byte
  data : List Byte
  deriving DecidableEq, Repr

/-- CAN errors (R476). -/
inductive CanError where
  | ack | bit | stuff | form | crc
  deriving DecidableEq, Repr

/-- A CAN frame in the fields of R472, or a receive error: in a data phase (R456), and a dominant bit first after the error flag
(R460). -/
structure CanFrame where
  format : Nat
  flags  : Nat
  id     : Nat
  sdt    : Nat
  vcid   : Nat
  af     : Nat
  sofNs  : Nat
  data   : List Byte
  err    : Option CanError
  dataPhase : Bool
  dominant  : Bool
  deriving DecidableEq, Repr

/-- How a transmit attempt ends (R465): sent, arbitration lost, or an error; for an ACK error, whether a dominant bit
was seen while the passive error flag was sent (R460); and whether it came in a data phase (R456). -/
inductive CanTx where
  | sent
  | arbLost
  | error (e : CanError) (dominantSeen dataPhase : Bool)
  deriving DecidableEq, Repr

/-- What arrives of a checkpoint transfer (R549): its header, a block, or its trailer. -/
inductive CkptBlock where
  | header (seq tide len serial imageVersion format : Nat)
  | block (index crc : Nat) (data : List Byte)
  | trailer (digest tag : List Byte)
  deriving DecidableEq, Repr

/-- What a TLS client offers: cipher suites, key exchange groups and signature algorithms by their numbers in RFC 8446, and
whether it offers a PSK or early data (R110); anchor is the trust anchor that its client's certificate chain ends in. -/
structure TlsOffer where
  suites : List Nat
  groups : List Nat
  sigs   : List Nat
  psk    : Bool
  early  : Bool
  anchor : Nat
  deriving DecidableEq, Repr

/-- The commands of the block: one constructor per row of the operations table, in the table's order; each docstring
gives the row's name and its rule. -/
inductive Instr where
  /-- TIDE_EDGE (R44). -/
  | tideEdge (e : EdgeIn)
  /-- TIDE_MESSAGE_SEND (R48). -/
  | tideMessageSend (reached : BitVec 2)
  /-- FRAME_LOAD (R48). -/
  | frameLoad
  /-- CLUSTER_TIDE_WORK_START (R48). -/
  | clusterTideWorkStart
  /-- CLUSTER_RESULT (R34). -/
  | clusterResult (r : ClusterResult) (prio len us : Nat)
  /-- CLUSTER_HEARTBEAT (R37). -/
  | clusterHeartbeat
  /-- CLUSTER_FAULT (R37). -/
  | clusterFault
  /-- CLUSTER_DOWN_DECLARE (R38). -/
  | clusterDownDeclare
  /-- CLUSTER_RESTORE_COMPLETE (R38). -/
  | clusterRestoreComplete
  /-- LOCKSTEP_MISMATCH (R39). -/
  | lockstepMismatch
  /-- DEADLINE_JUDGE (R53). -/
  | deadlineJudge (fn : Nat)
  /-- STATS_LATCH (R56). -/
  | statsLatch (group : Nat)
  /-- FUNCTION_STOP_EDGE (R60). -/
  | functionStopEdge (f : Fn)
  /-- FUNCTION_START_EDGE (R62). -/
  | functionStartEdge (f : Fn)
  /-- PLACEMENT_MOVE_EDGE (R63). -/
  | placementMoveEdge (item : MoveItem)
  /-- TIME_CORRECTION_APPLY (R66). -/
  | timeCorrectionApply
  /-- RF_GROUP_FREEZE (R17). -/
  | rfGroupFreeze (o : Origin) (addr : Nat) (dt : Nat)
  /-- RF_FREEZE_EXPIRE (R168). -/
  | rfFreezeExpire (o : Origin) (g : RfGroup)
  /-- RC_REGISTER_READ (R13). -/
  | rcRegisterRead (o : Origin) (addr : Nat)
  /-- IMPROPER_ACCESS (R19). -/
  | improperAccess (o : Origin) (addr : Nat) (write : Option Word)
  /-- REGISTER_WRITE (R21). -/
  | registerWrite (o : Origin) (addr : Nat) (v : Word) (be : BitVec 4)
  /-- SPI_TRANSACTION (R75). -/
  | spiTransaction (op : Byte) (addr : Nat) (words : List Word) (n : Nat) (dt : Nat)
  /-- USB_REQUEST (R76). -/
  | usbRequest (header : List Byte) (data : List Byte) (dt : Nat)
  /-- SESS_OPEN (R91). -/
  | sessOpen (o : Origin) (w : Nat)
  /-- SESS_CLOSE_WRITE (R84). -/
  | sessCloseWrite (o : Origin) (w : Nat)
  /-- DOORBELL_WRITE (R99). -/
  | doorbellWrite (o : Origin) (w : Nat) (v : Word)
  /-- RSP_READY_CLEAR (R86). -/
  | rspReadyClear (o : Origin) (w : Nat)
  /-- EVT_RELEASE (R88). -/
  | evtRelease (o : Origin) (w : Nat)
  /-- KEEPALIVE_EXPIRY (R112). -/
  | keepaliveExpiry (w : Nat)
  /-- PCIE_LINK_LOSS (R93). -/
  | pcieLinkLoss
  /-- USB_DETACH (R93). -/
  | usbDetach
  /-- TLS_CONNECTION_LOSS (R93). -/
  | tlsConnectionLoss (w : Nat) (alert : Bool)
  /-- TLS_CONNECTION_ACCEPT (R110). -/
  | tlsConnectionAccept (port tcp : Nat) (h : TlsOffer) (cert : Option Nat) (certOk : Bool)
  /-- TLS_RECORD (R111). -/
  | tlsRecord (w : Nat) (record : List Byte)
  /-- SESSION_RELEASE_EDGE (R93). -/
  | sessionReleaseEdge (w : Nat)
  /-- HELLO (R112). -/
  | hello (w : Nat)
  /-- SESSION_INFO (R113). -/
  | sessionInfo (w : Nat)
  /-- KEEPALIVE (R113). -/
  | keepalive (w : Nat)
  /-- SUBSCRIBE (R113). -/
  | subscribe (w : Nat)
  /-- UNSUBSCRIBE (R113). -/
  | unsubscribe (w : Nat)
  /-- CLOSE (R113). -/
  | sessClose (w : Nat)
  /-- SYS_INFO (R115). -/
  | sysInfo (w : Nat)
  /-- SYS_STATE (R115). -/
  | sysState (w : Nat)
  /-- RESET (R115). -/
  | sysReset (w : Nat)
  /-- RESET_EDGE (R115). -/
  | resetEdge
  /-- CFG_STATUS (R134). -/
  | cfgStatus (w : Nat)
  /-- CFG_LOAD_BEGIN (R133). -/
  | cfgLoadBegin (w : Nat)
  /-- CFG_LOAD_DATA (R133). -/
  | cfgLoadData (w : Nat)
  /-- CFG_LOAD_END (R133). -/
  | cfgLoadEnd (w : Nat)
  /-- CFG_CHECK_COMPLETE (R124). -/
  | cfgCheckComplete
  /-- CFG_APPLY (R129). -/
  | cfgApply (w : Nat)
  /-- CFG_CANCEL (R133). -/
  | cfgCancel (w : Nat)
  /-- CFG_REVERT (R130). -/
  | cfgRevert (w : Nat)
  /-- CFG_APPLY_EDGE (R129). -/
  | cfgApplyEdge
  /-- CFG_CONTROL_RECORD_WRITE (R130). -/
  | cfgControlRecordWrite
  /-- PTP_SYNC_RX (R156). -/
  | ptpSyncRx (port : Nat) (m : SyncMsg)
  /-- PTP_ANNOUNCE_RX (R139). -/
  | ptpAnnounceRx (port : Nat) (a : Announce)
  /-- ANNOUNCE_RECEIPT_TIMEOUT (R139). -/
  | announceReceiptTimeout (port : Nat)
  /-- PTP_DELAY_REQ_RX (R141). -/
  | ptpDelayReqRx (port : Nat) (seq : Nat) (m : DelayReq)
  /-- PTP_PDELAY_RX (R140). -/
  | ptpPdelayRx (port : Nat) (m : PdelayMsg)
  /-- PTP_SYNC_SEND (R139). -/
  | ptpSyncSend (port : Nat)
  /-- RING_SYNC_TIMEOUT (R153). -/
  | ringSyncTimeout
  /-- EXT_PPS_EDGE (R154). -/
  | extPpsEdge (offset : Int) (gap : Nat)
  /-- EXT_10M_ACCEPT (R155). -/
  | ext10mAccept (ppb : Int)
  /-- EXT_10M_LOSS (R155). -/
  | ext10mLoss
  /-- SOURCE_HOLDOFF_EXPIRY (R157). -/
  | sourceHoldoffExpiry (src : Nat)
  /-- TIME_STATE_EDGE (R158). -/
  | timeStateEdge
  /-- TX_TIMESTAMP_CAPTURE (R150). -/
  | txTimestampCapture (port : Nat) (owner : Option Nat) (id : Nat) (stamp : Stamp)
  /-- TX_TIMESTAMP_DRAIN (R151). -/
  | txTimestampDrain
  /-- PPS_OUT_EDGE (R164). -/
  | ppsOutEdge
  /-- TIME_STATUS (R171). -/
  | timeStatus (w : Nat) (dt : Nat)
  /-- TIME_PORT_STATUS (R171). -/
  | timePortStatus (w : Nat)
  /-- TIME_JUMP_ACCEPT (R172). -/
  | timeJumpAccept (w : Nat)
  /-- TIME_JUMP_REJECT (R160). -/
  | timeJumpReject (w : Nat)
  /-- TIME_PORT_SET (R171). -/
  | timePortSet (w : Nat)
  /-- TIME_SOURCE_SET (R171). -/
  | timeSourceSet (w : Nat)
  /-- TIME_THRESHOLD_SET (R171). -/
  | timeThresholdSet (w : Nat)
  /-- TIME_OUTPUT_SET (R171). -/
  | timeOutputSet (w : Nat)
  /-- CHANGE_APPLY_EDGE (R102). -/
  | changeApplyEdge
  /-- BATTERY_DOMAIN_POWER_UP (R176). -/
  | batteryDomainPowerUp
  /-- RTC_SECOND_ROLLOVER (R175). -/
  | rtcSecondRollover (young : Nat)
  /-- RTC_DISCIPLINE_LOAD (R177). -/
  | rtcDisciplineLoad (dt : Nat)
  /-- COMMIT_SEC (R187). -/
  | commitSec (o : Origin)
  /-- COMMIT_CAL (R187). -/
  | commitCal (o : Origin)
  /-- RTC_STATUS (R191). -/
  | rtcStatus (w : Nat) (frac : Nat)
  /-- RTC_SET (R191). -/
  | rtcSet (w : Nat)
  /-- RTC_UTC_SET (R191). -/
  | rtcUtcSet (w : Nat)
  /-- SUBGHZ_CELL_TX (R199). -/
  | subghzCellTx (x : Nat) (busy : Bool)
  /-- RADIO_FRAME_RX (R214). -/
  | radioFrameRx (x : Nat) (f : RadioFrame)
  /-- ENH_ACK_RX (R222). -/
  | enhAckRx (x : Nat) (node : Nat) (errUs : Int)
  /-- ACK_TIMEOUT (R222). -/
  | ackTimeout (x : Nat) (node : Nat)
  /-- RX_WINDOW_END (R222). -/
  | rxWindowEnd (x : Nat) (node : Nat)
  /-- HB_SLOT_START (R205): the HB transceivers whose CCA is busy. -/
  | hbSlotStart (slot : Nat) (busy : BitVec 4)
  /-- OOT_HORN_TRANSMIT (R208). -/
  | ootHornTransmit (hb : Nat) (us : Nat)
  /-- OOT_HORN_CCA_TIMEOUT (R208). -/
  | ootHornCcaTimeout (hb : Nat)
  /-- LEDGER_SECOND (R219). -/
  | ledgerSecond
  /-- INDIRECT_FRAME_EXPIRY (R216). -/
  | indirectFrameExpiry (node : Nat)
  /-- RADIO_DIE_FAIL (R227). -/
  | radioDieFail (die : Nat)
  /-- RADIO_DIE_RESTORE (R227). -/
  | radioDieRestore (die : Nat)
  /-- RADIO_STATUS (R230). -/
  | radioStatus (w : Nat)
  /-- RADIO_LEDGER (R230). -/
  | radioLedger (w : Nat)
  /-- RADIO_NEIGHBOUR (R231). -/
  | radioNeighbour (w : Nat)
  /-- RADIO_STATS (R230). -/
  | radioStats (w : Nat)
  /-- RADIO_ENABLE (R228). -/
  | radioEnable (w : Nat)
  /-- RADIO_NEIGHBOUR_FLUSH (R230). -/
  | radioNeighbourFlush (w : Nat)
  /-- RADIO_POWER_SET (R230). -/
  | radioPowerSet (w : Nat)
  /-- JOIN (R246). -/
  | nodeJoin (x : Nat) (eui : Nat) (p : List Byte)
  /-- CONFIRM (R250). -/
  | nodeConfirm (node : Nat) (epoch : Nat) (tide : Nat) (p : List Byte)
  /-- STATUS (R247). -/
  | nodeStatus (node : Nat) (epoch : Nat) (p : List Byte)
  /-- ENERGY (R269). -/
  | nodeEnergy (node : Nat) (epoch : Nat) (p : List Byte)
  /-- FAULT (R242). -/
  | nodeFault (node : Nat) (epoch : Nat) (p : List Byte)
  /-- DETECT (R258). -/
  | nodeDetect (node : Nat) (epoch : Nat) (p : List Byte)
  /-- FW_STATUS (R266). -/
  | fwStatus (node : Nat) (epoch : Nat) (tide : Nat) (p : List Byte)
  /-- NODE_LOST_TIMEOUT (R247). -/
  | nodeLostTimeout (node : Nat)
  /-- BALANCE_EVALUATION (R270). -/
  | balanceEvaluation (feeder : Nat)
  /-- LANT_STATUS (R272). -/
  | lantStatus (w : Nat)
  /-- LANT_NODE (R274). -/
  | lantNode (w : Nat)
  /-- LANT_BALANCE (R275). -/
  | lantBalance (w : Nat)
  /-- LANT_LEVEL (R272). -/
  | lantLevel (w : Nat)
  /-- LANT_SCENE (R272). -/
  | lantScene (w : Nat)
  /-- LANT_COMMAND_TIMEOUT (R272). -/
  | lantCommandTimeout (w : Nat) (seq : Nat)
  /-- LANT_DETECT (R272). -/
  | lantDetect (w : Nat)
  /-- LANT_FLOOR_SET (R272). -/
  | lantFloorSet (w : Nat)
  /-- LANT_MOVE (R254). -/
  | lantMove (w : Nat)
  /-- LANT_REMOVE (R272). -/
  | lantRemove (w : Nat)
  /-- LANT_RULE_ENABLE (R272). -/
  | lantRuleEnable (w : Nat)
  /-- LANT_BOWWAVE_ENABLE (R263). -/
  | lantBowwaveEnable (w : Nat)
  /-- ACQUISITION_REQUEST (R288). -/
  | acquisitionRequest (r : AcqRequest)
  /-- ACQUISITION_RESULT (R289). -/
  | acquisitionResult (antenna : Nat) (signal : Nat) (sat : Nat) (found : Option AcqHit)
  /-- NOTCH_ENGAGE (R283). -/
  | notchEngage (rf : Nat) (offsetHz : Int)
  /-- NOTCH_RELEASE (R283). -/
  | notchRelease (rf : Nat) (notch : Nat)
  /-- JAM_ENTER (R286). -/
  | jamEnter (rf : Nat)
  /-- JAM_EXIT (R286). -/
  | jamExit (rf : Nat)
  /-- ANTENNA_SHORT (R281). -/
  | antennaShort (antenna : Nat)
  /-- BIAS_RETRY (R281). -/
  | biasRetry (antenna : Nat)
  /-- ANTENNA_OPEN (R281). -/
  | antennaOpen (antenna : Nat)
  /-- LANE_ALIGNMENT_LOSS (R296). -/
  | laneAlignmentLoss (antenna : Nat)
  /-- LANE_REALIGN (R296). -/
  | laneRealign (antenna : Nat)
  /-- COAST_TIMEOUT (R296). -/
  | coastTimeout (ch : Nat)
  /-- CHANNEL_LOCK (R295). -/
  | channelLock (r : ChanReport)
  /-- CHANNEL_LOCK_LOSS (R295). -/
  | channelLockLoss (r : ChanReport)
  /-- CHANNEL_LOST (R295). -/
  | channelLost (r : ChanReport)
  /-- SIDE_PEAK_CORRECTION (R292). -/
  | sidePeakCorrection (r : ChanReport) (later : Bool)
  /-- MEASUREMENT_LATCH (R297). -/
  | measurementLatch (raw : List RawMeas)
  /-- FALSE_SIGNAL_EVAL (R306). -/
  | falseSignalEval (band us : Nat)
  /-- FS_STATE_EDGE (R307). -/
  | fsStateEdge
  /-- JI_CAL_COMPLETE (R287). -/
  | jiCalComplete (rf : Nat) (mean : Nat)
  /-- GNSS_STATUS (R312). -/
  | gnssStatus (w : Nat)
  /-- GNSS_CHANNEL (R314). -/
  | gnssChannel (w : Nat)
  /-- GNSS_FS_STATUS (R312). -/
  | gnssFsStatus (w : Nat)
  /-- GNSS_STATS (R312). -/
  | gnssStats (w : Nat)
  /-- GNSS_NOTCH_SET (R312). -/
  | gnssNotchSet (w : Nat)
  /-- GNSS_SIGNAL_ENABLE (R309). -/
  | gnssSignalEnable (w : Nat)
  /-- GNSS_MOVE (R301). -/
  | gnssMove (w : Nat)
  /-- GNSS_BIAS_SET (R312). -/
  | gnssBiasSet (w : Nat)
  /-- GNSS_FS_SET (R312). -/
  | gnssFsSet (w : Nat)
  /-- GNSS_LOOP_SET (R312). -/
  | gnssLoopSet (w : Nat)
  /-- GNSS_JI_CAL (R287). -/
  | gnssJiCal (w : Nat)
  /-- GNSS_OBS_STREAM (R300). -/
  | gnssObsStream (w : Nat)
  /-- SURVEY_SAMPLE (R318). -/
  | surveySample (sats : Nat) (pos : Ecef)
  /-- SURVEY_TIMEOUT (R318). -/
  | surveyTimeout
  /-- MONITOR_SURVEY_SOLUTION (R319). -/
  | monitorSurveySolution (fix : Nat) (ratio100 : Nat) (pos : Ecef)
  /-- CORRECTION_ENCODE (R323). -/
  | correctionEncode (mount : Nat) (us : Nat)
  /-- MONITOR_ROVER_SOLVE (R330). -/
  | monitorRoverSolve (fix : Nat) (pos : Ecef) (us : Nat)
  /-- OBS_DATAGRAM_RX (R336). -/
  | obsDatagramRx (port : Nat) (udp : Nat) (d : List Byte) (us : Nat)
  /-- CENTRAL_SOLVE (R337). -/
  | centralSolve
  /-- CENTRAL_SOLUTIONS_COMPLETE (R337). -/
  | centralSolutionsComplete (sols : List Solution) (us : Nat)
  /-- TIME_SOLUTION (R339). -/
  | timeSolution (sats : Nat) (gpsSats : Nat) (sdNs : Nat)
  /-- UTC_PARAMETERS_DECODE (R340). -/
  | utcParametersDecode (gps : Bool) (suspect : Bool) (dtLs : Int) (dtLsf : Int) (endDay : Nat × Nat)
  /-- NTRIP_REQUEST (R327). -/
  | ntripRequest (port : Nat) (conn : Nat) (r : NtripReq)
  /-- REF_STATUS (R344). -/
  | refStatus (w : Nat)
  /-- POS_VEHICLE (R342). -/
  | posVehicle (w : Nat)
  /-- REF_STATS (R342). -/
  | refStats (w : Nat)
  /-- REF_ENABLE (R342). -/
  | refEnable (w : Nat)
  /-- REF_SURVEY_START (R342). -/
  | refSurveyStart (w : Nat)
  /-- REF_FIX_SET (R321). -/
  | refFixSet (w : Nat)
  /-- REF_OUTPUT_SET (R342). -/
  | refOutputSet (w : Nat)
  /-- REF_INTEGRITY_SET (R342). -/
  | refIntegritySet (w : Nat)
  /-- POS_ENROL (R334). -/
  | posEnrol (w : Nat)
  /-- REF_STREAM (R329). -/
  | refStream (w : Nat)
  /-- POS_ENABLE (R342). -/
  | posEnable (w : Nat)
  /-- RESERVATION_BATCH_CHECK (R351). -/
  | reservationBatchCheck
  /-- RESERVATION_DEADLINE (R352). -/
  | reservationDeadline (complete : Bool)
  /-- HORIZON_FLOOR (R52). -/
  | horizonFloor (v : Nat)
  /-- VEHICLE_HELD_ENTRY (R356). -/
  | vehicleHeldEntry (v : Nat)
  /-- VEHICLE_HELD_EXIT (R357). -/
  | vehicleHeldExit (v : Nat)
  /-- ANSWER_OPPORTUNITY_MISSED (R355). -/
  | answerOpportunityMissed (v : Nat)
  /-- VEHICLE_ACK_RX (R379). -/
  | vehicleAckRx (x : Nat) (slot : Nat) (f : RadioFrame)
  /-- PATH_SEND (R360). -/
  | pathSend (v : Nat)
  /-- PATH_RESEND (R360). -/
  | pathResend (v : Nat)
  /-- PATH_ACK (R360). -/
  | pathAck (d : List Byte)
  /-- TASK_REPORT (R364). -/
  | taskReport (d : List Byte)
  /-- HORN_FREEZE (R366). -/
  | hornFreeze
  /-- HORN_TRANSMIT (R205). -/
  | hornTransmit (ccaBusy : BitVec 4)
  /-- CLAIM_FRAME_SEND (R543). -/
  | claimFrameSend
  /-- HALT_INPUT_CHANGE (R372). -/
  | haltInputChange (b : Bool) (run : Bool) (us : Nat)
  /-- HALT_DISCREPANCY_LATCH (R373). -/
  | haltDiscrepancyLatch (us : Nat)
  /-- HALT_INPUT_AUTO_CLEAR (R372). -/
  | haltInputAutoClear (us : Nat)
  /-- RELAY_ENERGISE (R374). -/
  | relayEnergise
  /-- RELAY_READBACK_FAULT (R374). -/
  | relayReadbackFault (output : Nat) (read : Bool)
  /-- FLEET_STATUS (R384). -/
  | fleetStatus (w : Nat)
  /-- FLEET_VEHICLE (R385). -/
  | fleetVehicle (w : Nat)
  /-- FLEET_TASK (R382). -/
  | fleetTask (w : Nat)
  /-- FLEET_PATH (R382). -/
  | fleetPath (w : Nat)
  /-- FLEET_STATS (R382). -/
  | fleetStats (w : Nat)
  /-- FLEET_ENABLE (R61). -/
  | fleetEnable (w : Nat)
  /-- FLEET_HALT (R375). -/
  | fleetHalt (w : Nat) (us : Nat)
  /-- FLEET_RELEASE (R382). -/
  | fleetRelease (w : Nat) (us : Nat)
  /-- FLEET_TASK_ADD (R362). -/
  | fleetTaskAdd (w : Nat)
  /-- FLEET_TASK_CANCEL (R382). -/
  | fleetTaskCancel (w : Nat)
  /-- FLEET_TASK_MOVE (R363). -/
  | fleetTaskMove (w : Nat)
  /-- FLEET_HOLD (R355). -/
  | fleetHold (w : Nat)
  /-- FRAME_INGRESS (R400). -/
  | frameIngress (port : Nat) (f : EthFrame) (stamp : Stamp)
  /-- FRAME_EGRESS (R403). -/
  | frameEgress (port : Nat) (ns : Nat) (err : Option Nat)
  /-- LINK_DOWN (R393). -/
  | linkDown (port : Nat) (cut : Option Nat)
  /-- LINK_DROP_EDGE (R393). -/
  | linkDropEdge (port : Nat)
  /-- LINK_UP (R390). -/
  | linkUp (port : Nat) (speed : Nat) (full : Bool)
  /-- RING_SIGNAL_FAIL (R399). -/
  | ringSignalFail (port : Nat)
  /-- RAPS_RX (R399). -/
  | rapsRx (port : Nat) (m : Raps)
  /-- RING_WTR_EXPIRY (R399). -/
  | ringWtrExpiry
  /-- COLLISION (R395). -/
  | collision (port : Nat) (bytes : Nat)
  /-- BACKOFF_EXPIRY (R395). -/
  | backoffExpiry (port : Nat)
  /-- PLCA_FALLBACK (R396). -/
  | plcaFallback (port : Nat) (foreignBeacon : Bool)
  /-- PLCA_RESTORE (R396). -/
  | plcaRestore (port : Nat)
  /-- FDB_AGEING (R398). -/
  | fdbAgeing (vid : Nat) (mac : Nat)
  /-- GATE_CHANGE (R406). -/
  | gateChange (port : Nat) (ns : Nat)
  /-- GATE_LIST_APPLY (R408). -/
  | gateListApply (port : Nat)
  /-- FP_PORT_STATUS (R413). -/
  | fpPortStatus (w : Nat)
  /-- FP_STATS (R415). -/
  | fpStats (w : Nat)
  /-- FP_COUNTERS (R415). -/
  | fpCounters (w : Nat)
  /-- FP_GATE_LIST (R415). -/
  | fpGateList (w : Nat)
  /-- FP_PORT_ENABLE (R410). -/
  | fpPortEnable (w : Nat)
  /-- FP_GATE_SET (R408). -/
  | fpGateSet (w : Nat)
  /-- FP_GATE_ENABLE (R409). -/
  | fpGateEnable (w : Nat)
  /-- FP_PLCA_SET (R396). -/
  | fpPlcaSet (w : Nat)
  /-- FP_RULE_SET (R401). -/
  | fpRuleSet (w : Nat)
  /-- ECC_SCRUB (R431). -/
  | eccScrub (e : EccReport)
  /-- QW_DATA_READ (R436). -/
  | qwDataRead (o : Origin) (w : Nat)
  /-- QW_TAGGED_READ (R437). -/
  | qwTaggedRead (o : Origin) (w : Nat)
  /-- QW_POP_SKIP (R434). -/
  | qwPopSkip (o : Origin) (w : Nat) (v : Word)
  /-- QW_TX_DATA (R438). -/
  | qwTxData (o : Origin) (w : Nat) (v : Word)
  /-- QW_TX_END (R438). -/
  | qwTxEnd (o : Origin) (w : Nat) (v : Word)
  /-- LT_CTRL_WRITE (R449). -/
  | ltCtrlWrite (o : Origin) (n : Nat) (v : Word)
  /-- LT_TAIL_WRITE (R446). -/
  | ltTailWrite (o : Origin) (n : Nat) (v : Word)
  /-- LT_RING_CONFIG_WRITE (R448). -/
  | ltRingConfigWrite (o : Origin) (n : Nat) (off : Nat) (v : Word)
  /-- LIGHTER_BURST (R443). -/
  | lighterBurst (n : Nat) (m : HostMem)
  /-- RING_WAIT_EXPIRY (R444). -/
  | ringWaitExpiry (n : Nat)
  /-- HOST_MEMORY_TIMEOUT (R440). -/
  | hostMemoryTimeout (n : Nat)
  /-- POOL_STATUS (R453). -/
  | poolStatus (w : Nat)
  /-- QUEUE_STATUS (R451). -/
  | queueStatus (w : Nat)
  /-- POOL_STATS (R451). -/
  | poolStats (w : Nat)
  /-- LIGHTER_STATUS (R451). -/
  | lighterStatus (w : Nat)
  /-- QW_BIND (R432). -/
  | qwBind (w : Nat)
  /-- LT_BIND (R451). -/
  | ltBind (w : Nat)
  /-- QBUS_FRAME_RX (R470). -/
  | qbusFrameRx (c : Nat) (f : CanFrame)
  /-- QBUS_TX_ATTEMPT (R465). -/
  | qbusTxAttempt (c loop : Nat) (r : CanTx)
  /-- BUS_INTEGRATION (R460). -/
  | busIntegration (c : Nat)
  /-- BUS_OFF_RECOVERY (R461). -/
  | busOffRecovery (c : Nat)
  /-- QBUS_STATUS (R477). -/
  | qbusStatus (w : Nat)
  /-- QBUS_STATS (R477). -/
  | qbusStats (w : Nat)
  /-- QBUS_SEND (R477). -/
  | qbusSend (w : Nat)
  /-- QBUS_ENABLE (R474). -/
  | qbusEnable (w : Nat)
  /-- QBUS_FILTER_SET (R470). -/
  | qbusFilterSet (w : Nat)
  /-- QBUS_FLUSH (R477). -/
  | qbusFlush (w : Nat)
  /-- MF9_SAMPLE_FRAME (R29). -/
  | mf9SampleFrame (count : Nat) (crcOk : Bool) (samples : List Int)
  /-- MF9_FRAME_TIMEOUT (R485). -/
  | mf9FrameTimeout
  /-- LINK_GAP_START (R485). -/
  | linkGapStart
  /-- LINK_GAP_END (R485). -/
  | linkGapEnd
  /-- NO_CROSSING_ENTRY (R487). -/
  | noCrossingEntry (c : Nat)
  /-- NO_CROSSING_WINDOW (R487). -/
  | noCrossingWindow (c : Nat)
  /-- PULSE_EMIT (R496). -/
  | pulseEmit (output : Nat)
  /-- PULSE_BACKLOG_EMIT (R497). -/
  | pulseBacklogEmit (output : Nat)
  /-- METERING_SAVE (R499). -/
  | meteringSave
  /-- METERING_SAVE_COMPLETE (R499). -/
  | meteringSaveComplete
  /-- POWER_FAIL_SAVE_REPEAT (R500). -/
  | powerFailSaveRepeat
  /-- MAIN_DOMAIN_LOSS (R502). -/
  | mainDomainLoss (cycles : Nat)
  /-- BATTERY_BURST (R504). -/
  | batteryBurst (supply : Bool) (rms : List Nat)
  /-- MTR_STATUS (R512). -/
  | mtrStatus (w : Nat)
  /-- MTR_POINT (R513). -/
  | mtrPoint (w : Nat)
  /-- MTR_INTERVAL (R510). -/
  | mtrInterval (w : Nat)
  /-- MTR_BATTERY_LOG (R510). -/
  | mtrBatteryLog (w : Nat)
  /-- MTR_POINT_ENABLE (R507). -/
  | mtrPointEnable (w : Nat)
  /-- MTR_PULSE_SET (R497). -/
  | mtrPulseSet (w : Nat)
  /-- MTR_SAVE (R499). -/
  | mtrSave (w : Nat)
  /-- MTR_BATTERY_LOG_CLEAR (R510). -/
  | mtrBatteryLogClear (w : Nat)
  /-- LAMP_SLOT_FRAME (R516). -/
  | lampSlotFrame (port : Nat)
  /-- LAMP_STATUS_FRAME (R518). -/
  | lampStatusFrame (port : Nat) (frame : List Byte)
  /-- LAMP_STATUS_COLLECT (R518). -/
  | lampStatusCollect (port : Nat)
  /-- LAMP_FAULT_EVAL (R521). -/
  | lampFaultEval (port : Nat)
  /-- SIGN_FRAME_START (R526). -/
  | signFrameStart (port : Nat)
  /-- SIGN_SYNC_EDGE (R526). -/
  | signSyncEdge (us : Nat)
  /-- SIGN_SYNC_TIMEOUT (R526). -/
  | signSyncTimeout (port : Nat)
  /-- SIGN_SWAP_EDGE (R528). -/
  | signSwapEdge (port : Nat)
  /-- LAMP_STATUS (R532). -/
  | lampStatus (w : Nat)
  /-- SIGN_STATUS (R532). -/
  | signStatus (w : Nat)
  /-- LAMP_SIGN_STATS (R532). -/
  | lampSignStats (w : Nat)
  /-- LAMP_LEVEL (R520). -/
  | lampLevel (w : Nat)
  /-- LAMP_FAULT_CLEAR (R522). -/
  | lampFaultClear (w : Nat)
  /-- LAMP_ENABLE (R530). -/
  | lampEnable (w : Nat)
  /-- SIGN_WRITE (R527). -/
  | signWrite (w : Nat)
  /-- SIGN_SWAP (R528). -/
  | signSwap (w : Nat) (us : Nat)
  /-- SIGN_STREAM (R527). -/
  | signStream (w : Nat)
  /-- SIGN_ENABLE (R530). -/
  | signEnable (w : Nat)
  /-- SIGN_BRIGHTNESS (R532). -/
  | signBrightness (w : Nat)
  /-- FEED_SAMPLE (R535). -/
  | feedSample (feed : Nat) (mv : Nat) (ma : Nat)
  /-- FEED_RECLOSE (R535). -/
  | feedReclose (feed : Nat)
  /-- POWER_FAIL_SIGNAL (R537). -/
  | powerFailSignal
  /-- POWER_FAIL_CLEAR (R538). -/
  | powerFailClear
  /-- CLAIM_LINE_SAMPLE (R545). -/
  | claimLineSample (level : Bool)
  /-- TWIN_CLAIM_FRAME_RX (R544). -/
  | twinClaimFrameRx (frame : List Byte)
  /-- DEMOTION_EDGE (R547). -/
  | demotionEdge
  /-- TWIN_LINK_TIMEOUT (R563). -/
  | twinLinkTimeout
  /-- CHECKPOINT_START (R549). -/
  | checkpointStart
  /-- CHECKPOINT_BLOCK_RX (R550). -/
  | checkpointBlockRx (b : CkptBlock)
  /-- HEALTH_REPORT_SEND (R553). -/
  | healthReportSend
  /-- HEALTH_REPORT_RX (R553). -/
  | healthReportRx (frame : List Byte)
  /-- HEALTH_REPORT_TIMEOUT (R553). -/
  | healthReportTimeout
  /-- REHEARSAL_START (R552). -/
  | rehearsalStart
  /-- REHEARSAL_COMPLETE (R552). -/
  | rehearsalComplete (ok : Bool) (ms : Nat)
  /-- TAKEOVER (R555). -/
  | takeover
  /-- SWITCHOVER_CHECK (R557). -/
  | switchoverCheck
  /-- SWITCHOVER_EDGE (R557). -/
  | switchoverEdge
  /-- TERM_SET_EDGE (R558). -/
  | termSetEdge
  /-- TERM_HALT_EXPIRY (R558). -/
  | termHaltExpiry
  /-- ROLE_START (R539). -/
  | roleStart
  /-- PR_STATUS (R562). -/
  | prStatus (w : Nat)
  /-- PR_HEALTH (R560). -/
  | prHealth (w : Nat)
  /-- PR_CHECKPOINTS (R560). -/
  | prCheckpoints (w : Nat)
  /-- PR_SWITCHOVER (R557). -/
  | prSwitchover (w : Nat)
  /-- PR_TERM_SET (R558). -/
  | prTermSet (w : Nat)
  /-- PR_REHEARSE (R552). -/
  | prRehearse (w : Nat)
  /-- PR_THERMAL_STATUS (R646). -/
  | prThermalStatus (w : Nat)
  /-- THERMAL_EVALUATION (R645). -/
  | thermalEvaluation (mean : Int)
  /-- UPD_STATUS (R592). -/
  | updStatus (w : Nat)
  /-- UPD_MANIFEST (R590). -/
  | updManifest (w : Nat)
  /-- UPD_IMAGES (R590). -/
  | updImages (w : Nat)
  /-- UPD_CAMPAIGN_STATUS (R590). -/
  | updCampaignStatus (w : Nat)
  /-- UPD_CAMPAIGN_NODE (R590). -/
  | updCampaignNode (w : Nat)
  /-- UPD_LOAD_BEGIN (R572). -/
  | updLoadBegin (w : Nat)
  /-- UPD_LOAD_DATA (R573). -/
  | updLoadData (w : Nat)
  /-- UPD_LOAD_END (R574). -/
  | updLoadEnd (w : Nat)
  /-- PACKAGE_VERIFY_COMPLETE (R574). -/
  | packageVerifyComplete
  /-- INSTALL_COMPLETE (R575). -/
  | installComplete (readBackOk : Bool)
  /-- UPD_CANCEL (R590). -/
  | updCancel (w : Nat)
  /-- UPD_ACTIVATE (R576). -/
  | updActivate (w : Nat)
  /-- ACTIVATION_EDGE (R577). -/
  | activationEdge
  /-- CONFIRMATION (R580). -/
  | confirmation
  /-- TRIAL_WINDOW_EXPIRY (R581). -/
  | trialWindowExpiry
  /-- UPD_CONFIRM (R579). -/
  | updConfirm (w : Nat)
  /-- UPD_ROLLBACK (R582). -/
  | updRollback (w : Nat)
  /-- UPD_INSTALL (R575). -/
  | updInstall (w : Nat)
  /-- UPD_CAMPAIGN_START (R585). -/
  | updCampaignStart (w : Nat)
  /-- UPD_CAMPAIGN_STOP (R589). -/
  | updCampaignStop (w : Nat)
  /-- UPD_IMAGE_DELETE (R584). -/
  | updImageDelete (w : Nat)
  /-- FW_ACTIVATE_RESEND (R588). -/
  | fwActivateResend (node : Nat)
  /-- LOG_STAGING_FLUSH (R597). -/
  | logStagingFlush
  /-- LOG_HALF_CLOSE (R598). -/
  | logHalfClose
  /-- LOG_SEGMENT_COPY (R598). -/
  | logSegmentCopy
  /-- LOG_SUPPRESSED_WRITE (R602). -/
  | logSuppressedWrite
  /-- LOG_EXPORT_WRITE (R604). -/
  | logExportWrite (w : Nat)
  /-- LOG_STATUS (R606). -/
  | logStatus (w : Nat)
  /-- LOG_READ (R603). -/
  | logRead (w : Nat)
  /-- LOG_EXPORT (R604). -/
  | logExport (w : Nat)
  /-- LOG_EXPORT_STOP (R604). -/
  | logExportStop (w : Nat)
  /-- LOG_NOTE (R605). -/
  | logNote (w : Nat)
  /-- LOG_LIMIT_SET (R606). -/
  | logLimitSet (w : Nat)
  /-- COLD_START (R608). -/
  | coldStart
  /-- EXTERNAL_RESET (R633). -/
  | externalReset (lowNs : Nat) (recovLow : Bool)
  /-- START_TIMEOUT (R615). -/
  | startTimeout
  /-- ROM_START (R612). -/
  | romStart (recovLow : Bool)
  /-- HARBOURMASTER_RUN (R614). -/
  | harbourmasterRun (cycles : Nat)
  /-- CONFIG_CHECKED (R614). -/
  | configChecked (plate : Int)
  /-- DIES_LOADED (R616). -/
  | diesLoaded
  /-- SERVICES_STARTED (R613). -/
  | servicesStarted
  /-- INFO (R622). -/
  | recInfo (c : Nat)
  /-- BEGIN (R622). -/
  | recBegin (c : Nat) (total : Nat)
  /-- DATA (R622). -/
  | recData (c : Nat) (offset : Nat) (data : List Byte)
  /-- END (R622). -/
  | recEnd (c : Nat)
  /-- RECOVERY_INSTALL_COMPLETE (R622). -/
  | recoveryInstallComplete (readBackOk : Bool)
  /-- RESTART (R622). -/
  | recRestart (c : Nat)
  /-- RECOVERY_OWNER_TIMEOUT (R620). -/
  | recoveryOwnerTimeout
  /-- GPIO_INPUT_EDGE (R639). -/
  | gpioInputEdge (pin : Nat) (level : Bool) (ns : Nat)
  /-- SYS_GPIO (R638). -/
  | sysGpio (w : Nat)
  /-- SYS_GPIO_SET (R638). -/
  | sysGpioSet (w : Nat)
  /-- EXT_PPS_LOSS (R153). -/
  | extPpsLoss
  /-- PTP_ANNOUNCE_SEND (R143). -/
  | ptpAnnounceSend (port : Nat)
  /-- PTP_DELAY_RESP_RX (R139). -/
  | ptpDelayRespRx (port : Nat) (seq : Nat) (m : DelayResp) (corr : Int)
  /-- GUARD_TIMER_EXPIRY (R399). -/
  | guardTimerExpiry
  /-- TWIN_LINK_SYNC_LOSS (R563). -/
  | twinLinkSyncLoss
  /-- SWAP_COPY_COMPLETE (R528). -/
  | swapCopyComplete (port : Nat)
  /-- BIT_SYNC (R294). -/
  | bitSync (r : ChanReport)
  /-- SECONDARY_CODE_ALIGNMENT (R278). -/
  | secondaryCodeAlignment (r : ChanReport)
  /-- FRAME_PREAMBLE (R295). -/
  | framePreamble (r : ChanReport)
  /-- RECOVERY_VERIFY_COMPLETE (R622). -/
  | recoveryVerifyComplete
  /-- ARP_REQUEST (R620). -/
  | arpRequest (target : Nat)
  deriving DecidableEq, Repr

end Sys2Proof
end

