-- ==== Sys2Proof/Decode.lean ====
section
/-! DEFINITION. Sys2Proof/Decode.lean: the command that a table word spells. The operations table gives no row any bits:
its commands are operations and instants, not words. -/

namespace Sys2Proof

/-- The command of a word of the table's bits: none, since no row of the table gives bits. -/
def decodeTableWord (_nbits _w : Nat) : Option Instr := none

end Sys2Proof
end

