-- ==== Sys2Proof/Config.lean ====
section
/-! DEFINITION. Sys2Proof/Config.lean: the configuration parameters of every service with their factory defaults
(R119, R123, R126 and the chapter of each service), the table type they and the State use, and the values the spec
leaves open, as constants without a body. -/

namespace Sys2Proof

/-- A sparse table: key and entry pairs, keys strictly rising, no entry equal to what an unlisted key reads as. -/
abbrev Tbl (α : Type) := List (Nat × α)

/-! ## Parameters of the services -/

/-- Host section, type 0x0001: change-rights masks per register origin and per certificate (R106), whether window 7 is
reserved for USB (R92), the TLS port and the frame ports it is open on, and the trust anchors of client certificates by
numbers of the model's own (R110, R118). -/
structure HostPar where
  rightsPcie : BitVec 32 := 0x0003FFFE
  rightsSpi  : BitVec 32 := 0x0003FFFE
  rightsUsb  : BitVec 32 := 0x0003FFFE
  usbWindow7 : Bool := true
  certRights : Tbl (BitVec 32) := []
  tlsPorts   : BitVec 14 := 0
  tlsTcp     : Nat := 7420
  anchors    : List Nat := []
  deriving DecidableEq, Repr, Inhabited

/-- Time section, type 0x0003 (R157, R159, R164, R166, R143, R139). -/
structure TimePar where
  prioRing : Nat := 1
  prioGnss : Nat := 2
  prioExt  : Nat := 3
  holdoff  : Nat := 6000
  stepNs   : Nat := 1000
  jumpNs   : Nat := 100000
  ppsWidth : Nat := 100
  ppsMode  : Nat := 0
  pinLimit : Nat := 10000
  priority1 : Nat := 128
  priority2 : Nat := 128
  clockId  : Nat := 0
  inst     : Tbl Nat := []
  ingress  : Tbl Int := []
  egress   : Tbl Int := []
  asym     : Tbl Int := []
  /-- domainNumber of the IEEE 1588-2019 instance (R139). -/
  domain   : Nat := 0
  /-- Ports whose instance uses UDP over IPv4 (R139). -/
  udp      : BitVec 14 := 0
  /-- Ring ports that use the peer-to-peer delay mechanism in the IEEE 1588-2019 instance (R139). -/
  p2p      : BitVec 2 := 0
  /-- logSyncInterval, logAnnounceInterval and the interval of Delay_Req or Pdelay_Req of a port, where configuration gives
  one (R139, R140). -/
  logSync  : Tbl (Option Int) := []
  logAnnounce : Tbl (Option Int) := []
  logDelay : Tbl (Option Int) := []
  deriving DecidableEq, Repr, Inhabited

/-- One airtime budget entry (R218). `budgetUs` is the budget of one window in µs, none for no budget. -/
structure BudgetEntry where
  loKhz    : Nat := 0
  hiKhz    : Nat := 0
  budgetUs : Option Nat := none
  windowS  : Nat := 0
  reservePct : Nat := 25
  capDbm   : Int := 27
  lbt      : Bool := false
  deriving DecidableEq, Repr, Inhabited

/-- Radio section, type 0x0004 (R192, R193, R198, R204, R209, R210, R218, R224, R368). -/
structure RadioPar where
  region   : Nat := 0
  pan      : Nat := 0
  segment  : Nat := 0
  ebPeriod : Nat := 1
  ebKeyIndex : Nat := 1
  /-- The EB key, the broadcast key and its index (R210, R241, R246). -/
  ebKey    : List Byte := []
  bcastKeyIndex : Nat := 1
  bcastKey : List Byte := []
  /-- Hopping sequence S of each coaxial port ANT-SG0 to ANT-SG3 (R198). -/
  hopSub   : Tbl (List Nat) := []
  offsets  : Tbl Nat := []
  recChannel : Tbl Nat := []
  hopHb    : List Nat := []
  modes    : Tbl Nat := []
  powers   : Tbl Int := []
  inService : BitVec 12 := 0xFFF
  chan0Khz : Nat := 0
  spacingKhz : Nat := 0
  entries  : List BudgetEntry := []
  hbEntry  : BudgetEntry := { loKhz := 2400000, hiKhz := 2483500, capDbm := 20 }
  /-- MAC parameters of nodes in shared cells, and the CCA thresholds in dBm (R217). -/
  macMinBe : Nat := 1
  macMaxBe : Nat := 5
  macRetries : Nat := 3
  ccaSub   : Int := -85
  ccaHb    : Int := -75
  deriving DecidableEq, Repr, Inhabited

/-- A node of the node list: node ID, EUI-64, feeder, lighting groups, join key, schedule entries and scene levels (R241, R244,
R245, R257, R269). -/
structure NodeCfg where
  node   : Nat := 0
  eui    : Nat := 0
  feeder : Nat := 255
  groups : List Nat := []
  joinKey : List Byte := []
  schedule : List (Nat × Nat) := []
  scenes : List (Nat × Nat) := []
  deriving DecidableEq, Repr, Inhabited

/-- A dimming rule (R257). -/
structure Rule where
  source  : Nat := 0
  srcId   : Nat := 0
  channel : Nat := 0
  classMask : Nat := 0
  group   : Nat := 0
  level   : Nat := 0
  lead    : Nat := 0
  trail   : Nat := 0
  hold    : Nat := 10
  enabled : Bool := false
  deriving DecidableEq, Repr, Inhabited

/-- Floor, safe level and hold time of a lighting group (R251). -/
structure GroupPar where
  floor    : Nat := 0
  safe     : Nat := 1000
  holdTime : Nat := 900
  deriving DecidableEq, Repr, Inhabited

/-- Lantern section, type 0x0005 (R234, R247, R251, R257, R264, R268, R270, R271). -/
structure LanternPar where
  nodes     : List NodeCfg := []
  versions  : Nat := 0b1110
  rules     : Tbl Rule := []
  groups    : Tbl GroupPar := []
  lostTides : Nat := 60000
  upPeriod  : Nat := 6000
  fwShare   : Nat := 20
  reportWindow : Nat := 6500
  lossPpm   : Nat := 20000
  standbyMw : Nat := 500
  tolPpm    : Nat := 50000
  tolAbs    : Nat := 20000000
  spansK    : Nat := 2
  bowWaves  : Bool := true
  deriving DecidableEq, Repr, Inhabited

/-- GNSS loop parameters of one signal code on one antenna (R292, R294): PLL in 0.25 Hz, FLL in Hz, DLL in 0.05 Hz,
spacings in 1/64 chip, integration time in ms. -/
structure LoopPar where
  tMs : Nat := 20
  pll : Nat := 60
  fll : Nat := 10
  dll : Nat := 10
  dN  : Nat := 8
  dF  : Nat := 32
  deriving DecidableEq, Repr, Inhabited

/-- A notch filter's settings (R282): mode 0 off, 1 adaptive, 2 fixed; width code; depth in dB. -/
structure NotchPar where
  mode  : Nat := 1
  width : Nat := 1
  offset : Int := 0
  depth : Nat := 40
  deriving DecidableEq, Repr, Inhabited

/-- False-signal test parameters (R305, R306, R307): r_max in 1/1,000 cycle, f_max in per cent, m_hi and g_lo in 1/100. -/
structure FsPar where
  rMax : Nat := 150
  fMax : Nat := 25
  mHi  : Nat := 90
  gLo  : Nat := 60
  nMin : Nat := 6
  fsFail : Nat := 3
  fsPass : Nat := 30
  elevMin : Nat := 15
  cn0Min : Nat := 35
  deriving DecidableEq, Repr, Inhabited

/-- GNSS section, type 0x0006 (R281 to R286, R294, R305, R309). -/
structure GnssPar where
  bias    : Tbl Nat := []
  notches : Tbl NotchPar := []
  detDb   : Nat := 12
  jamOn   : Nat := 24
  jamOff  : Nat := 16
  fs      : FsPar := {}
  loops   : Tbl LoopPar := []
  deriving DecidableEq, Repr, Inhabited

/-- A mountpoint's output (R323, R326, R327). -/
structure MountPar where
  msm     : Nat := 4
  rate    : Nat := 0
  station : Nat := 0
  stationTides : Nat := 1000
  auth    : Bool := false
  deriving DecidableEq, Repr, Inhabited

/-- Reference and positioning section, type 0x0007 (R317 to R343). -/
structure RefPar where
  enabled  : Bool := false
  posEnabled : Bool := false
  stationId : Nat := 0
  refFix   : Option Ecef := none
  monFix   : Option Ecef := none
  refHeight : Nat := 0
  survey   : Bool := true
  monSurvey : Bool := true
  minTides : Nat := 360000
  maxTides : Nat := 8640000
  limitMm  : Nat := 2000
  mounts   : Tbl MountPar := []
  casterPorts : BitVec 14 := 0
  users    : List Nat := []
  hLim     : Nat := 30
  vLim     : Nat := 60
  nAlarm   : Nat := 3
  nClear   : Nat := 100
  maskDeg  : Nat := 5
  requireFs : Bool := true
  cableDelay : Int := 0
  slots    : Tbl Nat := []
  refPco   : Tbl (Int × Int × Int) := []
  monPco   : Tbl (Int × Int × Int) := []
  obsPort  : Nat := 7421
  casterTcp : Nat := 2101
  deriving DecidableEq, Repr, Inhabited

/-- A vehicle of the fleet section: configured (R354, R358). -/
structure VehicleCfg where
  present : Bool := false
  linkKey : List Byte := []
  obsKey  : List Byte := []
  /-- Field port, IPv4 address and UDP port of its solution records (R337). -/
  fieldPort : Nat := 0
  addr    : Nat := 0
  posUdp  : Nat := 7422
  deriving DecidableEq, Repr, Inhabited

/-- A track map cell: its zone, its conflict set and its lantern list (R346). -/
structure CellCfg where
  zone      : Nat := 0
  conflicts : List Nat := []
  lanterns  : List Nat := []
  deriving DecidableEq, Repr, Inhabited

/-- Fleet section, type 0x0008, with the map it names (R346, R354, R369, R372, R373). -/
structure FleetPar where
  enabled   : Bool := false
  /-- The map that the section names: map ID and SHA-256 digest (R346). -/
  map       : Option (Nat × List Byte) := none
  /-- UDP ports of the fleet link, to vehicles and from them (R358). -/
  txPort    : Nat := 7423
  rxPort    : Nat := 7424
  vehicles  : Tbl VehicleCfg := []
  cells     : Tbl CellCfg := []
  hMin      : Nat := 50
  brake     : Tbl Nat := []
  gap       : Nat := 100
  pathLead  : Nat := 20
  misses    : Nat := 2
  inputMask : BitVec 64 := 0xFFFFFFFFFFFFFFFF
  latched   : Bool := true
  discrepancyMs : Nat := 100
  hornKey   : Nat := 1
  /-- The MAC key and the tag key of horn key pairs 1 to 4 (R368). -/
  hornMac   : Tbl (List Byte) := []
  hornTag   : Tbl (List Byte) := []
  deriving DecidableEq, Repr, Inhabited

/-- A gate control list (R405): cycle length N and phase Q in tides, entries of states and interval in ns. -/
structure GateList where
  n : Nat := 0
  q : Nat := 0
  entries : List (BitVec 8 × Nat) := []
  deriving DecidableEq, Repr, Inhabited

/-- A classification rule (R401), its flags selecting the match fields (R415). -/
structure FpRule where
  enable : Bool := false
  action : Nat := 0
  copy   : Nat := 0xFF
  owner  : Nat := 0
  ports  : BitVec 14 := 0
  flags  : BitVec 8 := 0
  dstMac : Nat := 0
  ethertype : Nat := 0
  vid    : Nat := 0
  pcp    : Nat := 0
  dscp   : Nat := 0
  ipProto : Nat := 0
  l4port : Nat := 0
  deriving DecidableEq, Repr, Inhabited

/-- PLCA parameters of a cabinet port (R396). -/
structure PlcaPar where
  on        : Bool := true
  nodeId    : Nat := 0
  nodeCount : Nat := 8
  toTimer   : Nat := 32
  burstCount : Nat := 0
  burstTimer : Nat := 128
  deriving DecidableEq, Repr, Inhabited

/-- Frame port section, type 0x0009 (R387, R390, R396, R398, R399, R401, R405). -/
structure PortsPar where
  enabled  : BitVec 14 := 0
  sgmii    : BitVec 14 := 0
  maxFrame : Tbl Nat := []
  pvid     : Tbl Nat := []
  members  : Tbl (BitVec 14) := []
  tagged   : Tbl (BitVec 14) := []
  ageing   : Nat := 300
  rplOwner : Bool := false
  rplPort  : Nat := 0
  controlVlan : Nat := 4094
  wtrMin   : Nat := 5
  plca     : Tbl PlcaPar := []
  gates    : Tbl GateList := []
  gatesOn  : BitVec 14 := 0
  rules    : Tbl FpRule := []
  deriving DecidableEq, Repr, Inhabited

/-- Pool section, type 0x000A (R423): alpha as an exponent code 0–7 for 1/16 to 8. -/
structure PoolPar where
  qMin  : Tbl Nat := []
  qMax  : Tbl Nat := []
  alpha : Nat := 4
  pMax  : Tbl Nat := []
  ctBytes : Tbl Nat := []
  deriving DecidableEq, Repr, Inhabited

/-- A receive filter (R470). -/
structure Filter where
  formats : BitVec 8 := 0
  action  : Nat := 0
  window  : Nat := 0
  enable  : Bool := false
  id      : BitVec 32 := 0
  idMask  : BitVec 32 := 0
  af      : BitVec 32 := 0
  afMask  : BitVec 32 := 0
  deriving DecidableEq, Repr, Inhabited

/-- Bit timing of a phase (R457): rate in bit/s, prescaler, segments and jump width in time quanta. -/
structure BitTiming where
  rate  : Nat := 500000
  presc : Nat := 2
  tseg1 : Nat := 63
  tseg2 : Nat := 16
  sjw   : Nat := 16
  deriving DecidableEq, Repr, Inhabited

/-- One quay bus channel's parameters (R455 to R459, R465, R467): format set 0 classical, 1 FD, 2 XL; an offset of
none is the data-phase sample point (R458). -/
structure QuayChPar where
  enabled  : Bool := false
  formatSet : Nat := 0
  listenOnly : Bool := false
  triple   : Bool := false
  tms      : Bool := false
  nominal  : BitTiming := {}
  data     : BitTiming := { rate := 2000000, presc := 1, tseg1 := 27, tseg2 := 12, sjw := 12 }
  tdcOffset : Option Nat := none
  exceptionOn : Bool := true
  retryLimit : Nat := 0
  claims   : Bool := false
  claimId  : Nat := 0
  claimKey : List Byte := []
  listen   : List Nat := []
  form     : Nat := 0
  filters  : Tbl Filter := []
  deriving DecidableEq, Repr, Inhabited

/-- A metering point's parameters (R481, R489). -/
structure PointPar where
  busbar   : Nat := 0
  reversed : Bool := false
  ratedA   : Nat := 0
  billing  : Option Bool := none
  noLoadMa : Option Nat := none
  enabled  : Bool := true
  deriving DecidableEq, Repr, Inhabited

/-- A pulse output's parameters (R495): point none is off. -/
structure PulsePar where
  point  : Option Nat := none
  export_ : Bool := false
  const  : Nat := 1000
  width  : Nat := 2
  deriving DecidableEq, Repr, Inhabited

/-- Metering section, type 0x000C (R481, R482, R486, R495, R504, R505). Scales are in units of 1/1,000 V or A at full
scale, absent for unit scaling; a feeder current channel has one scale and phase correction per gain. -/
structure MeterPar where
  points   : Tbl PointPar := []
  scaled   : Bool := false
  scales   : Tbl (List Nat) := []
  phase    : Tbl (List Int) := []
  nominalV : Nat := 230
  pulses   : Tbl PulsePar := []
  battery  : Bool := true
  theftMa  : Tbl Nat := []
  len      : Nat := 90000
  phaseP   : Nat := 0
  deriving DecidableEq, Repr, Inhabited

/-- A sign port's geometry (R523). -/
structure SignPar where
  width  : Nat := 0
  height : Nat := 0
  mode   : Nat := 0
  brightness : Nat := 1000
  deriving DecidableEq, Repr, Inhabited

/-- A lamp-string port's parameters (R515, R521): zero lamps is not configured; the nominal lamp voltage, of which the limits for
SHORT and HIGH are 30 % and 130 % where they are not set; groups per lamp (R520). -/
structure LampPar where
  lamps     : Nat := 0
  currentMa : Nat := 0
  nominalMv : Nat := 0
  shortMv   : Option Nat := none
  highMv    : Option Nat := none
  groups    : Tbl Nat := []
  deriving DecidableEq, Repr, Inhabited

/-- Lamp and sign section, type 0x000D. -/
structure LampSignPar where
  lamps : Tbl LampPar := []
  signs : Tbl SignPar := []
  deriving DecidableEq, Repr, Inhabited

/-- Redundancy section, type 0x000E (R539); in single mode the module is unit 1 (log entry 46). -/
structure PrPar where
  pair : Bool := false
  unit : Nat := 1
  twinKey : List Byte := []
  deriving DecidableEq, Repr, Inhabited

/-- Rate and burst of a logbook code or severity (R601); rate 0 is no limit. -/
structure RatePar where
  rate  : Nat := 10
  burst : Nat := 20
  deriving DecidableEq, Repr, Inhabited

/-- Logbook section, type 0x0010 (R600, R601, R607). -/
structure LogPar where
  floor : Nat := 5
  sev   : Tbl RatePar := []
  codes : Tbl RatePar := []
  coded : List Nat := []
  alert : Nat := 6
  deriving DecidableEq, Repr, Inhabited

/-- System section, type 0x0011 (R637): mode, initial level and selected edges (bit 0 rising, bit 1 falling). -/
structure GpioPar where
  mode  : Nat := 0
  level : Bool := false
  edges : BitVec 2 := 0
  deriving DecidableEq, Repr, Inhabited

/-- Interval length and phase of a statistic group (R55). -/
structure StatPar where
  len   : Nat := 6000
  phase : Nat := 0
  deriving DecidableEq, Repr, Inhabited

/-- All parameters of one configuration, section by section (R118); a value written here as a default is the factory
default of its service (R119, R123). -/
structure SiteConfig where
  host    : HostPar := {}
  time    : TimePar := {}
  radio   : RadioPar := {}
  lantern : LanternPar := {}
  gnss    : GnssPar := {}
  ref     : RefPar := {}
  fleet   : FleetPar := {}
  ports   : PortsPar := {}
  pool    : PoolPar := {}
  quay    : Tbl QuayChPar := []
  meter   : MeterPar := {}
  lampSign : LampSignPar := {}
  pr      : PrPar := {}
  log     : LogPar := {}
  gpio    : Tbl GpioPar := []
  stats   : Tbl StatPar := []
  deriving DecidableEq, Repr, Inhabited

namespace Config

/-! ## Open values

Constants without a body. A statement about the machine holds for every value of them. Each is named in a row of the
assumption log. -/

/-- The quiet level of an RF channel set at manufacture, in 0.25 dB (R287): part of the device. -/
opaque quietLevel : Nat → Nat

/-- A value the spec does not state: a fresh 64-bit value per draw, applied to the State's draw counter (log entry 1). -/
opaque freeValue : Nat → BitVec 64

/-- The parameters that a section's bytes carry: Ramnis lays them out, and the spec gives no layout (R118, log entry 2). The
arguments are the image's schema, the section's type and its bytes; only the fields of that section are taken from the answer, and none means that
the bytes cannot be read. -/
opaque sectionFields : Nat → Nat → List Byte → Option SiteConfig

/-- Whether a TLS connection can take event records in a tide: the session and the count of tides (R108, log entry 96). -/
opaque tlsSends : Nat → Nat → Bool

/-- The schema 7 sections that an image of schema 4 to 6 translates into; none where a parameter has no schema 7 meaning, and
the number of that parameter (R131, R132, log entry 2). -/
opaque migrated : List Byte → Option (List (Nat × List Byte))
opaque badParameter : List Byte → Nat

/-- The 96-byte ECDSA P-384 signature of the module's device key over a content (R131, log entry 100). -/
opaque deviceSign : List Byte → List Byte

/-- A key that configuration does not give (log entry 3). -/
opaque unsetKey : List Byte

/-- The nonce of a checkpoint's tag by its seq and start tide, which no rule states (R549, log entry 37). -/
opaque ckptNonce : Nat → Nat → List Byte

/-- The OTP content the module is made with: serial, MAC address, extended addresses, the key of a slot
(R115, R121, R192, R389; log entry 4). -/
opaque serial : Nat
opaque otpKey : Nat → List Byte
opaque macAddress : Nat
opaque transceiverEui : Nat → Nat
opaque dieRevision : Nat → Nat
opaque romVersion : Nat
/-- The priority of an entry that passes a control queue, where no rule states it (R421, log entry 112). -/
opaque ctrlPriority : Nat → BitVec 8

/-- The berth that the free list offers for a place of a stored frame, before those that are taken are passed over (R418). -/
opaque berthOf : Nat → Nat → Nat

/-- clockAccuracy and offsetScaledLogVariance of the module as a grandmaster (R143 names neither; log entry 21). -/
opaque clockAccuracy : Nat
opaque clockVariance : Nat

/-- The cells of a map's content in the maps partition (R30), whose layout is Ramnis's own (R346; log entry 4). -/
opaque mapCells : List Byte → Option (Tbl CellCfg)

/-- The logbook code and payload layout of a firmware-listed record (R595, log entry 5): the first argument names the
occurrence, the second its data. -/
opaque logCode : Nat → Nat
opaque logPayload : Nat → List Nat → List Byte

/-- The high-pass filter of R484: the next filter memory and the output, both in units of 2^-16 code, from the memory and
a sample code. The spec gives its order and corner only (log entry 6). -/
opaque hpfNext : Int → Int → Int
opaque hpfOut : Int → Int → Int

/-- The unit vector from the reference antenna to a satellite at an epoch, in ECEF coordinates and units of 10^-9: system,
satellite, tide (R306, log entry 8). -/
opaque satDir : Nat → Nat → Nat → Ecef

/-- A satellite's elevation in degrees above the reference position at an epoch: system, satellite, tide (R325, log
entry 8). -/
opaque satElev : Nat → Nat → Nat → Int

/-- RTCM 10403.3 defines an MSM signal identifier for a signal code (R325, log entry 8). -/
opaque rtcmSignal : Nat → Bool

/-- Code-phase biases of GLONASS L1 C/A and L2 C/A, calibrated at manufacture (R326, log entry 8). -/
opaque gloBias : Nat → BitVec 16

/-- The whole cycles that the encoder adds to a channel's phase-range from a lock on: channel, and the count of tides that ran at
the lock (R324, log entry 115). -/
opaque phaseAlign : Nat → Nat → Int

/-- The receiver group delay of a band in 0.1 ns, calibrated at manufacture (R339, log entry 8). -/
opaque groupDelay : Nat → Int

/-- The time solution: GPS time less module time at an epoch in ns, from the corrected pseudoranges in 2^-10 m by system and
satellite, the phase centre and the epoch tide; the estimator is not stated (R339, log entry 8). -/
opaque gpsTime : List (Nat × Nat × Int) → Ecef → Nat → Int

/-- The fields of a mountpoint's STR record after its type (R327, log entry 34). -/
opaque strFields : Nat → List Byte

/-- The airtime in µs of a SUN-OFDM frame: MCS and PSDU octets (IEEE 802.15.4-2020; R219, R220; log entry 9). -/
opaque ofdmAirUs : Nat → Nat → Nat

/-- The order in which the allotment rules of the fleet section pick a vehicle for a task (R362, log entry 10). -/
opaque allot : Nat → List Nat → Option Nat

/-- Header bytes 0 to 47 and manifest entries of the firmware set the module is made with (R564, R566; log entry 4). -/
opaque factoryHeader : List Byte
opaque factoryManifest : List (List Byte)

/-- What FLEET_TASK answers as the state of a task ID that was never added (R382 gives no code; log entry 1). -/
opaque unusedTask : Nat → Nat

end Config

end Sys2Proof
end

