-- ==== Sys2Proof/Machine/Operands.lean ====
section
/-! DEFINITION. Sys2Proof/Machine/Operands.lean: reading and writing of little-endian fields (R8), the checks CRC-32C,
and the layout that each Tamwyn command's payload must fit (R100). -/

namespace Sys2Proof.Machine

/-- The byte at an offset, zero past the end. -/
def u8 (p : List Byte) (i : Nat) : Nat := (p.getD i 0).toNat

/-- The little-endian field of n bytes at an offset (R8). -/
def leAt (p : List Byte) (i : Nat) : Nat → Nat
  | 0 => 0
  | n + 1 => u8 p i + 256 * leAt p (i + 1) n

def u16 (p : List Byte) (i : Nat) : Nat := leAt p i 2
def u32 (p : List Byte) (i : Nat) : Nat := leAt p i 4
def u64 (p : List Byte) (i : Nat) : Nat := leAt p i 8

/-- A number of n bytes as two's complement. -/
def signed (n v : Nat) : Int := if v < 2 ^ (8 * n - 1) then v else (v : Int) - 2 ^ (8 * n)

/-- The signed little-endian field of n bytes at an offset. -/
def iAt (p : List Byte) (i n : Nat) : Int := signed n (leAt p i n)

/-- The n low bytes of a number, least significant first (R8). -/
def le : Nat → Nat → List Byte
  | 0, _ => []
  | n + 1, v => BitVec.ofNat 8 v :: le n (v / 256)

/-- The n bytes of a signed number in two's complement. -/
def leI (n : Nat) (v : Int) : List Byte := le n (v % (2 ^ (8 * n) : Nat)).toNat

/-- n bytes of zero. -/
def zeros (n : Nat) : List Byte := List.replicate n 0

def bit (b : Bool) : Nat := if b then 1 else 0

/-- The field of n bytes at an offset, most significant byte first, for fields of published standards (R8). -/
def beAt (p : List Byte) (i : Nat) : Nat → Nat
  | 0 => 0
  | n + 1 => u8 p i * 256 ^ n + beAt p (i + 1) n

/-- The n low bytes of a number, most significant first. -/
def be (n v : Nat) : List Byte := (le n v).reverse

/-- The full tide number of a 32-bit tide field: the value with those low bits closest to the current tide, the lower of
two equally close (R46). -/
def fullTide (cur low : Nat) : Nat :=
  let base := cur - cur % 2 ^ 32 + low % 2 ^ 32
  if base ≤ cur then
    if base + 2 ^ 32 - cur < cur - base then base + 2 ^ 32 else base
  else if 2 ^ 32 ≤ base ∧ cur - (base - 2 ^ 32) ≤ base - cur then base - 2 ^ 32 else base

/-- The slice of n bytes at an offset. -/
def slice (p : List Byte) (i n : Nat) : List Byte := (p.drop i).take n

/-- One bit of a reflected CRC with 32-bit register. -/
def crcBit (poly : BitVec 32) : Nat → BitVec 32 → BitVec 32
  | 0, c => c
  | n + 1, c => crcBit poly n (if c.getLsbD 0 then (c >>> 1) ^^^ poly else c >>> 1)

/-- CRC-32C of the bytes: reflected polynomial 0x82F6_3B78, initial value and final exclusive-or all ones. -/
def crc32c (p : List Byte) : Nat :=
  ((p.foldl (fun c b => crcBit 0x82F63B78 8 (c ^^^ b.setWidth 32)) 0xFFFFFFFF) ^^^ 0xFFFFFFFF).toNat

/-- One bit of a reflected CRC with 16-bit register. -/
def crc16Bit (poly : BitVec 16) : Nat → BitVec 16 → BitVec 16
  | 0, c => c
  | n + 1, c => crc16Bit poly n (if c.getLsbD 0 then (c >>> 1) ^^^ poly else c >>> 1)

/-- The 16-bit FCS of IEEE 802.15.4: x^16 + x^12 + x^5 + 1, least significant bit first, initial value zero. -/
def fcs16 (p : List Byte) : Nat :=
  (p.foldl (fun c b => crc16Bit 0x8408 8 (c ^^^ b.setWidth 16)) (0 : BitVec 16)).toNat

/-- Chops a list of bytes into entries of n bytes; the count bounds the recursion. -/
def entriesOf (n : Nat) : Nat → List Byte → List (List Byte)
  | 0, _ => []
  | k + 1, p => p.take n :: entriesOf n k (p.drop n)

/-! ## Statuses (R103) -/

def stOK : Nat := 0x0000
def stACCEPTED : Nat := 0x0001
def stCANCELLED : Nat := 0x0002
def stUNKNOWN : Nat := 0x0010
def stVERSION : Nat := 0x0011
def stNOTNEG : Nat := 0x0012
def stLENGTH : Nat := 0x0013
def stFIELD : Nat := 0x0014
def stSEQ : Nat := 0x0015
def stDENIED : Nat := 0x0020
def stAUTH : Nat := 0x0021
def stBUSY : Nat := 0x0030
def stNORES : Nat := 0x0031
def stLIMIT : Nat := 0x0032
def stSTATE : Nat := 0x0040
def stPROT : Nat := 0x0041
def stLATE : Nat := 0x0050
def stINTEG : Nat := 0x0060
def stTIMEOUT : Nat := 0x0070
def stDOWN : Nat := 0x0080
def stINTERNAL : Nat := 0x00FF

/-! ## Command layouts (R95, R100) -/

/-- The layout of a command's payload: its fixed length, the most bytes a text or data field may add, or a repeated
entry counted by a field, and the reserved ranges that must be zero. -/
structure Layout where
  code : Nat
  len  : Nat := 0
  slack : Nat := 0
  unit : Nat := 0
  cntOff : Nat := 0
  cntSize : Nat := 1
  res  : List (Nat × Nat) := []
  deriving DecidableEq, Repr, Inhabited

/-- The length fits the layout (R100 step 2). -/
def Layout.lenOk (l : Layout) (p : List Byte) : Bool :=
  if l.unit = 0 then l.len ≤ p.length && p.length ≤ l.len + l.slack
  else l.len ≤ p.length && p.length == l.len + l.unit * leAt p l.cntOff l.cntSize

/-- Every reserved field is zero (R100 step 7). -/
def Layout.resOk (l : Layout) (p : List Byte) : Bool :=
  l.res.all fun r => leAt p r.1 r.2 == 0

/-- Session, system and configuration commands (R112, R113, R115, R133). -/
def layoutsCore : List Layout :=
  [ { code := 0x0101, len := 4, unit := 2, cntOff := 0, res := [(1, 1)] },
    { code := 0x0102 }, { code := 0x0103 },
    { code := 0x0104, len := 4, unit := 4, cntOff := 0, res := [(1, 3)] },
    { code := 0x0105, len := 4, unit := 4, cntOff := 0, res := [(1, 3)] },
    { code := 0x0140 },
    { code := 0x1101 }, { code := 0x1102 },
    { code := 0x1140, len := 4, res := [(1, 1)] },
    { code := 0x0201 }, { code := 0x0240, len := 8 },
    { code := 0x0241, len := 8, unit := 1, cntOff := 4, cntSize := 2, res := [(6, 2)] },
    { code := 0x0242 }, { code := 0x0243, len := 8 }, { code := 0x0244 }, { code := 0x0245, len := 8 } ]

/-- Time and RTC commands (R171, R191). -/
def layoutsTime : List Layout :=
  [ { code := 0x0301 }, { code := 0x0302, len := 4, res := [(1, 3)] },
    { code := 0x0340, len := 4 }, { code := 0x0341, len := 4 },
    { code := 0x0342, len := 16, res := [(1, 3)] }, { code := 0x0343, len := 8, res := [(3, 1)] },
    { code := 0x0344, len := 8 }, { code := 0x0345, len := 8, res := [(3, 1)] },
    { code := 0x0303 }, { code := 0x0346, len := 20, res := [(1, 3)] },
    { code := 0x0347, len := 12, res := [(11, 1)] } ]

/-- Radio commands (R230). -/
def layoutsRadio : List Layout :=
  [ { code := 0x0401 }, { code := 0x0402 }, { code := 0x0403, len := 4, res := [(1, 1)] },
    { code := 0x0404, len := 4, res := [(1, 3)] }, { code := 0x0440, len := 4, res := [(2, 2)] },
    { code := 0x0441, len := 4, res := [(2, 2)] }, { code := 0x0442, len := 4, res := [(2, 2)] } ]

/-- Lantern commands (R272). -/
def layoutsLantern : List Layout :=
  [ { code := 0x0501 }, { code := 0x0502, len := 4, res := [(2, 2)] }, { code := 0x0503, len := 4, res := [(1, 3)] },
    { code := 0x0540, len := 16, res := [(1, 1)] }, { code := 0x0541, len := 12, res := [(2, 2)] },
    { code := 0x0542, len := 16, res := [(5, 3)] }, { code := 0x0543, len := 8, res := [(1, 1)] },
    { code := 0x0544, len := 4, res := [(3, 1)] }, { code := 0x0545, len := 4, res := [(2, 2)] },
    { code := 0x0546, len := 4, res := [(3, 1)] }, { code := 0x0547, len := 4, res := [(1, 3)] } ]

/-- GNSS commands (R312). -/
def layoutsGnss : List Layout :=
  [ { code := 0x0601 }, { code := 0x0602, len := 4, res := [(2, 2)] }, { code := 0x0603, len := 4, res := [(1, 3)] },
    { code := 0x0604, len := 4, res := [(1, 3)] }, { code := 0x0640, len := 12, res := [(9, 3)] },
    { code := 0x0641, len := 4, res := [(1, 1)] }, { code := 0x0642, len := 4 },
    { code := 0x0643, len := 4, res := [(2, 2)] }, { code := 0x0644, len := 12, res := [(10, 2)] },
    { code := 0x0645, len := 12, res := [(9, 3)] }, { code := 0x0646, len := 4, res := [(1, 3)] },
    { code := 0x0647, len := 4, res := [(3, 1)] } ]

/-- Reference and positioning commands (R342). -/
def layoutsRef : List Layout :=
  [ { code := 0x0701 }, { code := 0x0702, len := 4, res := [(1, 3)] }, { code := 0x0703 },
    { code := 0x0740, len := 4, res := [(1, 3)] }, { code := 0x0741, len := 12, res := [(11, 1)] },
    { code := 0x0742, len := 52, res := [(27, 1)] }, { code := 0x0743, len := 8, res := [(6, 2)] },
    { code := 0x0744, len := 8, res := [(5, 1)] }, { code := 0x0745, len := 4, res := [(2, 2)] },
    { code := 0x0746, len := 4, res := [(3, 1)] }, { code := 0x0747, len := 4, res := [(1, 3)] } ]

/-- Frame port commands (R415). -/
def layoutsPorts : List Layout :=
  [ { code := 0x0901, len := 4, res := [(1, 3)] }, { code := 0x0902, len := 4, res := [(1, 3)] },
    { code := 0x0903, len := 4, res := [(1, 3)] }, { code := 0x0904, len := 4, res := [(2, 2)] },
    { code := 0x0940, len := 4, res := [(2, 2)] }, { code := 0x0941, len := 12, unit := 8, cntOff := 3 },
    { code := 0x0942, len := 4, res := [(2, 2)] }, { code := 0x0943, len := 8, res := [(7, 1)] },
    { code := 0x0944, len := 26, res := [(5, 1), (23, 1)] } ]

/-- Fleet commands (R382). -/
def layoutsFleet : List Layout :=
  [ { code := 0x0801 }, { code := 0x0802, len := 4, res := [(1, 3)] }, { code := 0x0803, len := 4, res := [(2, 2)] },
    { code := 0x0804, len := 4, res := [(1, 1)] }, { code := 0x0805 }, { code := 0x0840, len := 4, res := [(1, 3)] },
    { code := 0x0841, len := 12, res := [(9, 3)] }, { code := 0x0842, len := 12, res := [(9, 3)] },
    { code := 0x0843, len := 24 }, { code := 0x0844, len := 4, res := [(2, 2)] },
    { code := 0x0845, len := 4, res := [(3, 1)] }, { code := 0x0846, len := 4, res := [(2, 2)] } ]

/-- Pool commands (R451). -/
def layoutsPool : List Layout :=
  [ { code := 0x0A01 }, { code := 0x0A02, len := 4, res := [(2, 2)] }, { code := 0x0A03 },
    { code := 0x0A04, len := 4, res := [(1, 3)] }, { code := 0x0A40, len := 8, res := [(6, 2)] },
    { code := 0x0A41, len := 4, res := [(2, 2)] } ]

/-- Quay bus commands (R477). -/
def layoutsQuay : List Layout :=
  [ { code := 0x0B01 }, { code := 0x0B02, len := 4, res := [(1, 3)] }, { code := 0x0B40, len := 4, slack := 3828, res := [(2, 2)] },
    { code := 0x0B41, len := 4, res := [(2, 2)] }, { code := 0x0B42, len := 24, res := [(2, 2)] },
    { code := 0x0B43, len := 4, res := [(1, 3)] } ]

/-- Metering commands (R510). -/
def layoutsMeter : List Layout :=
  [ { code := 0x0C01 }, { code := 0x0C02, len := 4, res := [(1, 3)] }, { code := 0x0C03 }, { code := 0x0C04, len := 4, res := [(3, 1)] },
    { code := 0x0C40, len := 4, res := [(2, 2)] }, { code := 0x0C41, len := 8 }, { code := 0x0C42 }, { code := 0x0C43 } ]

/-- Redundancy commands (R560, R646). -/
def layoutsPr : List Layout :=
  [ { code := 0x0E01 }, { code := 0x0E02 }, { code := 0x0E03 }, { code := 0x0E04 }, { code := 0x0E40, len := 8 },
    { code := 0x0E41, len := 12, res := [(2, 2)] }, { code := 0x0E42 } ]

/-- Lamp and sign commands (R532). -/
def layoutsLamp : List Layout :=
  [ { code := 0x0D01, len := 4, res := [(1, 3)] }, { code := 0x0D02 }, { code := 0x0D03 },
    { code := 0x0D40, len := 20, res := [(1, 3), (10, 2)] }, { code := 0x0D41, len := 8, res := [(1, 3)] },
    { code := 0x0D42, len := 4, res := [(2, 2)] }, { code := 0x0D43, len := 12, slack := 3820, res := [(2, 2)] },
    { code := 0x0D44, len := 12, res := [(2, 2)] }, { code := 0x0D45, len := 4, res := [(2, 2)] },
    { code := 0x0D46, len := 4, res := [(2, 2)] }, { code := 0x0D47, len := 12, res := [(1, 1)] } ]

/-- Update commands (R590). -/
def layoutsUpd : List Layout :=
  [ { code := 0x0F01 }, { code := 0x0F02, len := 4, res := [(1, 1)] }, { code := 0x0F03, len := 4, res := [(1, 3)] },
    { code := 0x0F04, len := 4, res := [(1, 3)] }, { code := 0x0F05, len := 4, res := [(2, 2)] }, { code := 0x0F40, len := 8 },
    { code := 0x0F41, len := 12, unit := 1, cntOff := 8, cntSize := 2, res := [(10, 2)] }, { code := 0x0F42 },
    { code := 0x0F43 }, { code := 0x0F44, len := 12, res := [(9, 3)] }, { code := 0x0F45 },
    { code := 0x0F46, len := 12, res := [(9, 3)] }, { code := 0x0F47 },
    { code := 0x0F48, len := 24, unit := 2, cntOff := 20, cntSize := 2, res := [(9, 3), (22, 2)] },
    { code := 0x0F49, len := 4, res := [(1, 3)] }, { code := 0x0F4A, len := 4, res := [(2, 2)] } ]

/-- GPIO commands (R638). -/
def layoutsGpio : List Layout := [ { code := 0x1103 }, { code := 0x1141, len := 12 } ]

/-- Logbook commands (R606). -/
def layoutsLog : List Layout :=
  [ { code := 0x1001 }, { code := 0x1002, len := 12, res := [(9, 3)] },
    { code := 0x1040, len := 20, res := [(2, 2)] }, { code := 0x1041 },
    { code := 0x1042, len := 4, slack := 220, res := [(1, 3)] },
    { code := 0x1043, len := 8, res := [(6, 2)] } ]

end Sys2Proof.Machine
end

