-- ==== Sys2Proof/Machine/Crypto.lean ====
section
/-! DEFINITION. Sys2Proof/Machine/Crypto.lean: the algorithms of the crypto block (R23): SHA-256 and SHA-384 (FIPS 180-4),
ECDSA P-384 verification (FIPS 186-5), AES-128 (FIPS 197), CCM (RFC 3610 and IEEE 802.15.4-2020) and GCM tags without
ciphertext (NIST SP 800-38D). -/

namespace Sys2Proof.Machine

/-! ## SHA-2 -/

/-- The eight working words of a SHA-2 round. -/
structure Hash8 (n : Nat) where
  a : BitVec n
  b : BitVec n
  c : BitVec n
  d : BitVec n
  e : BitVec n
  f : BitVec n
  g : BitVec n
  h : BitVec n

/-- Word i of a table of numbers of 256 bits, each holding 256 / n words of n bits. -/
def tableWord (n : Nat) (t : List Nat) (i : Nat) : BitVec n :=
  BitVec.ofNat n ((t.getD (i / (256 / n)) 0) >>> (256 - n - i % (256 / n) * n))

def k256 : List Nat := [
  0x428A2F9871374491B5C0FBCFE9B5DBA53956C25B59F111F1923F82A4AB1C5ED5,
  0xD807AA9812835B01243185BE550C7DC372BE5D7480DEB1FE9BDC06A7C19BF174,
  0xE49B69C1EFBE47860FC19DC6240CA1CC2DE92C6F4A7484AA5CB0A9DC76F988DA,
  0x983E5152A831C66DB00327C8BF597FC7C6E00BF3D5A7914706CA635114292967,
  0x27B70A852E1B21384D2C6DFC53380D13650A7354766A0ABB81C2C92E92722C85,
  0xA2BFE8A1A81A664BC24B8B70C76C51A3D192E819D6990624F40E3585106AA070,
  0x19A4C1161E376C082748774C34B0BCB5391C0CB34ED8AA4A5B9CCA4F682E6FF3,
  0x748F82EE78A5636F84C878148CC7020890BEFFFAA4506CEBBEF9A3F7C67178F2]

def k512 : List Nat := [
  0x428A2F98D728AE227137449123EF65CDB5C0FBCFEC4D3B2FE9B5DBA58189DBBC,
  0x3956C25BF348B53859F111F1B605D019923F82A4AF194F9BAB1C5ED5DA6D8118,
  0xD807AA98A303024212835B0145706FBE243185BE4EE4B28C550C7DC3D5FFB4E2,
  0x72BE5D74F27B896F80DEB1FE3B1696B19BDC06A725C71235C19BF174CF692694,
  0xE49B69C19EF14AD2EFBE4786384F25E30FC19DC68B8CD5B5240CA1CC77AC9C65,
  0x2DE92C6F592B02754A7484AA6EA6E4835CB0A9DCBD41FBD476F988DA831153B5,
  0x983E5152EE66DFABA831C66D2DB43210B00327C898FB213FBF597FC7BEEF0EE4,
  0xC6E00BF33DA88FC2D5A79147930AA72506CA6351E003826F142929670A0E6E70,
  0x27B70A8546D22FFC2E1B21385C26C9264D2C6DFC5AC42AED53380D139D95B3DF,
  0x650A73548BAF63DE766A0ABB3C77B2A881C2C92E47EDAEE692722C851482353B,
  0xA2BFE8A14CF10364A81A664BBC423001C24B8B70D0F89791C76C51A30654BE30,
  0xD192E819D6EF5218D69906245565A910F40E35855771202A106AA07032BBD1B8,
  0x19A4C116B8D2D0C81E376C085141AB532748774CDF8EEB9934B0BCB5E19B48A8,
  0x391C0CB3C5C95A634ED8AA4AE3418ACB5B9CCA4F7763E373682E6FF3D6B2B8A3,
  0x748F82EE5DEFB2FC78A5636F43172F6084C87814A1F0AB728CC702081A6439EC,
  0x90BEFFFA23631E28A4506CEBDE82BDE9BEF9A3F7B2C67915C67178F2E372532B,
  0xCA273ECEEA26619CD186B8C721C0C207EADA7DD6CDE0EB1EF57D4F7FEE6ED178,
  0x06F067AA72176FBA0A637DC5A2C898A6113F9804BEF90DAE1B710B35131C471B,
  0x28DB77F523047D8432CAAB7B40C724933C9EBE0A15C9BEBC431D67C49C100D4C,
  0x4CC5D4BECB3E42B6597F299CFC657E2A5FCB6FAB3AD6FAEC6C44198C4A475817]

def h256 : List Nat := [
  0x6A09E667BB67AE853C6EF372A54FF53A510E527F9B05688C1F83D9AB5BE0CD19]

def h384 : List Nat := [
  0xCBBB9D5DC1059ED8629A292A367CD5079159015A3070DD17152FECD8F70E5939,
  0x67332667FFC00B318EB44A8768581511DB0C2E0D64F98FA747B5481DBEFA4FA4]

/-- The rotations and shifts of a SHA-2 width: S0, S1 as three rotations, s0, s1 as two rotations and a shift. -/
def bigSigma {n : Nat} (r : Nat × Nat × Nat) (x : BitVec n) : BitVec n :=
  x.rotateRight r.1 ^^^ x.rotateRight r.2.1 ^^^ x.rotateRight r.2.2

def smallSigma {n : Nat} (r : Nat × Nat × Nat) (x : BitVec n) : BitVec n :=
  x.rotateRight r.1 ^^^ x.rotateRight r.2.1 ^^^ (x >>> r.2.2)

/-- The message schedule, newest word first, extended by a number of words. -/
def msgSchedule {n : Nat} (s0 s1 : Nat × Nat × Nat) : Nat → List (BitVec n) → List (BitVec n)
  | 0, l => l
  | k + 1, l => msgSchedule s0 s1 k
      ((smallSigma s1 (l.getD 1 0) + l.getD 6 0 + smallSigma s0 (l.getD 14 0) + l.getD 15 0) :: l)

/-- One round on a round constant and a schedule word. -/
def shaRound {n : Nat} (b0 b1 : Nat × Nat × Nat) (s : Hash8 n) (kw : BitVec n) : Hash8 n :=
  let t1 := s.h + bigSigma b1 s.e + ((s.e &&& s.f) ^^^ (~~~s.e &&& s.g)) + kw
  let t2 := bigSigma b0 s.a + ((s.a &&& s.b) ^^^ (s.a &&& s.c) ^^^ (s.b &&& s.c))
  { a := t1 + t2, b := s.a, c := s.b, d := s.c, e := s.d + t1, f := s.e, g := s.f, h := s.g }

/-- One block of 16 words with a number of rounds. -/
def shaBlock {n : Nat} (b0 b1 s0 s1 : Nat × Nat × Nat) (rounds : Nat) (ks : List Nat) (s : Hash8 n)
    (block : List (BitVec n)) : Hash8 n :=
  let w := (msgSchedule s0 s1 (rounds - 16) block.reverse).reverse
  let t := ((List.range rounds).zip w).foldl (fun t x => shaRound b0 b1 t (tableWord n ks x.1 + x.2)) s
  { a := s.a + t.a, b := s.b + t.b, c := s.c + t.c, d := s.d + t.d, e := s.e + t.e, f := s.f + t.f, g := s.g + t.g
    h := s.h + t.h }

/-- The message with a one bit, zeros and its length in bits in `tail` bytes, to whole blocks. -/
def shaPad (block tail : Nat) (m : List Byte) : List Byte :=
  m ++ [0x80] ++ zeros ((2 * block - 1 - tail - m.length % block) % block) ++ be tail (8 * m.length)

def startHash (n : Nat) (t : List Nat) : Hash8 n :=
  let x := tableWord n t
  { a := x 0, b := x 1, c := x 2, d := x 3, e := x 4, f := x 5, g := x 6, h := x 7 }

def hashBytes {n : Nat} (s : Hash8 n) : List Byte :=
  [s.a, s.b, s.c, s.d, s.e, s.f, s.g, s.h].flatMap fun x => be (n / 8) x.toNat

/-- Words of n bits of a block, most significant byte first. -/
def wordsBe (n : Nat) (b : List Byte) : List (BitVec n) :=
  (entriesOf (n / 8) 16 b).map fun w => BitVec.ofNat n (beAt w 0 (n / 8))

def sha256 (m : List Byte) : List Byte :=
  let p := shaPad 64 8 m
  hashBytes ((entriesOf 64 (p.length / 64) p).foldl (fun s b =>
    shaBlock (2, 13, 22) (6, 11, 25) (7, 18, 3) (17, 19, 10) 64 k256 s (wordsBe 32 b)) (startHash 32 h256))

def sha384 (m : List Byte) : List Byte :=
  let p := shaPad 128 16 m
  (hashBytes ((entriesOf 128 (p.length / 128) p).foldl (fun s b =>
    shaBlock (28, 34, 39) (14, 18, 41) (1, 8, 7) (19, 61, 6) 80 k512 s (wordsBe 64 b)) (startHash 64 h384))).take 48

/-! ## ECDSA P-384 (R120, R565) -/

def p384 : Nat := 2 ^ 384 - 2 ^ 128 - 2 ^ 96 + 2 ^ 32 - 1
def n384 : Nat :=
  0xFFFFFFFFFFFFFFFFFFFFFFFFFFFFFFFFFFFFFFFFFFFFFFFFC7634D81F4372DDF581A0DB248B0A77AECEC196ACCC52973
def b384 : Nat :=
  0xB3312FA7E23EE7E4988E056BE3F82D19181D9C6EFE8141120314088F5013875AC656398D8A2ED19D2A85C8EDD3EC2AEF
def g384 : Nat × Nat := (
  0xAA87CA22BE8B05378EB1C71EF320AD746E1D3B628BA79B9859F741E082542A385502F25DBF55296C3A545E3872760AB7,
  0x3617DE4A96262C6F5D9E98BF9292DC29F8F41DBD289A147CE9DA3113B5F0B8C00A60B1CE1D7E819D7A431D7C90EA0E5F)

/-- x to a power modulo m, the power's bits from the lowest. -/
def powMod (m : Nat) : Nat → Nat → Nat → Nat → Nat
  | 0, _, _, acc => acc
  | k + 1, x, e, acc => powMod m k (x * x % m) (e / 2) (if e % 2 = 1 then acc * x % m else acc)

/-- The inverse modulo a prime. -/
def invMod (m x : Nat) : Nat := powMod m 384 (x % m) (m - 2) 1

/-- The sum of two points of the curve; none is the point at infinity. -/
def addPoint (a b : Option (Nat × Nat)) : Option (Nat × Nat) :=
  match a, b with
  | none, q => q
  | q, none => q
  | some (x1, y1), some (x2, y2) =>
    if x1 = x2 ∧ (y1 + y2) % p384 = 0 then none
    else
      let l := if x1 = x2 then (3 * x1 * x1 + (p384 - 3)) * invMod p384 (2 * y1) % p384
        else (y2 + p384 - y1) * invMod p384 (x2 + p384 - x1) % p384
      let x3 := (l * l + 2 * p384 - x1 - x2) % p384
      some (x3, (l * (x1 + p384 - x3) + p384 - y1) % p384)

/-- A multiple of a point, its bits from the lowest. -/
def mulPoint : Nat → Nat → Option (Nat × Nat) → Option (Nat × Nat) → Option (Nat × Nat)
  | 0, _, _, acc => acc
  | k + 1, e, q, acc => mulPoint k (e / 2) (addPoint q q) (if e % 2 = 1 then addPoint acc q else acc)

/-- The point lies on the curve. -/
def onCurve (x y : Nat) : Bool := x < p384 && y < p384 && (y * y) % p384 == (x * x * x + (p384 - 3) * x + b384) % p384

/-- An ECDSA P-384 signature over the SHA-384 digest of a content verifies: the key is the two coordinates and the signature
r and s, each in 48 bytes, most significant first (R120, R121, R565; log entry 3). -/
def ecdsaOk (key content sig : List Byte) : Bool :=
  let x := beAt key 0 48
  let y := beAt key 48 48
  let r := beAt sig 0 48
  let s := beAt sig 48 48
  key.length == 96 && sig.length == 96 && onCurve x y && 0 < r && r < n384 && 0 < s && s < n384 &&
    (let w := invMod n384 s
     let e := beAt (sha384 content) 0 48
     match addPoint (mulPoint 384 (e * w % n384) (some g384) none) (mulPoint 384 (r * w % n384) (some (x, y)) none) with
     | some q => q.1 % n384 == r
     | none => false)

/-! ## AES-128 -/

def sbox : List Nat := [
  0x637C777BF26B6FC53001672BFED7AB76CA82C97DFA5947F0ADD4A2AF9CA472C0,
  0xB7FD9326363FF7CC34A5E5F171D8311504C723C31896059A071280E2EB27B275,
  0x09832C1A1B6E5AA0523BD6B329E32F8453D100ED20FCB15B6ACBBE394A4C58CF,
  0xD0EFAAFB434D338545F9027F503C9FA851A3408F929D38F5BCB6DA2110FFF3D2,
  0xCD0C13EC5F974417C4A77E3D645D197360814FDC222A908846EEB814DE5E0BDB,
  0xE0323A0A4906245CC2D3AC629195E479E7C8376D8DD54EA96C56F4EA657AAE08,
  0xBA78252E1CA6B4C6E8DD741F4BBD8B8A703EB5664803F60E613557B986C11D9E,
  0xE1F8981169D98E949B1E87E9CE5528DF8CA1890DBFE6426841992D0FB054BB16]

def subByte (b : Byte) : Byte := tableWord 8 sbox b.toNat

/-- Times x in the field of AES. -/
def xtime (b : Byte) : Byte := if b.getLsbD 7 then (b <<< 1) ^^^ 0x1B else b <<< 1

def xorBytes (a b : List Byte) : List Byte := a.zipWith (· ^^^ ·) b

/-- The round keys, each of 16 bytes: the key, then those of rounds 1 to 10. -/
def roundKeys : Nat → Byte → List Byte → List (List Byte)
  | 0, _, k => [k]
  | n + 1, rc, k =>
    let t := (k.drop 13 ++ (k.drop 12).take 1).map subByte
    let w0 := xorBytes (k.take 4) (xorBytes t [rc, 0, 0, 0])
    let w1 := xorBytes (slice k 4 4) w0
    let w2 := xorBytes (slice k 8 4) w1
    let w3 := xorBytes (slice k 12 4) w2
    k :: roundKeys n (xtime rc) (w0 ++ w1 ++ w2 ++ w3)

/-- SubBytes and ShiftRows on a state whose byte 4c + r is row r of column c. -/
def subShift (s : List Byte) : List Byte :=
  (List.range 16).map fun i => subByte (s.getD ((i + 4 * (i % 4)) % 16) 0)

/-- MixColumns of one column. -/
def mixColumn (c : List Byte) : List Byte :=
  (List.range 4).map fun i =>
    let x (k : Nat) : Byte := c.getD ((i + k) % 4) 0
    xtime (x 0) ^^^ (xtime (x 1) ^^^ x 1) ^^^ x 2 ^^^ x 3

def aesRounds : List (List Byte) → List Byte → List Byte
  | [], s => s
  | [k], s => xorBytes (subShift s) k
  | k :: r, s => aesRounds r (xorBytes ((entriesOf 4 4 (subShift s)).flatMap mixColumn) k)

/-- AES-128 of one block. -/
def aes (key block : List Byte) : List Byte :=
  match roundKeys 10 1 key with
  | [] => block
  | k :: r => aesRounds r (xorBytes block k)

/-! ## Modes -/

/-- Bytes with zeros to whole blocks of 16. -/
def pad16 (b : List Byte) : List Byte := b ++ zeros ((16 - b.length % 16) % 16)

def blocks16 (b : List Byte) : List (List Byte) := entriesOf 16 (b.length / 16) b

/-- The CBC-MAC of CCM with two length bytes: the first block, the authenticated data with its length, the message. -/
def ccmMac (m : Nat) (key nonce aad msg : List Byte) : List Byte :=
  let b0 := le 1 ((if aad.isEmpty then 0 else 64) + 8 * ((m - 2) / 2) + 1) ++ nonce ++ be 2 msg.length
  let a := if aad.isEmpty then [] else pad16 (be 2 aad.length ++ aad)
  ((blocks16 (b0 ++ a ++ pad16 msg)).foldl (fun x b => aes key (xorBytes x b)) (zeros 16)).take m

/-- The key stream of CCM from counter block i on. -/
def ccmStream (key nonce : List Byte) (i n : Nat) : List Byte :=
  (List.range ((n + 15) / 16)).flatMap fun k => aes key (le 1 1 ++ nonce ++ be 2 (i + k))

/-- AES-128-CCM with a 13-byte nonce: the encrypted message and its tag of m bytes. -/
def ccm (m : Nat) (key nonce aad msg : List Byte) : List Byte :=
  xorBytes msg (ccmStream key nonce 1 msg.length) ++ xorBytes (ccmMac m key nonce aad msg) (ccmStream key nonce 0 16)

/-- The product in the field of GCM, bit 0 the most significant: the bits of x from the first. -/
def gcmMul : Nat → BitVec 128 → BitVec 128 → BitVec 128 → BitVec 128
  | 0, _, _, z => z
  | k + 1, x, v, z =>
    gcmMul k (x <<< 1) (if v.getLsbD 0 then (v >>> 1) ^^^ ((0xE1 : BitVec 128) <<< 120) else v >>> 1)
      (if x.getLsbD 127 then z ^^^ v else z)

/-- The AES-128-GCM tag without ciphertext over authenticated data, with a 12-byte nonce. -/
def gcmTag (key nonce aad : List Byte) : List Byte :=
  let h := BitVec.ofNat 128 (beAt (aes key (zeros 16)) 0 16)
  let g := (blocks16 (pad16 aad ++ be 8 (8 * aad.length) ++ be 8 0)).foldl (fun y b =>
    gcmMul 128 (y ^^^ BitVec.ofNat 128 (beAt b 0 16)) h 0) 0
  xorBytes (be 16 g.toNat) (aes key (nonce ++ be 4 1))

/-- A key of configuration as 16 bytes; one that configuration does not give is open (log entry 3). -/
def key16 (k : List Byte) : List Byte := ((if k.isEmpty then Config.unsetKey else k) ++ zeros 16).take 16

end Sys2Proof.Machine
end

