-- ==== Sys2Proof/Machine/Table.lean ====
section
/-! DEFINITION. Sys2Proof/Machine/Table.lean: reading and writing of sparse tables in their canonical form: keys strictly
rising, no entry equal to the default of its key. -/

namespace Sys2Proof.Machine

/-- The entry of a key, the default where it is not listed. -/
def tget {α : Type} (d : α) : Tbl α → Nat → α
  | [], _ => d
  | (k', v) :: t, k => if k = k' then v else tget d t k

/-- A table without the entry of a key. -/
def terase {α : Type} : Tbl α → Nat → Tbl α
  | [], _ => []
  | (k', v) :: t, k => if k = k' then terase t k else (k', v) :: terase t k

/-- A table with an entry put at its place by key. -/
def tinsert {α : Type} : Tbl α → Nat → α → Tbl α
  | [], k, v => [(k, v)]
  | (k', v') :: t, k, v =>
    if k = k' then (k, v) :: t else if k < k' then (k, v) :: (k', v') :: t else (k', v') :: tinsert t k v

/-- A table with the entry of a key set: writing the default removes the entry. -/
def tput {α : Type} [DecidableEq α] (d : α) (t : Tbl α) (k : Nat) (v : α) : Tbl α :=
  if v = d then terase t k else tinsert t k v

/-- The canonical form: keys strictly rising and no entry equal to the default. -/
def twf {α : Type} [DecidableEq α] (d : α) : Tbl α → Bool
  | [] => true
  | (k, v) :: t => (!decide (v = d)) && (match t with | [] => true | (k', _) :: _ => decide (k < k')) && twf d t

/-- Changes one entry of a list of entries by its place. -/
def lmodify {α : Type} : List α → Nat → (α → α) → List α
  | [], _, _ => []
  | x :: t, 0, f => f x :: t
  | x :: t, n + 1, f => x :: lmodify t n f

/-- Inserts a number into a rising list without repeats. -/
def insertAscending (t : Nat) : List Nat → List Nat
  | [] => [t]
  | x :: r => if t < x then t :: x :: r else if t = x then x :: r else x :: insertAscending t r

/-- Applies an action for each number of a list. -/
def each {σ : Type} (ks : List Nat) (f : Nat → σ → σ) (s : σ) : σ := ks.foldl (fun s k => f k s) s

end Sys2Proof.Machine
end

