-- ==== Sys2Proof/Machine/Limits.lean ====
section
/-! DEFINITION. Sys2Proof/Machine/Limits.lean: the limits that the service chapters state for configuration parameters
(R124 step 8), section by section, and the small functions of parameters alone that they share with the services. -/

namespace Sys2Proof.Machine

def sumOf {α : Type} (f : α → Nat) (l : List α) : Nat := l.foldl (fun a x => a + f x) 0

def noRepeat : List Nat → Bool
  | [] => true
  | x :: r => !r.contains x && noRepeat r

/-- lo ≤ x ≤ hi. -/
def within (lo hi x : Nat) : Bool := lo ≤ x && x ≤ hi

def iWithin (lo hi x : Int) : Bool := lo ≤ x && x ≤ hi

/-! ## Host, time and statistics -/

/-- Change-rights masks keep bits 0 and 18 to 31 zero (R106, R110). -/
def hostParOk (p : HostPar) : Bool :=
  let mask (m : BitVec 32) : Bool := m &&& 0xFFFC0001 == 0
  mask p.rightsPcie && mask p.rightsSpi && mask p.rightsUsb && p.certRights.all (fun x => mask x.2) && within 1 65535 p.tlsTcp

/-- Message intervals of a port (R139, R140): profile ranges in the IEEE 1588-2019 instance, with logSyncInterval down to −4 on
field ports. -/
def intervalsOk (p : TimePar) (i : Nat) : Bool :=
  let inside (lo hi : Int) (x : Option Int) : Bool := match x with | none => true | some v => lo ≤ v && v ≤ hi
  tget 0 p.inst i != 1 || (inside (if 2 ≤ i && i ≤ 9 then -4 else -1) 1 (tget none p.logSync i)
    && inside 0 4 (tget none p.logAnnounce i) && inside 0 5 (tget none p.logDelay i))

/-- A latency or an asymmetry within ±32,767 ns in units of 2^-16 ns (R147). -/
def latOk (v : Int) : Bool := v.natAbs ≤ 32767 * 65536

/-- R139, R140, R141, R147, R157, R159, R164, R166, R171. -/
def timeParOk (p : TimePar) : Bool :=
  let pr := [p.prioRing, p.prioGnss, p.prioExt]
  pr.all (· ≤ 3) && noRepeat (pr.filter (· != 0)) && within 100 360000 p.holdoff && within 50 100000 p.stepNs
    && within p.stepNs 1000000000 p.jumpNs && within 1 500 p.ppsWidth && p.ppsMode ≤ 1 && within 100 1000000 p.pinLimit
    && p.priority1 ≤ 255 && p.priority2 ≤ 255 && p.inst.all (fun x => x.1 ≤ 13 && x.2 ≤ (if x.1 ≤ 9 then 2 else 1))
    && p.domain ≤ 127 && (List.range 14).all (intervalsOk p)
    && [p.ingress, p.egress, p.asym].all fun t => t.all fun x => x.1 ≤ 13 && latOk x.2

/-- The interval lengths of R55. -/
def statParOk (p : StatPar) : Bool := [1, 10, 100, 1000, 6000, 90000].contains p.len && p.phase < p.len

/-! ## Radio (R193, R194, R198, R204, R209, R210, R218, R220) -/

/-- Data rate of a SUN-FSK operating mode in the region's band, in kbit/s (R193, log entry 22). -/
def fskRate (region mode : Nat) : Nat :=
  match mode with
  | 1 => 50
  | 2 => if region = 2 then 150 else 100
  | 3 => if region = 1 then 150 else 200
  | _ => 50

/-- Airtime of a PSDU of n octets in µs (R200, R206, R219, R220). -/
def airtime (region mode n : Nat) : Nat :=
  if mode = 0x20 then (n + 6) * 32
  else if mode ≥ 0x10 then Config.ofdmAirUs (mode - 0x10) n
  else ((n + 12) * 8 * 1000 + fskRate region mode - 1) / fskRate region mode

/-- Centre frequency of a sub-GHz channel in kHz. -/
def chanKhz (p : RadioPar) (ch : Nat) : Nat := p.chan0Khz + ch * p.spacingKhz

def inEntry (b : BudgetEntry) (khz : Nat) : Bool := b.loKhz ≤ khz && khz ≤ b.hiKhz

def entryParOk (b : BudgetEntry) : Bool :=
  b.loKhz ≤ b.hiKhz && b.reservePct ≤ 50 && (b.budgetUs.isNone || within 1 3600 b.windowS)

/-- The hopping sequence of a sub-GHz transceiver, which port partners share (R198). -/
def hopOf (p : RadioPar) (x : Nat) : List Nat := tget [] p.hopSub (x % 4)

/-- A number that every length of a hopping sequence divides: 2 to 64 (R198, R220). -/
def hopScale : Nat := (List.range 65).foldl (fun a n => if n = 0 then a else Nat.lcm a n) 1

/-- The centre frequency of a 2.4 GHz channel 11 to 26 in kHz (R193). -/
def hbKhz (ch : Nat) : Nat := 2405000 + 5000 * (ch - 11)

/-- EB airtime of one window in an entry, times 100 times P times N times a common multiple of the sequence lengths, compared
with its reserve (R220). -/
def ebLoadOk (p : RadioPar) (b : BudgetEntry) : Bool :=
  match b.budgetUs with
  | none => true
  | some u =>
    let xs := (List.range 8).filter fun x => p.inService.getLsbD x
    let air := sumOf (fun x =>
      let h := hopOf p x
      airtime p.region (tget 1 p.modes x) 39 * (h.filter fun c => inEntry b (chanKhz p c)).length * (hopScale / h.length)) xs
    air * 100 * b.windowS * 100 ≤ u * b.reservePct * (p.ebPeriod * xs.length * hopScale)

/-- What holds of a region's channels: hopping sequences, offsets of port partners, channels inside entries. -/
def channelsOk (p : RadioPar) : Bool :=
  within 4 16 p.hopHb.length && noRepeat p.hopHb && p.hopHb.all (fun c => within 11 26 c && inEntry p.hbEntry (hbKhz c))
    && (List.range 4).all (fun i =>
      let h := hopOf p i
      within 2 64 h.length && noRepeat h && tget 0 p.offsets i % h.length != tget 0 p.offsets (i + 4) % h.length
        && h.all fun c => p.entries.any fun b => inEntry b (chanKhz p c))
    && p.recChannel.all (fun c => p.entries.any fun b => inEntry b (chanKhz p c.2))

def radioParOk (p : RadioPar) : Bool :=
  p.region ≤ 3 && p.pan < 65536 && p.segment < 65536 && [1, 2, 4, 8, 16].contains p.ebPeriod && within 1 255 p.ebKeyIndex
    && p.entries.length ≤ 8 && p.entries.all entryParOk && entryParOk p.hbEntry
    && p.modes.all (fun x => x.1 < 8 && (within 1 3 x.2 || within 0x10 0x13 x.2))
    && p.powers.all (fun x => x.1 < 12 && x.2 ≤ (if x.1 < 8 then 27 else 20))
    && p.macMinBe ≤ 3 && within 3 8 p.macMaxBe && p.macRetries ≤ 7 && iWithin (-100) (-60) p.ccaSub && iWithin (-90) (-60) p.ccaHb
    && (p.region == 0 || (channelsOk p && p.entries.all (ebLoadOk p)))

/-! ## Lanterns (R234, R251, R257, R268 to R271) -/

def ruleParOk (r : Rule) : Bool :=
  within 1 3 r.source && r.level % 1024 ≤ 1000 && r.lead ≤ 1000 && r.trail ≤ 1000
    && (r.source == 3 || within 10 60000 r.hold) && (r.source != 2 || r.srcId ≤ 1023)

def lanternParOk (p : LanternPar) : Bool :=
  p.nodes.all (fun n => n.node < 4096 && (n.feeder ≤ 11 || n.feeder == 255) && n.groups.length ≤ 4)
    && noRepeat (p.nodes.map (·.node)) && p.rules.length ≤ 1024 && p.rules.all (fun r => r.1 < 1024 && ruleParOk r.2)
    && p.groups.length ≤ 255 && p.groups.all (fun g => g.2.floor ≤ 1000 && g.2.safe ≤ 1000) && p.fwShare ≤ 100 && within 1000 30000 p.upPeriod
    && p.nodes.all (fun n => n.schedule.length ≤ 32 && n.scenes.all fun x => x.1 ≤ 15)

/-! ## GNSS (R281 to R283, R292, R294, R306, R313) -/

def notchParOk (n : NotchPar) : Bool := n.mode ≤ 2 && n.width ≤ 2 && n.offset.natAbs ≤ 30000000 && within 10 40 n.depth

def fsParOk (f : FsPar) : Bool :=
  within 50 400 f.rMax && within 5 90 f.fMax && within 50 99 f.mHi && within 10 90 f.gLo && f.gLo < f.mHi && within 4 20 f.nMin
    && within 1 10 f.fsFail && within 1 255 f.fsPass && within 5 45 f.elevMin && within 25 45 f.cn0Min

/-- Integration times that a signal code allows (R278). -/
def allowedT (sig : Nat) : List Nat :=
  match sig with
  | 0x01 | 0x04 | 0x11 | 0x21 => [1, 2, 4, 5, 10, 20]
  | 0x02 | 0x20 => [10]
  | 0x03 => [20]
  | 0x10 => [4, 20]
  | 0x30 | 0x31 => [1, 2, 5, 10]
  | _ => []

def loopParOk (sig : Nat) (l : LoopPar) : Bool :=
  (allowedT sig).contains l.tMs && within 4 120 l.pll && within 1 20 l.fll && within 1 100 l.dll && within 2 64 l.dN
    && within l.dN 64 l.dF

def gnssParOk (p : GnssPar) : Bool :=
  p.bias.all (fun b => b.1 < 2 && b.2 ≤ 2) && p.notches.all (fun n => n.1 < 24 && notchParOk n.2) && within 6 30 p.detDb
    && within 4 200 p.jamOn && within 4 200 p.jamOff && p.jamOff < p.jamOn && fsParOk p.fs && p.loops.all fun l => loopParOk (l.1 / 2) l.2

/-! ## Reference station and positioning (R318, R323, R326, R327, R331, R334) -/

def mountParOk (m : MountPar) : Bool :=
  (m.msm == 4 || m.msm == 7) && [0, 1, 5, 10, 20].contains m.rate && m.station ≤ 1 && within 100 6000 m.stationTides

def refParOk (p : RefPar) : Bool :=
  p.stationId ≤ 4095 && p.refHeight ≤ 65535 && within 6000 8640000 p.minTides && within p.minTides 8640000 p.maxTides
    && within 100 10000 p.limitMm && p.mounts.all (fun m => m.1 < 4 && mountParOk m.2) && p.users.length ≤ 64
    && within 10 500 p.hLim && within 20 1000 p.vLim && within 1 10 p.nAlarm && within 10 6000 p.nClear
    && p.slots.all (fun x => x.1 < 256 && within 1 96 x.2) && noRepeat (p.slots.map (·.2)) && within 1 65535 p.casterTcp
    && within 1 65535 p.obsPort && p.maskDeg ≤ 30 && iWithin (-1000000) 1000000 p.cableDelay && (p.refPco ++ p.monPco).all fun x => x.1 < 3 &&
      iWithin (-200) 200 x.2.1 && iWithin (-200) 200 x.2.2.1 && iWithin (-200) 200 x.2.2.2

/-! ## Fleet (R346, R354) -/

/-- Every cell of the map has a zone, and its conflict sets hold the cell itself and are symmetric (R346). -/
def mapOk (cells : Tbl CellCfg) : Bool :=
  ((List.range 65536).all fun n => cells.any fun c => c.1 == n) && cells.all fun c => c.1 < 65536 && c.2.zone ≤ 63 && within 1 16 c.2.conflicts.length && c.2.conflicts.contains c.1
    && c.2.conflicts.all fun d => cells.any fun e => e.1 == d && e.2.conflicts.contains c.1

def fleetParOk (p : FleetPar) : Bool :=
  within 20 1000 p.hMin && [0, 1, 2, 3].all (fun c => within 5 p.hMin (tget 40 p.brake c)) && within 2 4 p.misses && within 10 1000 p.discrepancyMs
    && within (32 * p.misses + 1) 1000 p.gap && within 5 200 p.pathLead && p.vehicles.all (fun v => v.1 < 256)
    && within 1 65535 p.txPort && within 1 65535 p.rxPort && within 1 4 p.hornKey && (match p.map with | some _ => mapOk p.cells | none => !p.enabled)

/-! ## Frame ports (R387, R396, R398, R399, R401, R405) -/

/-- A gate control list is outside R405 or R415. -/
def gateListBad (g : GateList) : Bool :=
  g.n == 0 || g.n > 100 || g.q ≥ g.n || g.entries.isEmpty || g.entries.length > 64
    || g.entries.any (fun e => e.2 < 1000 || e.2 > 1000000000) || sumOf (·.2) g.entries > g.n * 10000000

def plcaParOk (p : PlcaPar) : Bool :=
  p.nodeId ≤ 254 && within 1 255 p.nodeCount && within 1 255 p.toTimer && p.burstCount ≤ 255 && within 1 255 p.burstTimer

def portsParOk (p : PortsPar) : Bool :=
  p.maxFrame.all (fun x => if x.1 < 10 then within 1522 9216 x.2 else x.1 ≤ 13 && x.2 == 1522)
    && p.pvid.all (fun x => within 1 4094 x.2) && p.members.length ≤ 64 && p.members.all (fun x => within 1 4094 x.1)
    && within 10 3600 p.ageing && within 1 4094 p.controlVlan && within 1 12 p.wtrMin && p.plca.all (fun x => plcaParOk x.2)
    && p.gates.all (fun x => x.1 < 10 && !gateListBad x.2) && p.rules.all fun x => x.1 < 128 && (x.2.action ≤ 7 || x.2.action == 0xFF)

/-! ## Pool (R420, R423) -/

/-- Kind of a queue: 0 data, 1 control, 2 unused (R420, R451). -/
def queueKind (q : Nat) : Nat :=
  if 112 ≤ q && q < 128 then 1
  else if q < 216 then 0
  else if 222 ≤ q && q < 246 && q != 230 && q != 231 then 0
  else 2

/-- The data queues that hold berths (R423). -/
def dataQueues : List Nat := (List.range 256).filter fun q => queueKind q == 0

/-- Σ min, with the minimum 16 of every data queue that has no entry in configuration (R423). -/
def minSum (p : PoolPar) : Nat := 16 * (dataQueues.length - p.qMin.length) + sumOf (·.2) p.qMin

def poolParOk (p : PoolPar) : Bool :=
  p.qMin.all (fun x => dataQueues.contains x.1 && x.2 ≤ 256) && p.qMax.all (fun x => dataQueues.contains x.1 && within 64 131072 x.2)
    && p.alpha ≤ 7 && p.pMax.all (fun x => within 1024 131072 x.2)
    && p.ctBytes.all (fun x => x.1 < 10 && (x.2 == 0 || (within 64 1024 x.2 && x.2 % 64 == 0)))
    && minSum p + 16384 ≤ 131072 - 4096

/-! ## Quay bus (R456 to R459, R465, R467, R468, R470) -/

/-- A rate that comes from 80 MHz with segments in their ranges (R457). -/
def timingOk (b : BitTiming) (lo hi presc tseg1 tseg2 : Nat) : Bool :=
  within lo hi b.rate && within 1 presc b.presc && within (if presc = 32 then 2 else 1) tseg1 b.tseg1 && within 1 tseg2 b.tseg2
    && within 1 b.tseg2 b.sjw && b.rate * b.presc * (1 + b.tseg1 + b.tseg2) == 80000000

/-- Clocks from the start of a bit to its sample point (R457). -/
def samplePoint (b : BitTiming) : Nat := b.presc * (1 + b.tseg1)

/-- The delay compensation offset in clocks (R458). -/
def tdcOffset (q : QuayChPar) : Nat := q.tdcOffset.getD (samplePoint q.data)

def filterParOk (f : Filter) : Bool := f.formats.toNat < 32 && f.action ≤ 2 && f.window ≤ 15 && f.id.toNat < 2 ^ 29

def quayParOk (q : QuayChPar) : Bool :=
  q.formatSet ≤ 2 && timingOk q.nominal 10000 1000000 32 256 128
    && timingOk q.data 1000000 (if q.formatSet = 2 then 10000000 else 8000000) 8 32 16 && tdcOffset q ≤ 127
    && (!q.triple || (q.nominal.rate ≤ 125000 && q.nominal.tseg1 ≥ 3)) && q.retryLimit ≤ 65535 && q.listen.length ≤ 4
    && q.form ≤ 1 && q.claimId < 2048 && q.listen.all (· < 2048) && (!q.claims || q.form == 0 || q.formatSet ≥ 1)
    && q.filters.all fun x => x.1 < 256 && filterParOk x.2

/-! ## Metering (R481, R482, R489, R495) -/

/-- C times the rated power stays within 100 pulses per second (R495). -/
def pulseRate (m : MeterPar) (p c : Nat) : Bool := c * 3 * m.nominalV * (tget ({} : PointPar) m.points p).ratedA ≤ 360000000

def pointParOk (i : Nat) (p : PointPar) : Bool :=
  i ≤ 11 && p.busbar ≤ 1 && (i < 2 || p.billing != some true)
    && (match p.noLoadMa with | some t => t ≤ p.ratedA * 100 | none => true)

def pulseParOk (m : MeterPar) (o : Nat) : Bool :=
  let x := tget ({ point := if o < 2 then some o else none } : PulsePar) m.pulses o
  within 1 100000 x.const && within 1 5 x.width
    && (match x.point with | some p => p ≤ 11 && pulseRate m p x.const | none => true)

def meterParOk (m : MeterPar) : Bool :=
  m.points.all (fun x => pointParOk x.1 x.2) && m.phase.all (fun x => x.2.all fun v => v.natAbs ≤ 2048)
    && m.pulses.all (fun x => x.1 < 4) && [0, 1, 2, 3].all (pulseParOk m) && statParOk { len := m.len, phase := m.phaseP }

/-! ## Lamps and signs (R515, R523), redundancy (R539), logbook (R600, R601, R607), system (R637) -/

def signParOk (g : SignPar) : Bool :=
  g.width ≤ 4096 && g.height ≤ 2048 && g.mode ≤ 1 && g.brightness ≤ 1000

def lampSignParOk (p : LampSignPar) : Bool :=
  p.lamps.all (fun x => x.1 < 8 && x.2.lamps ≤ 32) && p.signs.all (fun x => x.1 < 2 && signParOk x.2)
    && sumOf (fun x => x.2.width * x.2.height) p.signs ≤ 524288

def prParOk (p : PrPar) : Bool := within 1 2 p.unit

def rateParOk (r : RatePar) : Bool := r.rate ≤ 1000 && within 1 1000 r.burst

def logParOk (p : LogPar) : Bool :=
  within 1 7 p.floor && p.sev.all (fun x => rateParOk x.2) && p.coded.length ≤ 64 && p.codes.all (fun x => rateParOk x.2)
    && p.alert ≤ 7

/-- Every parameter lies within the limits of its service chapter (R124 step 8). -/
def parOk (p : SiteConfig) : Bool :=
  hostParOk p.host && timeParOk p.time && p.stats.all (fun x => statParOk x.2) && radioParOk p.radio && lanternParOk p.lantern
    && gnssParOk p.gnss && refParOk p.ref && fleetParOk p.fleet && portsParOk p.ports && poolParOk p.pool
    && p.quay.all (fun x => x.1 < 4 && quayParOk x.2) && meterParOk p.meter && lampSignParOk p.lampSign && prParOk p.pr
    && logParOk p.log && p.gpio.all fun x => x.1 < 16 && x.2.mode ≤ 3

end Sys2Proof.Machine
end

