-- ==== Sys2Proof/Machine/StateCore.lean ====
section
/-! DEFINITION. Sys2Proof/Machine/StateCore.lean: the state of the time base, the two processors, host sessions,
configuration store, statistics, logbook and start-up (chapters 01 to 04, 19 and 20). A default written in a field is
its value at reset. -/

namespace Sys2Proof.Machine

/-- The metadata of a received radio frame (R214): the module time of the SFD as its tide and the nanoseconds from that tide's
edge, ASN, placement epoch, RSSI, timing error, follow-on grant. -/
structure RxMeta where
  /-- Transceiver that received it. -/
  x : Nat := 0
  /-- Table key of its source; 0xFFFF for a JOIN. -/
  src : Nat := 0
  sfdTide : Nat := 0
  sfdNs : Nat := 0
  asn : Nat := 0
  epoch : BitVec 8 := 0
  rssi : Int := 0
  err : Int := 0
  /-- The cell two tides on is granted to the node (R216). -/
  grant : Bool := false
  deriving DecidableEq, Repr, Inhabited

/-- What leaves the module: the model's own record of its outputs, newest first in the State (log entry 14). -/
inductive Output where
  /-- A register read's data to an origin (R75, R76, R78). -/
  | read (o : Origin) (addr : Nat) (v : Word)
  /-- SPI read bytes after an aborted transaction (R75). -/
  | spiZero (n : Nat)
  /-- An MSI-X message on a vector (R109). -/
  | msix (v : Nat)
  /-- The level of HOST_IRQ_N (R109). -/
  | irqN (level : Bool)
  /-- A SESS_SUMMARY transfer on endpoint 0x82 (R76). -/
  | usbSummary (v : Word)
  /-- Records on a TLS connection, in the piece that one frame carries: its window and bytes (R111, R402). -/
  | tls (w : Nat) (record : List Byte)
  /-- A TLS connection is closed by the module (R111). -/
  | tlsClosed (w : Nat)
  /-- A frame or an Enh-Ack on air: transceiver, tide, slot, bytes (R199, R205, R211). -/
  | radio (x tide slot : Nat) (psdu : List Byte)
  /-- A frame on a frame port (R403), its bytes from the destination address. -/
  | eth (port : Nat) (bytes : List Byte)
  /-- A PTP message on a frame port: its type, its port, its fields (R139 to R143). -/
  | ptp (port kind : Nat) (fields : List Nat)
  /-- A ring control message on a ring port: its VLAN and its MEL (R399). -/
  | raps (port kind vid mel : Nat)
  /-- The frame of the module's own that follows in this list: its port, its source address, and the PCP of its tag on tagged
  egress (R389, R402). -/
  | own (port src : Nat) (pcp : Option Nat)
  /-- The frame shown last on a port ended with an inverted FCS (R411, R430, R431). -/
  | cut (port : Nat)
  /-- A collision jam, a PLCA beacon state and other line states of a cabinet port (R395, R396). -/
  | line (port kind : Nat)
  /-- A CAN frame on a quay bus channel, in the fields of R472 (R455, R464, R467). -/
  | can (c format flags id sdt vcid af : Nat) (data : List Byte)
  /-- What a channel gives to a frame on its bus: 0 its acknowledgement, 1 an active and 2 a passive error flag (R455, R460, R462). -/
  | canFlag (c kind : Nat)
  /-- A frame on the twin link (R544, R549, R553). -/
  | twin (bytes : List Byte)
  /-- The level of a named pin: claim out, time quality, relay, pulse output, GPIO, sync (R164, R374, R496, R526). -/
  | pin (name : Nat) (level : Bool)
  /-- PPS_OUT rises, and falls after its high time in ms (R164). -/
  | pps (width : Nat)
  /-- The leading edge of a pulse of a width in ms on a pulse output (R496). -/
  | pulse (output width : Nat)
  /-- A frame on a lamp-string port (R516, R518). -/
  | lamp (port : Nat) (bytes : List Byte)
  /-- A frame on a sign port: the bytes between its K27.7 and K29.7 (R525, R526). -/
  | sign (port : Nat) (bytes : List Byte)
  /-- A burst to host memory (R440). -/
  | hostMem (ch addr : Nat) (bytes : List Byte)
  /-- A read burst asked of host memory (R440). -/
  | hostRead (ch addr len : Nat)
  /-- An NTRIP response or a correction message to a caster client (R327, R328). -/
  | ntrip (conn : Nat) (bytes : List Byte)
  /-- A UDP datagram to a vehicle, from its field port to its address and a UDP port: a solution record (R337, R338), PATH or
  TASK (R358). -/
  | datagram (vehicle port addr udp : Nat) (bytes : List Byte)
  /-- A recovery-mode response to a client (R621). -/
  | recovery (client : Nat) (bytes : List Byte)
  /-- An ARP reply (R620). -/
  | arp (target : Nat)
  /-- A received frame with its metadata for firmware on the running cluster (R214, R421). -/
  | received (m : RxMeta) (payload : List Byte)
  /-- A message or strobe to a radio die (R27, R48). -/
  | die (die kind : Nat) (tide : Nat)
  deriving DecidableEq, Repr, Inhabited

/-- Data of a TCP stream that waits for its port to send it: the port, the class of its frames and the data (R389, R402). -/
structure StreamData where
  port : Nat := 0
  cls : Nat := 0
  out : Output
  deriving DecidableEq, Repr, Inhabited

/-! ## The tide (chapter 02) -/

/-- The miss counts of one function of R51. -/
structure Miss where
  /-- Free-running miss count, 32 bits, wrapping (R53). -/
  total : BitVec 32 := 0
  /-- Consecutive judged deadlines missed (R53). -/
  run : Nat := 0
  /-- The run before the last judgement, and what that judgement found: a result that comes after its deadline was judged
  makes that deadline missed (R53). -/
  prevRun : Nat := 0
  missedNow : Bool := false
  /-- A result of the function came in time for the deadline not yet judged. -/
  came : Bool := false
  /-- In a run of misses, a deadline for which no result has come yet is met only when its tide ends without one (R53, log
  entry 48). -/
  open_ : Bool := false
  /-- Late results discarded for the deadline not yet judged (R50, R53). -/
  late : Nat := 0
  /-- A result of the function is due in this tide (R53), for functions 0x05 to 0x07. -/
  due : Bool := false
  /-- The count of issued tides at the last judgement, so that a deadline is judged once in a tide (R53). -/
  judged : Option Nat := none
  /-- Tide of the last missed work (R54). -/
  lastTide : Nat := 0
  deriving DecidableEq, Repr, Inhabited

/-- A correction that waits for its tide edge (R66, R159, R162). -/
structure Correction where
  /-- Signed correction in ns (R66). -/
  d : Int := 0
  /-- Cause code of TIDE_GAP (R70). -/
  cause : Nat := 4
  /-- The apply edge: the correction waits until this tide (R159, R172). -/
  tide : Nat := 0
  /-- The source whose offset it is (R153). -/
  src : Nat := 0
  deriving DecidableEq, Repr, Inhabited

/-- The tide (R44, R45). -/
structure Clk where
  /-- Tide number, 64 bits (R45). -/
  tide : Nat := 0
  /-- Tide edges are raised: the harbourmaster has loaded module time (R614). -/
  running : Bool := false
  /-- Tides that ran since reset (R57, R115). -/
  ran : Nat := 0
  /-- Module time minus 10 ms times the tide number at the tide's start, in ns, after a correction (R66). -/
  ofs : Int := 0
  /-- The edge of the next tide number is not raised (R66). -/
  skipNext : Bool := false
  /-- A gap ended at the edge of this tide: the first skipped number (R71). -/
  gapFrom : Option Nat := none
  /-- The tide that runs is stretched (R66, R68). -/
  stretched : Bool := false
  /-- Physical length in ns of the tide that ended last (R66, R407). -/
  lastLen : Nat := 10000000
  /-- The correction that waits for its edge (R66). -/
  correction : Option Correction := none
  /-- A correction of 10 ms or more was announced by the horn of the tide before (R68). -/
  preHalted : Bool := false
  /-- Miss counts by function 0x01 to 0x07 (R53). -/
  misses : Tbl Miss := []
  /-- Strobe fault of each radio die: it transmits nothing until the next good strobe (R27). -/
  strobeFault : BitVec 2 := 0
  /-- The tide number named by the last tide message to each die, plus one (R27, R48). -/
  msg : Tbl Nat := []
  deriving DecidableEq, Repr, Inhabited

/-- A statistic group (R55 to R58). -/
structure StatGroup where
  /-- The group counts: its block runs (R648). -/
  on : Bool := false
  /-- Count of tides that ran at the interval's start edge (R57). -/
  startRan : Nat := 0
  /-- Flags of the running interval (R57). -/
  flags : BitVec 32 := 0
  /-- Flags that the next interval begins with, of a correction at the latching edge (R56, R71). -/
  nextFlags : BitVec 32 := 0
  /-- Interval counters, saturating (R58). -/
  ctr : Tbl Nat := []
  /-- Free-running counters, wrapping (R58). -/
  total : Tbl Nat := []
  /-- Snapshot: end_tide (R57). -/
  endTide : Nat := 0
  /-- Snapshot: tides (R57). -/
  tides : Nat := 0
  /-- Snapshot: flags (R57). -/
  snapFlags : BitVec 32 := 0
  /-- Snapshot: interval values (R56). -/
  snapCtr : Tbl Nat := []
  /-- Snapshot: free-running values (R56). -/
  snapTotal : Tbl Nat := []
  deriving DecidableEq, Repr, Inhabited

/-! ## Modules and processors (chapters 01 and 20) -/

/-- The application cluster (R37, R38, R650). -/
structure Cluster where
  /-- 0 stopped (cold), 1 starting, 2 running (R38, R650). -/
  st : Nat := 0
  /-- A heartbeat has arrived in this tide (R37). -/
  beat : Bool := false
  /-- Consecutive tides without a heartbeat (R37). -/
  missing : Nat := 0
  /-- An uncorrectable cache error or a core lock-up (R37). -/
  fault : Bool := false
  /-- The restart waits for thermal level 3 (R38). -/
  deferred : Bool := false
  /-- A declaration under R37 is due at this edge. -/
  declare_ : Bool := false
  /-- Services wait for the restored checkpoint (R38). -/
  restoring : Bool := false
  /-- The restore refills the reservation engine and the radio tables: after a full reset and at a takeover (R380, R555). -/
  refill : Bool := false
  deriving DecidableEq, Repr, Inhabited

/-- A boot seal, written with its boot area (R611). -/
structure Seal where
  /-- SHA-384 of the boot image and of the slot's manifest. -/
  boot : List Byte := []
  manifest : List Byte := []
  /-- The set's version and security_epoch. -/
  version : Nat := 0
  epoch : Nat := 0
  deriving DecidableEq, Repr, Inhabited

/-- Harbourmaster state in MRAM that start-up uses (R31, R612, R618). -/
structure Boot where
  /-- failed_starts (R612, R613). -/
  failedStarts : Nat := 0
  /-- A trial runs (R577, R612). -/
  trial : Bool := false
  /-- Boot area of the trial: 0 A, 1 B (R612). -/
  trialArea : Nat := 0
  /-- The active and confirmed area: 0 A, 1 B (R612). -/
  activeArea : Nat := 0
  /-- Epoch counter in OTP (R571). -/
  otpEpoch : Nat := 0
  /-- Seals of areas A and B verify (R611). -/
  sealOk : BitVec 2 := 0b01
  /-- Seals of areas A and B (R611). -/
  seals : Tbl Seal := []
  /-- The firmware changed since the last start (R131). -/
  fwChanged : Bool := false
  deriving DecidableEq, Repr, Inhabited

/-- ROM recovery mode (R619 to R622). -/
structure Recovery where
  /-- 0 idle, 1 loading, 2 verifying, 3 installing, 4 installed (R621). -/
  st : Nat := 0
  /-- Cause of entry (R622). -/
  cause : Nat := 0
  /-- The client that owns the load: 0 none, 1 USB, 2 and up Ethernet clients (R620). -/
  owner : Nat := 0
  /-- total_length of the load (R622). -/
  total : Nat := 0
  /-- Bytes held (R621). -/
  held : List Byte := []
  /-- Status of the last END (R622). -/
  lastStatus : Nat := 0
  deriving DecidableEq, Repr, Inhabited

/-- Start-up and reset (R608 to R618). -/
structure Sys where
  /-- MOD_STATE[3:0] (R618). -/
  modState : Nat := 0
  /-- The reset kind that acted last (R608); 0 while the main domain has no supply. -/
  kind : Nat := 1
  /-- A RESET that waits for its edge: its kind, and the count of tides that ran at that edge (R115). -/
  resetWait : Option (Nat × Nat) := none
  /-- Count of the tides that ran, at the last reset (R115). -/
  startRan : Nat := 0
  /-- The boot ROM has started a boot area (R612). -/
  romDone : Bool := false
  /-- MOD_STATE as the last SYS_STATE_CHANGE gave it (R116). -/
  shown : BitVec 32 := 0
  /-- MOD_STATE.ROLE: the module is tender (R89, R559). -/
  tender : Bool := true
  /-- The harbourmaster runs (R39, R94). -/
  hmRuns : Bool := false
  /-- Start-up ended in single mode and the module takes the pilot role at the next edge (R539). -/
  roleDue : Bool := false
  /-- Recovery mode (R619). -/
  recov : Recovery := {}
  /-- The state the restart of R617 returns through: the dies need no reload. -/
  warm : Bool := false
  deriving DecidableEq, Repr, Inhabited

/-! ## Host sessions (chapter 03) -/

/-- A command in flight: its header fields and its payload (R95). -/
structure Cmd where
  code : Nat := 0
  seq : Nat := 0
  payload : List Byte := []
  deriving DecidableEq, Repr, Inhabited

/-- An accepted command that the harbourmaster has not yet performed (R102): its window and session, and once the session's
window was released the command itself with the session's origin (R93). -/
structure Turn where
  w : Nat := 0
  sid : Nat := 0
  left : Option (Cmd × Nat) := none
  deriving DecidableEq, Repr, Inhabited

/-- A subscription (R113). -/
structure Sub where
  code : Nat := 0
  wide : Bool := false
  vector : Nat := 0
  deriving DecidableEq, Repr, Inhabited

/-- A queued event: code, tide in which it was raised, payload, MSI-X vector within the window (R107 to R109). -/
structure EvtRec where
  code : Nat := 0
  tide : Nat := 0
  payload : List Byte := []
  vector : Nat := 0
  deriving DecidableEq, Repr, Inhabited

/-- A session window and the session that owns it (R79 to R88, R108, R112). -/
structure Window where
  /-- SESS_STATE.STATE: 1 FREE, 2 OPEN, 3 NEGOTIATED, 4 CLOSING (R83). -/
  st : Nat := 1
  /-- SESS_STATE.ORIGIN (R83). -/
  origin : Nat := 0
  /-- SESS_STATE.MAJOR (R83). -/
  major : Nat := 0
  /-- SESS_STATE.MINOR (R83). -/
  minor : Nat := 0
  /-- SESS_CTRL.RSP_IE (R84). -/
  rspIe : Bool := false
  /-- SESS_CTRL.EVT_IE (R84). -/
  evtIe : Bool := false
  /-- CMD_STATUS.BUSY (R85). -/
  busy : Bool := false
  /-- CMD_STATUS.SEQ, 16 bits (R85). -/
  cmdSeq : Nat := 0
  /-- RSP_STATUS.RSP_READY (R86). -/
  rspReady : Bool := false
  /-- RSP_INFO.SEQ, 16 bits (R86). -/
  rspSeq : Nat := 0
  /-- RSP_INFO.LENGTH, 16 bits (R86). -/
  rspLen : Nat := 0
  /-- EVT_STATUS.EVT_READY (R87). -/
  evtReady : Bool := false
  /-- EVT_STATUS.LOST (R87). -/
  lost : Bool := false
  /-- DB_IGNORED, 32 bits, RC (R82, R99). -/
  dbIgnored : BitVec 32 := 0
  /-- EVT_DROPPED, 32 bits, RC (R82, R108). -/
  evtDropped : BitVec 32 := 0
  /-- The keepalive period in tides, 0 none (R112). -/
  keepPeriod : Nat := 0
  /-- KEEPALIVE_LEFT, 32 bits (R82). -/
  keepLeft : Nat := 0
  /-- EVT_RECORD, 128 bytes (R82). -/
  evtRecord : List Byte := []
  /-- Command buffer, 3,840 bytes, by offset (R79). -/
  cmdBuf : Tbl Byte := []
  /-- Response buffer, 4,096 bytes (R79, R99). -/
  rspBuf : List Byte := []
  /-- The previous accepted seq; none before the session's first command (R100). -/
  prevSeq : Option Nat := none
  /-- Subscriptions, at most 64 (R113). -/
  subs : List Sub := []
  /-- Events waiting, oldest first (R108). -/
  queue : List EvtRec := []
  /-- The next record delivered carries LOST (R108). -/
  lostNext : Bool := false
  /-- seq of the next event delivered, 16 bits (R107). -/
  evtSeq : Nat := 0
  /-- Change-rights mask, 32 bits (R106). -/
  rights : BitVec 32 := 0
  /-- Tide in which the session was opened (R112). -/
  openTide : Nat := 0
  /-- Serial number of the session, so that its completions reach no later session (the model's own, log entry 15). -/
  sid : Nat := 0
  /-- The command whose effect is not yet answered (R99, R100). -/
  inflight : Option Cmd := none
  /-- TLS client certificate and frame port of a TLS session (R106, R110). -/
  cert : Nat := 0
  port : Nat := 0
  /-- Reason of the close under way (R114). -/
  reason : Nat := 0
  /-- Count of the tides that ran, at the close (R93). -/
  closeRan : Nat := 0
  /-- Session and origin of a command that runs on after its session's window was released (R93); its response goes
  nowhere. -/
  caller : Option (Nat × Nat) := none
  deriving DecidableEq, Repr, Inhabited

/-- Work that a command started and that ends with COMMAND_DONE (R101): the session and the command. -/
structure Job where
  win : Nat := 0
  sid : Nat := 0
  code : Nat := 0
  seq : Nat := 0
  deriving DecidableEq, Repr, Inhabited

/-- The eight windows, the event router's held events and the MSI-X table (R79, R89, R90, R649). -/
structure Hosts where
  /-- Session windows 0 to 7 (R79). -/
  win : Tbl Window := []
  /-- Sessions opened so far (log entry 15). -/
  sids : Nat := 0
  /-- Held start-up events, oldest first (R649). -/
  held : List EvtRec := []
  /-- Accepted commands not yet performed, in the order of their doorbells and TLS records (R102). -/
  turns : List Turn := []
  /-- Windows and closed sessions whose last command ran on after the release: what it bound is released (R93). -/
  sweep : List (Nat × Nat) := []
  /-- Events raised in the clock cycle of a tide edge, which enter the queues in the order of their codes (R108): the event,
  and the window it is for where it is a COMMAND_DONE. -/
  burst : Option (List (EvtRec × Option Nat)) := none
  /-- HOST_IRQ_N is driven low (R109). -/
  irqLow : Bool := false
  /-- What TLS sessions wait to send, oldest first (R111, R402). -/
  outbox : List StreamData := []
  /-- MSI-X table words 0 to 255, 32 bits each, by word index (R89); vector control words reset to masked. -/
  msixTable : Tbl (BitVec 32) := []
  /-- MSI-X PBA, 64 bits (R89). -/
  msixPba : BitVec 64 := 0
  deriving DecidableEq, Repr, Inhabited

/-! ## Configuration store (chapter 04) -/

/-- Role of an image slot (R122). -/
inductive Role where
  | empty | current | previous | pending
  deriving DecidableEq, Repr, Inhabited

/-- A control record (R122). -/
structure CtrlRec where
  /-- Sequence number, 32 bits (R122). -/
  seq : Nat := 0
  /-- Role of slots X, Y, Z as 0, 1, 2 (R122). -/
  roles : Tbl Role := []
  /-- Highest image_version ever applied (R122). -/
  highest : Nat := 0
  /-- Copy of the metering section of the last image applied (R122). -/
  metering : Option MeterPar := none
  /-- applied_tide of the CURRENT image (R134, log entry 95). -/
  applied : Nat := 0
  /-- The record's CRC holds (R122). -/
  crcOk : Bool := false
  deriving DecidableEq, Repr, Inhabited

/-- A CFG_APPLY or CFG_REVERT that waits for its edge (R129, R130). -/
structure ApplyWait where
  /-- Slot of the image. -/
  slot : Nat := 0
  /-- Apply tide (R129). -/
  tide : Nat := 0
  /-- kind of CFG_APPLIED (R135). -/
  kind : Nat := 0
  job : Job := {}
  /-- The apply edge has passed; the control record is to be written (R130). -/
  passed : Bool := false
  /-- Tide of the edge at which the apply happened (R129, R135). -/
  edge : Nat := 0
  deriving DecidableEq, Repr, Inhabited

/-- The configuration store (R122, R128, R134). -/
structure Cfg where
  /-- Image slots X, Y, Z (R122). -/
  slots : Tbl (List Byte) := []
  /-- The two control records (R122). -/
  recs : Tbl CtrlRec := []
  /-- Which record is in force (R122). -/
  cur : Nat := 0
  /-- pending_state (R134): 0 none, 1 loading, 2 checking, 3 checked, 4 apply scheduled. -/
  pendingState : Nat := 0
  /-- defaulted: the reason code of R135, 0 on CURRENT (R134). -/
  defaulted : Nat := 0
  /-- CONFIG_DEFAULTED of MOD_STATE (R127). -/
  defaultedBit : Bool := false
  /-- total_length and image_version named by CFG_LOAD_BEGIN (R133). -/
  loadTotal : Nat := 0
  loadVersion : Nat := 0
  /-- The session that owns the load (R128). -/
  owner : Nat := 0
  /-- The check under way (R133). -/
  checkJob : Option Job := none
  /-- The scheduled apply (R129). -/
  apply : Option ApplyWait := none
  /-- Sections of the image in force, as type and bytes (R129). -/
  sections : List (Nat × List Byte) := []
  /-- The maps partition: map ID and content (R30, R346). -/
  maps : List (Nat × List Byte) := []
  /-- Section types that the application cluster takes when it is restored (R129). -/
  waiting : List Nat := []
  deriving DecidableEq, Repr, Inhabited

/-! ## Changes that wait for an edge (R60, R62, R102) -/

/-- A change accepted with an apply tide (R102): one constructor for each setting that a command changes at an edge. -/
inductive Setting where
  /-- TIME_PORT_SET (R171): port, ingress latency, egress latency, asymmetry. -/
  | timePort (port : Nat) (ingress egress asym : Int)
  /-- TIME_SOURCE_SET (R171). -/
  | timeSource (ring gnss ext holdoff : Nat)
  /-- TIME_THRESHOLD_SET (R171). -/
  | timeThreshold (step jump : Nat)
  /-- TIME_OUTPUT_SET (R171). -/
  | timeOutput (width mode limit : Nat)
  /-- RADIO_POWER_SET (R230). -/
  | radioPower (x : Nat) (dbm : Int)
  /-- LANT_RULE_ENABLE (R272). -/
  | ruleEnable (rule : Nat) (on : Bool)
  /-- FP_PLCA_SET (R415). -/
  | plca (port : Nat) (v : PlcaPar)
  /-- FP_RULE_SET (R401): index, rule, and the session that owns its copy. -/
  | fpRule (index : Nat) (r : FpRule) (owner : Option (Nat × Nat))
  /-- GNSS_NOTCH_SET (R282). -/
  | notch (rf n : Nat) (v : NotchPar)
  /-- GNSS_BIAS_SET (R281). -/
  | bias (antenna v : Nat)
  /-- GNSS_FS_SET (R306). -/
  | fsPar (v : FsPar)
  /-- GNSS_LOOP_SET (R294): signal code and antennas. -/
  | loop (signal antennas : Nat) (v : LoopPar)
  /-- REF_SURVEY_START (R318). -/
  | survey (minTides maxTides limitMm : Nat) (monSurvey : Bool)
  /-- REF_FIX_SET (R321): reference ARP, its height, monitor mode and monitor ARP. -/
  | refFix (arp : Ecef) (height mode : Nat) (mon : Ecef)
  /-- REF_OUTPUT_SET (R323). -/
  | refOutput (mount : Nat) (v : MountPar)
  /-- REF_INTEGRITY_SET (R331). -/
  | refIntegrity (h v alarm clear : Nat)
  /-- POS_ENROL (R334): vehicle, and slot plus one or 0. -/
  | enrol (vehicle slot : Nat)
  /-- QBUS_FILTER_SET (R470): channel, index, filter. -/
  | qfilter (c i : Nat) (f : Filter)
  /-- MTR_PULSE_SET (R497): output and parameters. -/
  | pulse (output : Nat) (v : PulsePar)
  /-- LAMP_LEVEL (R520): port, lamps and level. -/
  | lampLevel (port : Nat) (lamps : BitVec 32) (level : Nat)
  /-- LAMP_FAULT_CLEAR (R522). -/
  | lampClear (port : Nat) (lamps : BitVec 32)
  /-- SIGN_BRIGHTNESS (R532). -/
  | signBright (port v : Nat)
  /-- SYS_GPIO_SET (R638): mask and values. -/
  | gpio (mask values : BitVec 16)
  /-- LOG_LIMIT_SET (R606). -/
  | logLimit (code rate burst : Nat)
  deriving DecidableEq, Repr, Inhabited

/-- A setting and the tide of the edge at which it takes effect. -/
structure Change where
  tide : Nat := 0
  setting : Setting
  deriving DecidableEq, Repr

/-- A function that stops or starts at the first edge after its acceptance (R60, R62). -/
structure Switch where
  fn : Fn
  start : Bool := false
  tide : Nat := 0
  job : Option Job := none
  deriving DecidableEq, Repr

/-! ## GPIO (chapter 21) -/

/-- Selected edges of a GPIO in this tide (R639): count, level after the first, and its module time in ns. -/
structure GpioEdge where
  count : Nat := 0
  level : Bool := false
  first : Int := 0
  deriving DecidableEq, Repr, Inhabited

/-- The GPIO pins (R637 to R639). -/
structure Gpio where
  /-- Levels that the carrier puts on the pins; released pins read their pull-down, 0 (R633). -/
  levels : BitVec 16 := 0
  /-- Commanded output levels (R638). -/
  outs : BitVec 16 := 0
  /-- Output levels last driven (the model's own, for the record of outputs). -/
  shown : BitVec 16 := 0
  edges : Tbl GpioEdge := []
  deriving DecidableEq, Repr, Inhabited

/-! ## Logbook (chapter 19) -/

/-- A logbook record (R594). -/
structure LogRec where
  code : Nat := 0
  sev : Nat := 0
  flags : BitVec 8 := 0
  source : Nat := 0
  seq : Nat := 0
  tide : Nat := 0
  payload : List Byte := []
  /-- The LOG_NOTE that raised it, 0 none (the model's own). -/
  tag : Nat := 0
  deriving DecidableEq, Repr, Inhabited

/-- Suppression counts of one code since the last SUPPRESSED record (R602, R605). -/
structure Suppressed where
  count : Nat := 0
  sev : Nat := 0
  first : Nat := 0
  last : Nat := 0
  deriving DecidableEq, Repr, Inhabited

/-- A running export (R604). -/
structure Export where
  job : Job := {}
  window : Nat := 0
  minSev : Nat := 0
  next : Nat := 0
  to_ : Nat := 0
  deriving DecidableEq, Repr, Inhabited

/-- A LOG_NOTE whose response waits for the next edge (R606): window, session, and its staged record. -/
structure NoteWait where
  job : Job := {}
  tag : Nat := 0
  deriving DecidableEq, Repr, Inhabited

/-- The logbook (R594 to R604). -/
structure Logb where
  /-- Staging buffer, oldest first, 32 kB (R597). -/
  staging : List LogRec := []
  /-- Own records that wait for the reserve (R597). -/
  ownWait : List LogRec := []
  /-- Bytes of other records taken in this tide (R597). -/
  taken : Nat := 0
  /-- Next seq, 64 bits, in the MRAM counters region (R594); a new module's first record is number 1, as LOG_NOTE answers 0 for none
  (R606; log entry 113). -/
  seq : Nat := 1
  /-- MRAM tail: the two halves of 32 kB (R598). -/
  half0 : List LogRec := []
  half1 : List LogRec := []
  /-- The half being filled: 0 or 1; 2 when both are closed (R598). -/
  filling : Nat := 0
  /-- Halves closed and not yet copied, oldest first (R598). -/
  closed : List Nat := []
  /-- The tide, of those that ran, of the first record of the half being filled (R598). -/
  firstRan : Nat := 0
  /-- UFS store segments, oldest first, at most 8,192 (R599). -/
  store : List (List LogRec) := []
  /-- Segments skipped for a bad CRC (R599). -/
  skipped : Nat := 0
  /-- Token buckets by code: hundredths missing from full, and the severity of the record that took the last (R601). -/
  spent : Tbl (Nat × Nat) := []
  /-- Suppression counts by code (R602). -/
  supp : Tbl Suppressed := []
  /-- suppressed_total, dropped_total (R606). -/
  suppTotal : BitVec 32 := 0
  dropTotal : BitVec 32 := 0
  /-- A flood runs: dropped, displaced, first and last tide (R605). -/
  flood : Option (Nat × Nat × Nat × Nat) := none
  /-- The flood had a drop or displacement in this tide (R605). -/
  floodNow : Bool := false
  /-- Per-code entries of LOG_LIMIT_SET in force over the configuration's (R606). -/
  limits : Tbl RatePar := []
  limitCodes : List Nat := []
  /-- Running exports, at most two (R604). -/
  exports : List Export := []
  /-- Notes whose response waits (R606). -/
  notes : List NoteWait := []
  /-- Tags given to notes (the model's own). -/
  noteTag : Nat := 0
  deriving DecidableEq, Repr, Inhabited

end Sys2Proof.Machine
end

