-- ==== Sys2Proof/Machine/Flags.lean ====
section
/-! DEFINITION. Sys2Proof/Machine/Flags.lean: the counters and the flags of statistic groups (R55 to R58). -/

namespace Sys2Proof.Machine

def flGap : BitVec 32 := 1
def flStretch : BitVec 32 := 2
def flPartial : BitVec 32 := 4
def flStep : BitVec 32 := 8
def flMissed : BitVec 32 := 16
def flSaturated : BitVec 32 := 32

/-- The width in bits of a counter: counters 1 and 20 of a frame port have 48 bits (R411), every other has 32. -/
def statWidth (g i : Nat) : Nat := if 16 ≤ g ∧ g < 30 ∧ (i = 0 ∨ i = 19) then 48 else 32

/-- Adds to a counter: the interval value saturates and the free-running value wraps (R58). -/
def StatGroup.add (width i n : Nat) (x : StatGroup) : StatGroup :=
  if x.on then
    let v := tget 0 x.ctr i + n
    let top := 2 ^ width - 1
    { x with
      ctr := tput 0 x.ctr i (min v top)
      total := tput 0 x.total i ((tget 0 x.total i + n) % 2 ^ width)
      flags := if v ≥ top then x.flags ||| flSaturated else x.flags }
  else x

/-- Sets flags of the running interval (R57). -/
def StatGroup.mark (f : BitVec 32) (x : StatGroup) : StatGroup := { x with flags := x.flags ||| f }

/-- Keeps the largest value in a gauge counter. -/
def StatGroup.peak (i n : Nat) (x : StatGroup) : StatGroup :=
  if x.on then { x with ctr := tput 0 x.ctr i (max n (tget 0 x.ctr i)) } else x

/-- Latches the snapshot and restarts the interval (R56, R57). -/
def StatGroup.latch (tide ran : Nat) (next : BitVec 32) (x : StatGroup) : StatGroup :=
  { x with endTide := tide, tides := ran - x.startRan, snapFlags := x.flags, snapCtr := x.ctr, snapTotal := x.total,
           ctr := [], startRan := ran, flags := next }

/-- Starts the group at the first edge at which its block runs (R648): PARTIAL unless that edge is a regular end edge. -/
def StatGroup.begin_ (ran : Nat) (regular : Bool) (x : StatGroup) : StatGroup :=
  { x with on := true, startRan := ran, ctr := [], flags := if regular then 0 else flPartial }

/-- The snapshot header of R57 as end_tide, tides and flags. -/
def StatGroup.header (x : StatGroup) : Nat × Nat × Nat := (x.endTide, x.tides, x.snapFlags.toNat)

end Sys2Proof.Machine
end

