-- ==== Sys2Proof/Machine/StateGnss.lean ====
section
/-! DEFINITION. Sys2Proof/Machine/StateGnss.lean: the state of the GNSS baseband and of the reference station (chapters
09 and 10). -/

namespace Sys2Proof.Machine

/-- A tracking channel: 0 to 191 of the reference, 192 to 383 of the monitor antenna (R291). -/
structure Chan where
  /-- Channel state: 0 IDLE, 1 PULL_IN, 2 TRACKING, 3 CODE_ONLY, 4 COASTING, 5 LOST (R291). -/
  st : Nat := 0
  /-- Signal code (R278). -/
  signal : Nat := 0
  /-- Satellite number (R279). -/
  sat : Nat := 0
  /-- Placement epoch of the signal, 8 bits (R299). -/
  epoch : BitVec 8 := 0
  /-- GLONASS frequency number (R299). -/
  glo : Int := 0
  /-- C/N0 in 0.25 dB-Hz (R299). -/
  cn0 : Nat := 0
  /-- Coherent time in use in ms (R314). -/
  tMs : Nat := 0
  /-- Spacings in use in 1/64 chip (R314). -/
  dN : Nat := 0
  dF : Nat := 0
  /-- PLL lock indicator times 1,000 (R314). -/
  lockInd : Int := 0
  /-- Doppler in 2^-8 Hz (R314). -/
  doppler : Int := 0
  /-- Phase accumulators of the carrier and the code NCO (R293). -/
  carrierNco : BitVec 48 := 0
  codeNco : BitVec 48 := 0
  /-- Their rates in 122.76 MHz / 2^48 (R293). -/
  carrierRate : BitVec 48 := 0
  codeRate : BitVec 48 := 0
  /-- Integrators of the loop filters, as last latched (R294, R301). -/
  loop : List Int := []
  /-- Loop parameters that wait for the channel's integration boundary, and the count of tides that ran by then (R312). -/
  loopSet : Option (LoopPar × Nat) := none
  /-- Code phase in half chips at the start, moved by side-peak corrections (R289, R292). -/
  phase : Int := 0
  /-- Count of tides that ran at the last slip (R299). -/
  slipRan : Nat := 0
  /-- SLIP is set on the next entry (R295). -/
  slip : Bool := false
  /-- The half-cycle ambiguity is resolved (R295). -/
  half : Bool := false
  /-- Bit sync is found (R294). -/
  bitSync : Bool := false
  /-- Secondary-code alignment is found (R278). -/
  secondary : Bool := false
  /-- MOVED is set on the next entry (R301). -/
  moved : Bool := false
  /-- The signal carries SUSPECT (R307). -/
  suspect : Bool := false
  /-- Flags of the latest entry, 16 bits (R314). -/
  flags : BitVec 16 := 0
  /-- Tide of the edge at which the current placement took effect (R314). -/
  startTide : Nat := 0
  /-- Count of tides that ran when COASTING began (R296). -/
  coastRan : Nat := 0
  /-- The signal is disabled: the channel becomes IDLE after this edge's latch (R309). -/
  ending : Bool := false
  /-- The channel whose signal moved away from here, for its late results (R302). -/
  movedTo : Option Nat := none
  deriving DecidableEq, Repr, Inhabited

/-- A notch filter (R282, R283). -/
structure Notch where
  /-- An adaptive notch is engaged on a line (R283). -/
  engaged : Bool := false
  /-- Offset in use in units of 122.76 MHz / 2^20 (R282). -/
  offset : Int := 0
  /-- Tides in a row in which its line stayed below DET_DB − 3 dB (R283). -/
  low : Nat := 0
  deriving DecidableEq, Repr, Inhabited

/-- A bin above DET_DB (R283). -/
structure Line where
  /-- Bin from the centre. -/
  bin : Int := 0
  /-- Rise above the median of all bins in 0.25 dB. -/
  level : Nat := 0
  /-- Tides in a row above DET_DB. -/
  run : Nat := 0
  /-- It found no free notch, and was counted in NOTCH_OVERFLOW. -/
  counted : Bool := false
  deriving DecidableEq, Repr, Inhabited

/-- A calibration of the quiet level under way (R287). -/
structure JiCal where
  /-- Count of tides that ran at which its 100 tides end. -/
  ends : Nat := 0
  /-- Its command, which ends with the last of its RF channels. -/
  job : Job := {}
  /-- Another RF channel of the command was void. -/
  bad : Bool := false
  deriving DecidableEq, Repr, Inhabited

/-- An RF channel (R277, R285, R286). -/
structure RfChan where
  /-- Gain in 0.5 dB, as last reported (R280). -/
  gain : Nat := 0
  /-- JI_IN and JI_OUT (R285). -/
  jiIn : Nat := 0
  jiOut : Nat := 0
  /-- Tides in a row with JI_OUT at or above JAM_ON, and below JAM_OFF (R286). -/
  above : Nat := 0
  below : Nat := 0
  /-- In the jammed state (R286). -/
  jammed : Bool := false
  /-- Notches 0 to 3 (R282). -/
  notches : Tbl Notch := []
  /-- A notch changed since the last measurement record: the count of tides that ran at the first and at the latest change
  (R284). -/
  notchFirst : Option Nat := none
  notchChange : Option Nat := none
  /-- Bins above DET_DB in the ended tide (R283). -/
  lines : List Line := []
  /-- Quiet level set by calibration in 0.25 dB, absent while the manufactured level stands (R287). -/
  quiet : Option Nat := none
  /-- The calibration under way (R287). -/
  cal : Option JiCal := none
  deriving DecidableEq, Repr, Inhabited

/-- One antenna: 0 reference, 1 monitor (R281, R296). -/
structure Antenna where
  /-- The lane is aligned (R28). -/
  lane : Bool := true
  /-- 0 normal, 1 open, 2 short and bias off (R281, R312). -/
  ant : Nat := 0
  /-- Count of tides that ran from which the bias is tried again (R281). -/
  retry : Nat := 0
  /-- The lane's count of sample clocks at the last edge (R28). -/
  count : Nat := 0
  deriving DecidableEq, Repr, Inhabited

/-- What an evaluation of a band gave (R306). -/
structure FsResult where
  /-- 0 UNTESTED, 1 PASS, 2 FAIL. -/
  kind : Nat := 0
  n : Nat := 0
  /-- F, M and G in units of 1/1,000, beta in 1/1,000 cycle (R312). -/
  f : Nat := 0
  m : Nat := 0
  g : Nat := 0
  beta : Int := 0
  tide : Nat := 0
  /-- The signals evaluated: reference channel, 256 times the signal code plus the satellite, residual in 2^-16 cycle. -/
  r : List (Nat × Nat × Int) := []
  deriving DecidableEq, Repr, Inhabited

/-- The false-signal state of one band (R307). -/
structure FsBand where
  /-- 0 UNTESTED, 1 PASS, 2 FAILING, 3 ALARM (R298, R307). -/
  st : Nat := 0
  /-- Consecutive FAILs, or in ALARM consecutive PASSes (R307, R312). -/
  run : Nat := 0
  /-- The last evaluation (R312). -/
  last : FsResult := {}
  /-- The evaluation that takes effect at the next edge (R307). -/
  next : Option FsResult := none
  deriving DecidableEq, Repr, Inhabited

/-- A move of a signal that waits for its edge (R301). -/
structure SignalMove where
  src : Nat := 0
  dst : Nat := 0
  tide : Nat := 0
  job : Option Job := none
  deriving DecidableEq, Repr, Inhabited

/-- A stream of records to a host queue window (R300, R329): session serial, window, divisor and antennas, or for the
reference station kind and mountpoint. -/
structure Stream where
  sid : Nat := 0
  qwin : Nat := 0
  a : Nat := 0
  b : Nat := 0
  deriving DecidableEq, Repr, Inhabited

/-- An entry of the measurement record (R299). -/
structure MeasEntry where
  ch : Nat := 0
  signal : Nat := 0
  sat : Nat := 0
  st : Nat := 0
  epoch : BitVec 8 := 0
  cn0 : Nat := 0
  glo : Int := 0
  range : Nat := 0
  carrier : Int := 0
  doppler : Int := 0
  lockTime : Nat := 0
  flags : BitVec 16 := 0
  deriving DecidableEq, Repr, Inhabited

/-- The GNSS baseband (R277 to R315). -/
structure Gnss where
  /-- RF channels 0 to 5 (R277). -/
  rf : Tbl RfChan := []
  /-- Antennas 0 and 1 (R281). -/
  ant : Tbl Antenna := []
  /-- Tracking channels 0 to 383 (R291). -/
  chans : Tbl Chan := []
  /-- Moves that wait (R301). -/
  moves : List SignalMove := []
  /-- Searches that wait, at most 64, and that run, at most 8 (R288). -/
  queue : List AcqRequest := []
  running : List AcqRequest := []
  /-- Requests returned to firmware with their status, newest first (R288, R309). -/
  returned : List (AcqRequest × Nat) := []
  /-- Channels that start at the next edge from a detection (R289). -/
  starts : List (Nat × Chan) := []
  /-- Bands 0 to 2 (R307). -/
  bands : Tbl FsBand := []
  /-- The false-signal alarm is raised (R308). -/
  alarm : Bool := false
  /-- Signals disabled by command: antenna and row of R278 (R309). -/
  stopped : List (Nat × Nat) := []
  /-- Host streams, at most 4 (R300). -/
  streams : List Stream := []
  /-- The last measurement record: epoch tide and entries (R298). -/
  recTide : Nat := 0
  /-- The running cluster took that record from the berth pool (R297, R310). -/
  recTaken : Bool := false
  /-- Count of tides that ran at the last latch: one for each epoch (R297). -/
  latchRan : Option Nat := none
  entries : List MeasEntry := []
  deriving DecidableEq, Repr, Inhabited

/-- The observations held of one vehicle for an epoch, and the datagrams they came in (R335, R336). -/
structure ObsSet where
  tide : Nat := 0
  parts : Nat := 0
  obs : List ObsSignal := []
  deriving DecidableEq, Repr, Inhabited

/-- A vehicle served by central positioning (R334 to R338). -/
structure PosVehicle where
  /-- Sequence of the last accepted datagram, none before the first (R336). -/
  lastSeq : Option Nat := none
  /-- Sequence of the next record (R338). -/
  recSeq : Nat := 0
  /-- last_obs_tide (R342). -/
  obsTide : Nat := 0
  /-- The sets held, by epoch (R336, R337). -/
  sets : List ObsSet := []
  /-- The filter restarted since the last record (R338). -/
  reset : Bool := true
  /-- Fix and reason of the latest record (R345). -/
  fix : Nat := 0
  reason : Nat := 0
  /-- The latest record, bytes 0 to 63 (R338). -/
  record : List Byte := []
  deriving DecidableEq, Repr, Inhabited

/-- A caster connection (R327, R328). -/
structure Caster where
  conn : Nat := 0
  port : Nat := 0
  mount : Nat := 0
  /-- NTRIP version 2.0, with chunked transfer encoding (R327). -/
  two : Bool := false
  /-- Unsent bytes (R328). -/
  unsent : Nat := 0
  deriving DecidableEq, Repr, Inhabited

/-- The running survey of the reference antenna (R318). -/
structure Survey where
  /-- Edge tide at which it started, and the count of tides that ran then (R344). -/
  start : Nat := 0
  startRan : Nat := 0
  minTides : Nat := 360000
  maxTides : Nat := 8640000
  limitMm : Nat := 2000
  /-- Samples taken: their count, sum and sum of squares of the band-0 phase centre per axis (R318, R339). -/
  n : Nat := 0
  sum : Ecef := { x := 0, y := 0, z := 0 }
  squares : Ecef := { x := 0, y := 0, z := 0 }
  deriving DecidableEq, Repr, Inhabited

/-- The reference station and central positioning (R316 to R345). -/
structure Ref where
  /-- State: 0 OFF, 1 SURVEY, 2 BASELINE, 3 FIXED, 4 INHIBITED (R316). -/
  st : Nat := 0
  /-- State and cause that take effect at the next edge (R316, R345). -/
  next : Option (Nat × Nat) := none
  /-- The service is enabled (R342). -/
  on : Bool := false
  /-- What caster connections wait to send, oldest first (R327, R402). -/
  outbox : List StreamData := []
  /-- Central positioning is enabled (R342). -/
  posOn : Bool := false
  /-- Integrity: 0 UNVERIFIED, 1 VERIFIED, 2 ALARM (R331). -/
  integrity : Nat := 0
  /-- Runs of fixed solutions over the limits, within them, and of solutions not fixed (R331). -/
  overRun : Nat := 0
  clearRun : Nat := 0
  floatRun : Nat := 0
  /-- Fix type of the last monitor solution and its discrepancies in mm (R344). -/
  monFix : Nat := 0
  hDisc : Nat := 0
  vDisc : Int := 0
  /-- Satellites in the last correction epoch, and its tide (R344). -/
  sats : Nat := 0
  lastCorr : Nat := 0
  /-- Reference and monitor ARP held (R317, R320). -/
  refArp : Option Ecef := none
  monArp : Option Ecef := none
  /-- The monitor mode is "survey" (R319). -/
  monSurvey : Bool := true
  /-- The running survey (R318). -/
  survey : Option Survey := none
  /-- The last consecutive fixed monitor survey solutions with an ambiguity ratio of 3.0, at most 600, newest first
  (R319). -/
  monLast : List Ecef := []
  /-- Station messages are due in the next correction epoch of these mountpoints (R321, R326). -/
  stationDue : List Nat := []
  /-- Mountpoints encoded in this tide with their bytes (R323, R330). -/
  encoded : List (Nat × List Byte) := []
  /-- Host streams, at most 4: kind and mountpoint (R329). -/
  streams : List Stream := []
  /-- Caster connections, at most 32 (R328). -/
  clients : List Caster := []
  /-- Slot of each vehicle plus one, 0 while not enrolled (R334). -/
  slots : Tbl Nat := []
  /-- Vehicles 0 to 255 (R335). -/
  vehicles : Tbl PosVehicle := []
  /-- Vehicles that the engine solves in this tide with the signals it uses, and their epoch (R333, R337). -/
  solving : List (Nat × List ObsSignal) := []
  solveTide : Nat := 0
  /-- Solutions complete in this tide whose records wait for the last one, with the satellites used (R337). -/
  ready : List (Solution × Nat) := []
  /-- POS_FIX_CHANGE events of this tide, and the changes beyond 16: to fixed, to float, to none (R345). -/
  fixEvents : Nat := 0
  toFixed : Nat := 0
  toFloat : Nat := 0
  toNone : Nat := 0
  /-- Changes beyond 16 in all (R345). -/
  otherFix : Nat := 0
  /-- Epochs of the last time measurements delivered, newest first (R339). -/
  timeEpochs : List Nat := []
  /-- Edge tide of the last station messages plus one, by mountpoint (R326). -/
  stationAt : Tbl Nat := []
  /-- Tide of the last monitor solution plus one (R330). -/
  lastSolve : Nat := 0
  /-- Tide plus one in which the monitor rover's turn at the engine has passed (R333). -/
  roverAt : Nat := 0
  /-- The latest UTC parameters, until they are taken while LOCKED to GNSS: offset, next offset, second (R181, R340). -/
  utcSet : Option (Int × Int × Nat) := none
  /-- A set of UTC parameters was decoded from GPS since start-up (R340). -/
  gpsUtc : Bool := false
  deriving DecidableEq, Repr, Inhabited

end Sys2Proof.Machine
end

