-- ==== Sys2Proof/Machine/StateLantern.lean ====
section
/-! DEFINITION. Sys2Proof/Machine/StateLantern.lean: the state of the lantern service (chapter 08). -/

namespace Sys2Proof.Machine

/-- A move of a node that waits for its PLACE and its edge (R254). -/
structure NodeMove where
  /-- Transceiver moved to. -/
  x : Nat := 0
  /-- from_tide (R254). -/
  fromTide : Nat := 0
  /-- PLACE sent so many times (R254). -/
  tries : Nat := 1
  /-- PLACE was acknowledged (R254). -/
  acked : Bool := false
  job : Option Job := none
  deriving DecidableEq, Repr, Inhabited

/-- A join in progress (R244): the answer that the next recovery cell carries. -/
structure JoinStep where
  /-- Transceiver that heard the JOIN. -/
  x : Nat := 0
  /-- 0 JOIN_ACCEPT, n the n-th JOIN_SEQ part (R244). -/
  part : Nat := 0
  /-- Transmissions of this answer without acknowledgement (R244). -/
  tries : Nat := 0
  /-- join_nonce (R241). -/
  nonce : Nat := 0
  /-- A rejoin (R246). -/
  again : Bool := false
  /-- The node_key that JOIN_ACCEPT carries (R241, R245; log entry 108). -/
  key : List Byte := []
  deriving DecidableEq, Repr, Inhabited

/-- An ENERGY report kept for the feeder balance (R269, R270). -/
structure EnergyReport where
  tide : Nat := 0
  energy : Nat := 0
  reset : Bool := false
  deriving DecidableEq, Repr, Inhabited

/-- An entry of the lantern service's node table (R247, R274). -/
structure LNode where
  /-- Service state: 0 UNUSED, 1 JOINING, 2 ACTIVE, 3 ADRIFT, 4 LOST (R247). -/
  st : Nat := 0
  /-- NNP version, 0 before join (R274). -/
  version : Nat := 0
  /-- EUI-64 (R274). -/
  eui : Nat := 0
  /-- Class from JOIN (R274). -/
  cls : Nat := 0
  /-- Hardware code from JOIN (R241). -/
  hw : Nat := 0
  /-- node_state as last reported (R274). -/
  nodeState : Nat := 0
  /-- Level as last reported (R274). -/
  level : Nat := 0
  /-- Floor in force (R274). -/
  floor : Nat := 0
  /-- Faults as last reported, 16 bits (R274). -/
  faults : BitVec 16 := 0
  /-- Generation in force as last reported (R274). -/
  generation : Nat := 0
  /-- recall_gen as last reported (R241). -/
  recallGen : Nat := 0
  /-- fw_version from the latest JOIN (R274). -/
  fwVersion : Nat := 0
  /-- fw_slot, temp and missed_timed as last reported (R241). -/
  fwSlot : Nat := 0
  temp : Int := 0
  missedTimed : Nat := 0
  /-- The node key given by the last acknowledged JOIN_ACCEPT (R245). -/
  nodeKey : List Byte := []
  /-- Tide of the last accepted frame (R274). -/
  lastFrame : Nat := 0
  /-- end_tide of the last accepted ENERGY (R274). -/
  lastEnergy : Nat := 0
  /-- Cumulative grains in that report (R274). -/
  energy : Nat := 0
  /-- Cumulative µvarh of a version-3 node (R241). -/
  reactive : Nat := 0
  /-- Burn hours (R241). -/
  burnHours : Nat := 0
  /-- Energy reports kept, newest first (R270). -/
  reports : List EnergyReport := []
  /-- Tide of the edge at which the current placement took effect (R64). -/
  placed : Nat := 0
  /-- The waiting move (R254). -/
  move : Option NodeMove := none
  /-- The join in progress (R244). -/
  join : Option JoinStep := none
  /-- The entry becomes UNUSED at the next edge (R272). -/
  removing : Bool := false
  /-- The entry is UNUSED and its LEAVE has not been sent (R241, R272). -/
  leaving : Bool := false
  deriving DecidableEq, Repr, Inhabited

/-- An NNP message that waits for a cell (R238, R241): node 0xFFFF is a broadcast on its transceiver. -/
structure NnpMsg where
  node : Nat := 0
  /-- Transceiver of a broadcast. -/
  x : Nat := 0
  /-- Message type (R241). -/
  kind : Nat := 0
  body : List Byte := []
  /-- Transmissions left: three successive cells for bow waves and recalls (R260). -/
  left : Nat := 1
  /-- DSN of its frames (R236; log entry 108). -/
  dsn : BitVec 8 := 0
  deriving DecidableEq, Repr, Inhabited

/-- A lantern command whose targets have not all confirmed (R272). -/
structure LampWait where
  job : Job := {}
  /-- Tide of its time limit (R272). -/
  limit : Nat := 0
  /-- cmd_id of its messages (R241). -/
  cmdId : Nat := 0
  /-- Targets that have not confirmed. -/
  targets : List Nat := []
  /-- The floor that a confirmation brings into force (R251). -/
  floor : Option Nat := none
  deriving DecidableEq, Repr, Inhabited

/-- A detection in force (R258): its group, the tides it raises and its level. -/
structure Raised where
  group : Nat := 0
  start : Nat := 0
  stop : Nat := 0
  level : Nat := 0
  deriving DecidableEq, Repr, Inhabited

/-- A detection received, for the next tide's rule evaluation: source, its id, channel, class (R257, R258). -/
structure Detection where
  source : Nat := 0
  id : Nat := 0
  channel : Nat := 0
  cls : Nat := 0
  tide : Nat := 0
  /-- The count of issued tides at its receipt (R258). -/
  ran : Nat := 0
  deriving DecidableEq, Repr, Inhabited

/-- The last balance record of a feeder (R270, R275). -/
structure Balance where
  result : Nat := 0
  intervals : Nat := 0
  consecutive : Nat := 0
  /-- Result of the last span, which a record without a span keeps (R271). -/
  span : Nat := 0
  endTide : Nat := 0
  imported : Int := 0
  nodeSum : Nat := 0
  allowance : Nat := 0
  residual : Int := 0
  nodes : Nat := 0
  missing : Nat := 0
  /-- An alarm was raised and not cleared (R271). -/
  alarmed : Bool := false
  deriving DecidableEq, Repr, Inhabited

/-- The lantern service (R233 to R276). -/
structure Lantern where
  /-- Node table, IDs 0 to 4,095 (R247). -/
  nodes : Tbl LNode := []
  /-- Bow-wave generation, 16 bits (R259). -/
  generation : BitVec 16 := 0
  /-- Bow waves are enabled by command (R272). -/
  bowOff : Bool := false
  /-- The step set in force (R258 to R260). -/
  steps : List BwStep := []
  /-- The step set accepted for the next edge (R259). -/
  nextSteps : Option (List BwStep × Bool) := none
  /-- The step set that this tide's work formed (R258). -/
  formed : List BwStep := []
  /-- Detections received since the last edge (R258). -/
  inputs : List Detection := []
  /-- Detections in force (R258). -/
  raised : List Raised := []
  /-- Conditional frames of the reservation batch of this tide, with the vehicle of their request (R262). -/
  cond : List (Nat × CondFrame) := []
  /-- Released messages, and their transmissions left (R260, R262). -/
  recalls : List NnpMsg := []
  /-- Nodes that the frames released in this tide name: they take their new sets at the next edge (R260, R262). -/
  condSet : List Nat := []
  /-- Frames were released in this tide: their generation is in force from the next edge (R262). -/
  condOut : Bool := false
  /-- The function 0x01 result of this tide was accepted (R51, R259). -/
  resultIn : Bool := false
  /-- Steps omitted for version-1 nodes that are counted (R235). -/
  omitted : List BwStep := []
  /-- DSN of the last message queued (R236). -/
  dsn : BitVec 8 := 0
  /-- Transceivers on which a recall waits: indirect frames parked (R262). -/
  parked : List Nat := []
  /-- NNP messages that wait for a cell, oldest first (R244 to R272). -/
  down : List NnpMsg := []
  /-- Messages that went into cells of the loaded tide (R201). -/
  aired : List NnpMsg := []
  /-- Commands that wait for confirmations (R272). -/
  waits : List LampWait := []
  /-- cmd_id given last, 8 bits (R241). -/
  cmdId : Nat := 0
  /-- Rules enabled or disabled by command, over configuration (R272). -/
  ruleSet : Tbl (Option Bool) := []
  /-- Feeder balance records 0 to 11 (R275). -/
  balance : Tbl Balance := []
  /-- Cumulative net import of each feeder at its last interval ends, newest first: end tide, and 2^-32 grain (R270). -/
  imports : Tbl (List (Nat × Int)) := []
  /-- STALE_ACCEPTED (R256). -/
  stale : BitVec 32 := 0
  /-- Stale results counted and discarded (R256). -/
  staleDropped : BitVec 32 := 0
  /-- JOIN_UNKNOWN (R246). -/
  joinUnknown : BitVec 32 := 0
  /-- BW_SKIPPED_V1 (R235). -/
  bwSkipped : BitVec 32 := 0
  /-- NNP_MALFORMED (R243). -/
  malformed : BitVec 32 := 0
  /-- LANT_NODE_STATE events of this tide, and the changes not reported one by one (R276). -/
  stateEvents : Nat := 0
  toActive : Nat := 0
  toAdrift : Nat := 0
  toLost : Nat := 0
  toOther : Nat := 0
  deriving DecidableEq, Repr, Inhabited

end Sys2Proof.Machine
end

