-- ==== Sys2Proof/Machine/StateRadio.lean ====
section
/-! DEFINITION. Sys2Proof/Machine/StateRadio.lean: the state of the radio dies (chapter 07). -/

namespace Sys2Proof.Machine

/-- An entry of a die's node or vehicle table (R213, R221, R231). -/
structure Link where
  /-- Link state: 0 UNUSED, 1 JOINING, 2 SYNC, 3 DRIFT, 4 ADRIFT (R221). -/
  st : Nat := 0
  /-- Transceiver index (R213). -/
  x : Nat := 255
  /-- Placement epoch, 8 bits (R213). -/
  epoch : BitVec 8 := 0
  /-- Last accepted ASN (R213). -/
  lastAsn : Nat := 0
  /-- Last accepted DSN, 8 bits; 256 while none has been accepted (R213, log entry 45). -/
  lastDsn : Nat := 256
  /-- The harbourmaster's shadow copies of both, refreshed at each tide edge (R215). -/
  shAsn : Nat := 0
  shDsn : Nat := 256
  /-- Last timing error in µs (R213). -/
  err : Int := 0
  /-- Consecutive failed exchanges (R222). -/
  fails : Nat := 0
  /-- RSSI in dBm (R231). -/
  rssi : Int := 0
  /-- Tide of the last accepted frame (R231). -/
  lastRx : Nat := 0
  deriving DecidableEq, Repr, Inhabited

/-- The cell of a transceiver in a tide (R201). -/
inductive CellUse where
  | idle
  | eb
  | recovery
  | followOn (node : Nat)
  | send (f : CellFrame)
  | receive (node : Nat)
  | shared
  deriving DecidableEq, Repr, Inhabited

/-- One radio die (R27, R227, R230). -/
structure Die where
  /-- Link state: 0 up, 1 strobe fault, 2 failed (R230). -/
  st : Nat := 0
  /-- Consecutive strobe faults (R227). -/
  faults : Nat := 0
  /-- Consecutive tide edges at which its internal link was down (R227). -/
  down : Nat := 0
  /-- Declared failed and restarting: the effects start at the next edge (R227). -/
  moving : Bool := false
  /-- Restored: back in service from the next edge (R205, R227). -/
  back : Bool := false
  /-- Its firmware is loaded (R614). -/
  loaded : Bool := false
  deriving DecidableEq, Repr, Inhabited

/-- A budget entry's ledger (R219). -/
structure Ledger where
  /-- used in µs (R219). -/
  used : Nat := 0
  /-- Airtime bins in µs by second of the window (R219). -/
  bins : Tbl Nat := []
  /-- 0 NORMAL, 1 RESERVE_ONLY, 2 HOLD (R219, R230). -/
  st : Nat := 0
  deriving DecidableEq, Repr, Inhabited

/-- An indirect frame (R216). -/
structure Indirect where
  node : Nat := 0
  expiry : Nat := 0
  psdu : List Byte := []
  deriving DecidableEq, Repr, Inhabited

/-- The radio dies (R192 to R232). -/
structure Radio where
  /-- Radio dies RC9-A and RC9-B as 0 and 1 (R25). -/
  dies : Tbl Die := []
  /-- Transceivers disabled by command (R228), one bit each. -/
  disabled : BitVec 12 := 0
  /-- Transmit power set by command in dBm, by transceiver (R230). -/
  power : Tbl (Option Int) := []
  /-- Node table, keys 0 to 4,095, and vehicle table, keys 0x1000 to 0x10FF (R213). -/
  links : Tbl Link := []
  /-- Ledgers of budget entries 0 to 8 (R219). -/
  ledgers : Tbl Ledger := []
  /-- Indirect frames, oldest first (R216). -/
  indirect : List Indirect := []
  /-- Granted follow-on cells: transceiver, tide, node (R216). -/
  grants : List (Nat × Nat × Nat) := []
  /-- Frames accepted for the next tide (R203). -/
  next : List CellFrame := []
  /-- Cells loaded for the tide they name, by transceiver (R48, R201). -/
  cells : Tbl CellUse := []
  /-- Tide of the loaded cells (R48). -/
  cellTide : Nat := 0
  /-- Transmissions that wait for an acknowledgement: transceiver and node (R222). -/
  waiting : List (Nat × Nat) := []
  /-- Nodes heard in their dedicated receive cell of this tide: transceiver and node (R222). -/
  heard : List (Nat × Nat) := []
  /-- Frames returned to firmware: node and status, newest first, until the cluster's next work (R197). -/
  returned : List (Nat × Nat) := []
  /-- RADIO_NODE_LINK events of this tide (R232). -/
  linkEvents : Nat := 0
  /-- Changes not reported one by one in this tide: all of them, and those to SYNC, to DRIFT, to ADRIFT (R232). -/
  unreported : Nat := 0
  toSync : Nat := 0
  toDrift : Nat := 0
  toAdrift : Nat := 0
  deriving DecidableEq, Repr, Inhabited

end Sys2Proof.Machine
end

