-- ==== Sys2Proof/Machine/StateFleet.lean ====
section
/-! DEFINITION. Sys2Proof/Machine/StateFleet.lean: the state of the fleet service with the halt path (chapter 11) and of
power feeds, pilot and tender (chapter 17). -/

namespace Sys2Proof.Machine

/-! ## Fleet (chapter 11) -/

/-- An interval held by the reservation engine (R347, R348, R350, R356). -/
structure Held where
  cell : Nat := 0
  enter : Nat := 0
  /-- Leave tide; none while standing (R347). -/
  leave : Option Nat := none
  /-- Speculative (R348). -/
  spec : Bool := false
  /-- A committed removal waits for its acknowledgement (R350). -/
  removing : Bool := false
  /-- path_seq sent last before that removal took effect: only a later PATH no longer carries the removed time (R350, R360). -/
  removedAt : Option Nat := none
  /-- That acknowledgement arrived: the removal takes effect at the next edge (R350). -/
  released : Bool := false
  /-- Made standing by a halt hold (R355 cause 6, R356). -/
  hold : Bool := false
  deriving DecidableEq, Repr, Inhabited

/-- A PATH sent and not older than the newest acknowledged: its path_seq and its content (R359, R360). -/
structure SentPath where
  seq : Nat := 0
  entries : List Held := []
  deriving DecidableEq, Repr, Inhabited

/-- A vehicle of the fleet service (R353 to R360, R379, R385). -/
structure Vehicle where
  /-- HELD (R355). -/
  held : Bool := true
  /-- held_since (R385). -/
  since : Nat := 0
  /-- Causes of R355 as evaluated at the last edge, 7 bits. -/
  causes : BitVec 7 := 0
  /-- Progress towards R357: 0 none, 1 a commit took effect, 2 its PATH is acknowledged, 3 a later acknowledgement
  reports state 0 to 2 in a granted cell. -/
  exit : Nat := 0
  /-- path_seq of the PATH that carries that commit (R357). -/
  exitSeq : Option Nat := none
  /-- The last acknowledgement's cell is not granted (R355 cause 2). -/
  misplaced : Bool := false
  /-- FLEET_HOLD (R355 cause 4). -/
  hostHold : Bool := false
  /-- Speculative generation, 16 bits (R348). -/
  specGen : BitVec 16 := 0
  /-- The held set changed at this edge: a PATH is due (R360). -/
  pathDue : Bool := false
  /-- path_seq last sent, 16 bits (R359). -/
  pathSent : BitVec 16 := 0
  /-- Tide in which the newest PATH was first sent (R360). -/
  pathTide : Nat := 0
  /-- PATHs sent whose content may still be acknowledged, newest first (R360). -/
  sent : List SentPath := []
  /-- path_seq last acknowledged, none before the first (R360). -/
  acked : Option Nat := none
  /-- Committed intervals of the newest PATH acknowledged (R360). -/
  ackedSet : List Held := []
  /-- seq of the last datagram sent and of the last accepted, 16 bits (R358). -/
  seqOut : BitVec 16 := 0
  seqIn : Option Nat := none
  /-- ack_state (R385). -/
  ackState : Nat := 0
  /-- answers_missed (R385). -/
  missed : Nat := 0
  /-- A valid acknowledgement arrived in this tide (R379). -/
  answered : Bool := false
  /-- cell, speed, task and task_epoch of the last acknowledgement (R385). -/
  cell : Nat := 0xFFFF
  speed : Nat := 0
  task : Nat := 0xFFFF
  taskEpoch : Nat := 0
  /-- horn_claim of the last acknowledgement (R371, R379). -/
  hornClaim : Nat := 0
  /-- last_ack_tide (R385). -/
  lastAck : Nat := 0
  deriving DecidableEq, Repr, Inhabited

/-- A move of a task that waits for its edge: a host's, or the return of custody with its report (R363, R364). -/
structure TaskMove where
  vehicle : Nat := 0
  tide : Nat := 0
  custody : Option Nat := none
  job : Option Job := none
  deriving DecidableEq, Repr, Inhabited

/-- A task (R361 to R364, R382). -/
structure Task where
  /-- The entry was added (R383). -/
  used : Bool := false
  /-- 0 QUEUED, 1 PLACED, 2 ACTIVE, 3 LOADED, 4 DONE, 5 FAILED, 6 CANCELLED (R362, R382). -/
  st : Nat := 6
  /-- Vehicle, 256 for none, which reads 0xFF (R382). -/
  vehicle : Nat := 256
  /-- Placement epoch, 8 bits (R63, R363). -/
  epoch : BitVec 8 := 0
  kind : Nat := 0
  prio : Nat := 0
  fromCell : Nat := 0
  toCell : Nat := 0
  due : Nat := 0
  ref : Nat := 0
  /-- placed_tide (R382). -/
  placed : Nat := 0
  /-- The waiting move (R363). -/
  move : Option TaskMove := none
  /-- FLEET_TASK_CANCEL that waits for the vehicle (R382). -/
  cancel : Option Job := none
  deriving DecidableEq, Repr, Inhabited

/-- What one checked request does at the edge at which the shadow takes effect (R350, R351). -/
inductive ResOp where
  /-- Committed additions and removals of a vehicle. -/
  | commit (v : Nat) (adds removes : List Interval)
  /-- A new speculative set. -/
  | spec (v : Nat) (set : List Interval)
  /-- The vehicle's speculative set keeps its first n intervals. -/
  | drop (v n : Nat)
  deriving DecidableEq, Repr

/-- The shadow of the batch (R351). -/
structure Shadow where
  ops : List ResOp := []
  /-- Requests committed, and speculative intervals of other vehicles dropped (R381). -/
  committed : Nat := 0
  dropped : Nat := 0
  /-- Vehicles whose request did not pass (R262, R351). -/
  failed : List Nat := []
  deriving DecidableEq, Repr, Inhabited

/-- The content of a horn (R366, R367). -/
structure Horn where
  tide : Nat := 0
  claim : Nat := 0
  flags : BitVec 8 := 0
  live : BitVec 4 := 0
  ootSeq : Nat := 0
  frozenUs : Nat := 0
  halt : BitVec 64 := 0
  deriving DecidableEq, Repr, Inhabited

/-- The halt input (R372, R373). -/
structure HaltIn where
  /-- Channels A and B accepted in halt (R372). -/
  chan : BitVec 2 := 0
  /-- The source is active (R372). -/
  active : Bool := false
  /-- A discrepancy is latched (R373). -/
  disc : Bool := false
  /-- Since that latch both channels were in halt together (1), and then both in run (2) (R373). -/
  discStep : Nat := 0
  /-- Count of tides that ran and µs since which the channels differ (R373). -/
  differ : Option (Nat × Nat) := none
  /-- Count of tides that ran since which both channels run (R372). -/
  runFrom : Nat := 0
  deriving DecidableEq, Repr, Inhabited

/-- The fleet service and the halt path (R346 to R386). -/
structure Fleet where
  /-- The service is enabled (R382). -/
  on : Bool := false
  /-- Vehicles 0 to 255 (R385). -/
  vehicles : Tbl Vehicle := []
  /-- Intervals held, by vehicle: committed ones, then the speculative set (R347, R348). -/
  held : Tbl (List Held) := []
  /-- Intervals that were left at most 1,000 tides before, whose bow waves may trail (R257, R258). -/
  passed : Tbl (List Held) := []
  /-- Latest solution record of each vehicle (R337). -/
  solutions : Tbl (List Byte) := []
  /-- Requests of this tide in arrival order (R349). -/
  batch : List ResRequest := []
  /-- The shadow, once checked (R351). -/
  shadow : Option Shadow := none
  /-- What takes effect at the next edge (R351). -/
  accepted : List ResOp := []
  /-- The batch of this tide was discarded: its released removals wait for the next (R352). -/
  discarded : Bool := false
  /-- Requests returned to the cluster: vehicle and status, and the surviving end tide of a cut speculative set, newest
  first, until the cluster's next work (R351). -/
  returned : List (Nat × Nat) := []
  survive : List (Nat × Nat) := []
  /-- Pairs checked and not yet counted in thousands (R381). -/
  pairs : Nat := 0
  /-- Tasks 0 to 4,095 (R362). -/
  tasks : Tbl Task := []
  /-- The halt input (R372, R373). -/
  input : HaltIn := {}
  /-- Zones latched by host halts, and those latched with the relay flag (R369). -/
  host : BitVec 64 := 0
  hostRelay : BitVec 64 := 0
  /-- Zones RELEASED; every other is HALTED (R369, R370). -/
  released : BitVec 64 := 0
  /-- Release requests accepted in this tide, and those of the tide before (R370). -/
  request : BitVec 64 := 0
  requestNow : BitVec 64 := 0
  /-- Halt relay outputs energised, A and B (R374). -/
  relays : BitVec 2 := 0
  /-- The last in-tide horn (R366, R384). -/
  horn : Horn := { halt := 0xFFFFFFFFFFFFFFFF }
  /-- Bitmap of the last horn of either kind (R375). -/
  lastHalt : BitVec 64 := 0xFFFFFFFFFFFFFFFF
  /-- oot_seq given last in this tide (R367, R375). -/
  ootSeq : Nat := 0
  /-- The out-of-tide horn requested, the HB transceivers that have not sent it, and whether one has (R208). -/
  oot : Horn := {}
  ootWait : BitVec 4 := 0
  ootSent : Bool := false
  /-- In this tide: the times of the requests for an out-of-tide horn in µs, each of which ended what was on air, and the slots that such
  a horn overlapped, by transceiver (R208, R375). -/
  ootAt : List Nat := []
  lost : List (Nat × Nat) := []
  /-- HB transceivers live at the last edge: the answer plan in force (R205). -/
  live : BitVec 4 := 0
  /-- FLEET_VEHICLE_STATE events of this tide, and the changes beyond 16: all, to HELD, to ACTIVE (R386). -/
  events : Nat := 0
  unreported : Nat := 0
  toHeld : Nat := 0
  toActive : Nat := 0
  deriving DecidableEq, Repr, Inhabited

/-! ## Checkpoints (chapter 17) -/

/-- The service state of the application cluster that a checkpoint holds (R548). -/
structure Service where
  nodes : Tbl LNode := []
  links : Tbl Link := []
  generation : BitVec 16 := 0
  steps : List BwStep := []
  raised : List Raised := []
  held : Tbl (List Held) := []
  passed : Tbl (List Held) := []
  vehicles : Tbl Vehicle := []
  tasks : Tbl Task := []
  filters : Tbl PosVehicle := []
  refArp : Option Ecef := none
  monArp : Option Ecef := none
  deriving DecidableEq, Repr, Inhabited

/-- A complete checkpoint (R548 to R550, R583, R616). -/
structure Ckpt where
  seq : Nat := 0
  tide : Nat := 0
  /-- length in bytes (R560). -/
  len : Nat := 0
  /-- Serial and CURRENT image_version of the module that made it, and its format (R548, R583). -/
  serial : Nat := 0
  image : Nat := 0
  format : Nat := 0
  /-- This module's firmware can restore it (R550, R583). -/
  usable : Bool := true
  body : Service := {}
  deriving DecidableEq, Repr, Inhabited

/-- A checkpoint that arrives at the tender (R550). -/
structure CkptRx where
  head : Ckpt := {}
  data : List Byte := []
  bad : Bool := false
  deriving DecidableEq, Repr, Inhabited

end Sys2Proof.Machine

namespace Sys2Proof.Config

/-- The service state that a checkpoint's bytes hold: the firmware's own layout (R548, R583; log entry 37). -/
opaque serviceOf : List Byte → Sys2Proof.Machine.Service

end Sys2Proof.Config

namespace Sys2Proof.Machine

/-! ## Power feeds, pilot and tender (chapter 17) -/

/-- A 48 V feed (R535). -/
structure Feed where
  /-- 0 OK, 1 LOW, 2 HIGH, 3 DISCONNECTED, 4 ABSENT (R535). -/
  st : Nat := 4
  mv : Nat := 0
  ma : Nat := 0
  /-- Samples in a row below 61.0 V (R535). -/
  below : Nat := 0
  deriving DecidableEq, Repr, Inhabited

/-- A handover that waits for its edge (R557). -/
structure Handover where
  tide : Nat := 0
  job : Job := {}
  /-- seq of its checkpoint, once one has started. -/
  seq : Option Nat := none
  /-- It passed the check at edge s - 10. -/
  checked : Bool := false
  deriving DecidableEq, Repr, Inhabited

/-- The redundancy service (R535 to R563). -/
structure Pr where
  /-- FEED1 and FEED2 as 0 and 1 (R535). -/
  feeds : Tbl Feed := []
  /-- The power-fail signal is asserted (R537). -/
  powerFail : Bool := false
  /-- TERM, 14 bits, in the harbourmaster state of MRAM (R542). -/
  term : Nat := 0
  /-- Claims accepted in the last 8 tides with their tides (R546). -/
  heard : List (Nat × Nat) := []
  /-- Highest TERM heard since the last start or term lowering (R555). -/
  topTerm : Nat := 0
  /-- A higher claim was accepted: its TERM, for the next edge (R547). -/
  demote : Option Nat := none
  /-- partner_claim (R562). -/
  partner : Nat := 0
  /-- image_version that the partner's last claim frame names (R544). -/
  partnerImage : Nat := 0
  /-- ckpt_seq of the partner's last claim frame or report (R557). -/
  partnerCkpt : Nat := 0
  /-- Level of TWIN_CLM_OUT (R545). -/
  claimOut : Bool := false
  /-- TWIN_CLM_IN at its last sample, and whether that differed from the one before (R545). -/
  line : Bool := false
  alive : Bool := false
  /-- Tides in a row in which the line was not alive (R551). -/
  deadRun : Nat := 0
  /-- In this tide arrived: a twin claim frame with role 1, one of any role, a pilot claim frame on a quay channel set
  for claims (R554). -/
  pilotNow : Bool := false
  anyNow : Bool := false
  quayNow : Bool := false
  /-- Consecutive silent tides (R554). -/
  silent : Nat := 0
  /-- Tides in a row without a valid pilot claim frame on the twin link (R551). -/
  claimRun : Nat := 0
  /-- The count of issued tides at the last pilot claim frame, plus one, by quay channel (R551). -/
  quayClaim : Tbl Nat := []
  /-- Pilot in-tide horns accepted: HB transceiver and count of issued tides, newest first, of the last 100 tides (R551). -/
  horns : List (Nat × Nat) := []
  /-- The count of issued tides at the last pilot EB, plus one, by sub-GHz transceiver (R551). -/
  ebs : Tbl Nat := []
  /-- The twin link is up (R563). -/
  up : Bool := false
  /-- The count of issued tides at the last partner frame whose tag passed (R563). -/
  lastTwin : Nat := 0
  /-- The takeover-in-progress source is set (R555, R558). -/
  takeover : Bool := false
  /-- The count of issued tides at which it clears after a term change (R558). -/
  termHalt : Option Nat := none
  /-- A lowered term that waits for its edge (R558). -/
  termSet : Option (Nat × Nat) := none
  /-- A waiting switchover (R557). -/
  handover : Option Handover := none
  /-- role_tide (R562). -/
  roleTide : Nat := 0
  /-- The count of issued tides at that edge (R553). -/
  roleRan : Nat := 0
  /-- takeovers, 32 bits (R562). -/
  takeovers : BitVec 32 := 0
  /-- TWIN_REJECTED, 32 bits (R562). -/
  rejected : BitVec 32 := 0
  /-- seq of checkpoints, 32 bits. -/
  ckptSeq : Nat := 0
  /-- The checkpoint being sent: its seq, start tide and content (R549). -/
  sending : Option Ckpt := none
  /-- The last checkpoint sent complete (R544, R549), kept in LPDDR5. -/
  last : Option Ckpt := none
  /-- The pilot's own two newest in the checkpoints partition, newest first (R616). -/
  own : List Ckpt := []
  /-- The two newest stored from the pilot, newest first (R550), and the count of issued tides at the last usable one
  stored (R551). -/
  stored : List Ckpt := []
  storedRan : Option Nat := none
  /-- The checkpoint that arrives (R550). -/
  rx : Option CkptRx := none
  /-- Tests of the tender's last report (R551, R553). -/
  tests : BitVec 16 := 0
  /-- Bytes 0 to 27 of the last report, sent or received (R553, R560), and the count of issued tides at its
  arrival. -/
  report : List Byte := []
  reportRan : Nat := 0
  /-- The tests from which changes are raised; none before the first report (R553). -/
  baseline : Option (BitVec 16) := none
  /-- PR_PARTNER kind 4 was raised and no report came since (R553). -/
  overdue : Bool := false
  /-- A restore rehearsal runs: its tide and command (R552). -/
  rehearsal : Option (Nat × Option Job) := none
  /-- A PR_REHEARSE that waits for its start (R552). -/
  rehearseAsk : Option Job := none
  /-- Result, duration in ms and tide of the last rehearsal; none if none (R552, R553). -/
  rehearsed : Option (Bool × Nat × Nat) := none
  /-- Thermal derating level, last 100-tide mean and peak in 0.1 °C (R645, R646). -/
  level : Nat := 0
  mean : Int := 0
  peak : Int := 0
  deriving DecidableEq, Repr, Inhabited

end Sys2Proof.Machine
end

