-- ==== Sys2Proof/Machine/StateLamp.lean ====
section
/-! DEFINITION. Sys2Proof/Machine/StateLamp.lean: the state of the sign and lamp engine (chapter 16). -/

namespace Sys2Proof.Machine

/-- A level that a lamp moves to (R240, R519): from a level, to a level, from a tide of those that ran, over so many tides. -/
structure LampRun where
  from_ : Nat := 0
  goal : Nat := 0
  start : Nat := 0
  dur : Nat := 0
  deriving DecidableEq, Repr, Inhabited

/-- One lamp of a string (R519 to R522). -/
structure Lamp where
  /-- The level that LAMP_LEVEL gave (R520). -/
  cmd : Option LampRun := none
  /-- The level that the lantern service's rules gave (R520). -/
  rule : Option LampRun := none
  /-- 0 normal, 1 OPEN, 2 SHORT, 3 HIGH (R532). -/
  st : Nat := 0
  /-- The tide, of those that ran, in which the lamp became OPEN (R522). -/
  openRan : Nat := 0
  /-- Consecutive tides with the SHORT and with the HIGH condition (R521). -/
  shortRun : Nat := 0
  highRun : Nat := 0
  deriving DecidableEq, Repr, Inhabited

/-- A lamp-string port (R515 to R522, R530). -/
structure LampPort where
  /-- Disabled by command (R530). -/
  off : Bool := false
  /-- Slot number of the next slot frame in this tide (R516). -/
  slot : Nat := 0
  /-- The mask of the last frame sent (R516). -/
  mask : BitVec 32 := 0
  /-- Lamps 0 to 31. -/
  lamps : Tbl Lamp := []
  /-- Status frames with a correct CRC of this tide: slot, and bytes 3 to 10 (R518). -/
  seen : Tbl (List Byte) := []
  /-- Consecutive link misses (R521). -/
  missed : Nat := 0
  /-- The link is LOST (R521). -/
  lost : Bool := false
  /-- STRING_LOW, and consecutive tides with its condition (R521). -/
  stringLow : Bool := false
  lowRun : Nat := 0
  /-- Current in mA and temperature as last reported (R518, R532). -/
  current : Nat := 0
  temp : Int := 0
  deriving DecidableEq, Repr, Inhabited

/-- A swap that waits (R528). -/
structure SignSwap where
  tide : Nat := 0
  copy : Bool := false
  /-- The edge has passed and the swap waits for the next frame (R528). -/
  armed : Bool := false
  /-- The request came after its deadline (R49, R531): it takes effect at the edge after the next one, whatever their
  numbers, so not before the count of issued tides reaches notBefore. -/
  late : Bool := false
  notBefore : Nat := 0
  job : Option Job := none
  deriving DecidableEq, Repr, Inhabited

/-- A sign port (R523 to R530). -/
structure SignPort where
  /-- Disabled by command (R530). -/
  off : Bool := false
  /-- The front buffer (R524). -/
  front : Nat := 0
  /-- The next frame is the first one after a swap (R525). -/
  first : Bool := false
  /-- Sync-locked output fell back to tide-locked (R526). -/
  fellBack : Bool := false
  /-- A frame starts 20 µs after a sync edge: its instant in µs since the first tide that ran (R526). -/
  due : Option Nat := none
  /-- Instant at which the frame on the line ends, in the same µs (R526). -/
  busy : Nat := 0
  /-- Brightness set by command, over configuration (R532). -/
  brightness : Option Nat := none
  /-- The waiting swap (R528). -/
  swap : Option SignSwap := none
  /-- The copy of the new front region runs (R528). -/
  copying : Bool := false
  /-- Bytes moved of the write at the head of the port's queue (R527). -/
  moved : Nat := 0
  deriving DecidableEq, Repr, Inhabited

/-- The sign and lamp engine (R515 to R534). -/
structure LampSign where
  /-- Lamp-string ports 0 to 7. -/
  ports : Tbl LampPort := []
  /-- Sign ports 0 and 1. -/
  signs : Tbl SignPort := []
  /-- Sign frame memory, 8 MB, as listed bytes; an unlisted byte reads as 0 (R24, R524; log entry 41). -/
  mem : Tbl Byte := []
  /-- Lamp levels accepted with the result of function 0x01 for the next edge: port, lamp, level (R520). -/
  ruleNext : List (Nat × Nat × Nat) := []
  /-- Host queue windows attached for sign writes (R527). -/
  streams : List Nat := []
  deriving DecidableEq, Repr, Inhabited

end Sys2Proof.Machine
end

