-- ==== Sys2Proof/Machine/StateMeter.lean ====
section
/-! DEFINITION. Sys2Proof/Machine/StateMeter.lean: the state of feeder metering and of the battery log (chapter 15). Times
are sample periods of 31.25 µs on the sample clock. -/

namespace Sys2Proof.Machine

/-- The filtered and scaled samples of a frame (R484). -/
structure MRow where
  /-- Values by MF9 channel: filtered code times the scale that held, a reversed point's currents negated (R481, R482). -/
  vals : List Int := []
  /-- Phase correction that held by current channel, units of 2^-10 sample period (R482). -/
  corr : List Int := []
  deriving DecidableEq, Repr, Inhabited

/-- A voltage channel (R486, R487, R513). -/
structure VChan where
  /-- A crossing or a fixed window has begun the running cycle (R486, R487). -/
  begun : Bool := false
  /-- The signal fell below -10 % of the nominal peak since the last crossing (R486). -/
  armed : Bool := false
  /-- Crossing instants in 2^-8 sample periods, newest first, at most 11 (R486). -/
  crosses : List Nat := []
  /-- Sample of the last crossing, or the start of metering (R487). -/
  last : Nat := 0
  /-- NO_CROSSING, and the start of its window (R487). -/
  dead : Bool := false
  winStart : Nat := 0
  /-- Sum of squares and samples of the running cycle. -/
  sq : Nat := 0
  n : Nat := 0
  /-- RMS of the last completed cycle in mV (R513). -/
  rms : Nat := 0
  deriving DecidableEq, Repr, Inhabited

/-- A current channel: 4 p + x of point p and conductor x (R488, R489, R513). -/
structure IChan where
  /-- Gain code (R488). -/
  gain : Nat := 0
  /-- A commanded gain and the frames until it is in effect (R488). -/
  next : Option (Nat × Nat) := none
  /-- Peak of the running and of the last complete cycle, and whether a switch happened in them (R488). -/
  peak : Nat := 0
  peakLast : Nat := 0
  switched : Bool := false
  switchedLast : Bool := true
  /-- Sum of squares, sum of power and samples of the running cycle. -/
  sq : Nat := 0
  pow : Int := 0
  n : Nat := 0
  /-- RMS in mA and power in W of the last completed cycle (R513). -/
  rms : Nat := 0
  watts : Int := 0
  /-- The phase is gated on (R489). -/
  on : Bool := false
  deriving DecidableEq, Repr, Inhabited

/-- A metering point (R490, R493, R507). -/
structure MPoint where
  /-- Import and export accumulators, 96 bits, units of 2^-32 grain (R490). -/
  imp : Nat := 0
  exp : Nat := 0
  /-- Their values at the last latch (R498). -/
  impAt : Nat := 0
  expAt : Nat := 0
  /-- Enabled or disabled by command, over configuration (R507). -/
  set : Option Bool := none
  deriving DecidableEq, Repr, Inhabited

/-- A pulse output (R495 to R497). -/
structure POut where
  /-- Parameters set by command, over configuration (R510). -/
  set : Option PulsePar := none
  /-- Residue in units of 2^-32 grain divided by C (R496). -/
  residue : Nat := 0
  /-- Pulses due whose edge has not been placed, and pulses waiting as backlog (R497). -/
  due : Nat := 0
  backlog : Nat := 0
  /-- Sample of the last leading edge (R497). -/
  edge : Option Nat := none
  deriving DecidableEq, Repr, Inhabited

/-- The metering state that a save holds (R498). -/
structure MeterData where
  points : Tbl MPoint := []
  /-- Residue and backlog by output. -/
  outs : Tbl (Nat × Nat) := []
  gapSamples : Nat := 0
  elapsed : Nat := 0
  /-- Battery-domain copy of the incomer scales (R498, R504). -/
  scales : List Nat := []
  deriving DecidableEq, Repr, Inhabited

/-- A save copy in MRAM (R498). -/
structure MeterSave where
  seq : Nat := 0
  kind : Nat := 0
  snapTide : Nat := 0
  /-- snap_time in ns of module time. -/
  snapTime : Nat := 0
  data : MeterData := {}
  deriving DecidableEq, Repr, Inhabited

/-- A running entry of the battery log (R505). -/
structure BatRun where
  start : Nat := 0
  seconds : Nat := 0
  flags : BitVec 8 := 0
  max_ : List Nat := []
  sum : Nat := 0
  deriving DecidableEq, Repr, Inhabited

/-- Feeder metering (R480 to R514). -/
structure Meter where
  /-- Metering accumulates: the MF9 is loaded (R503, R614). -/
  on : Bool := false
  /-- Expected frame count, none before the first frame (R29, R485). -/
  expected : Option Nat := none
  /-- Samples of the previous frame (R29). -/
  prev : List Int := []
  /-- Consecutive bad and good frames (R485). -/
  badRun : Nat := 0
  goodRun : Nat := 0
  /-- A link gap runs (R485). -/
  gap : Bool := false
  /-- Gap time since the running link gap started, in samples (R514). -/
  gapNow : Nat := 0
  /-- Frames out of sequence that run in sequence with one another, and the last such count (R485). -/
  seqRun : Nat := 0
  lastCount : Nat := 0
  /-- Sample periods since the start of metering. -/
  n : Nat := 0
  /-- High-pass filter memory by channel (R484). -/
  hpf : List Int := []
  /-- Filtered and scaled samples of the last five frames, newest first, for the phase correction (R484). -/
  hist : List MRow := []
  /-- The tide of the latest frame, as tides run, and the sample period it began at (R483). -/
  tideRan : Nat := 0
  tideN : Nat := 0
  /-- Module time in ns of the last sample included (R498). -/
  lastAt : Nat := 0
  /-- Voltage channels 0 to 5, current channels 0 to 47, points 0 to 11, pulse outputs 0 to 3. -/
  volts : Tbl VChan := []
  amps : Tbl IChan := []
  points : Tbl MPoint := []
  outs : Tbl POut := []
  /-- mflags of the running interval (R493, R494). -/
  flags : BitVec 32 := 0
  /-- Gap time of the interval in samples (R493). -/
  gapSamples : Nat := 0
  /-- First and last sample accumulated in the interval, and samples taken over from a save (R493, R503). -/
  first : Option Nat := none
  last : Nat := 0
  carried : Nat := 0
  /-- The latest interval record, 896 bytes (R493, R510). -/
  record : List Byte := []
  /-- Free-running counters of R512. -/
  badFrames : BitVec 32 := 0
  linkGaps : BitVec 32 := 0
  gainSwitches : BitVec 32 := 0
  clipped : BitVec 32 := 0
  delayed : BitVec 32 := 0
  saves : BitVec 32 := 0
  /-- MRAM save copies A and B (R31, R498). -/
  copyA : Option MeterSave := none
  copyB : Option MeterSave := none
  /-- The copy being written, its content and the command it ends (R499). -/
  writing : Option (Nat × MeterSave × Option Job) := none
  /-- An MTR_SAVE that waits for its edge, and the tides run when it came (R499). -/
  ask : Option (Job × Nat) := none
  /-- Tide of the last snapshot taken at an edge, plus one (R499). -/
  snapped : Nat := 0
  /-- Findings of the last start: STATE_LOST, ENERGY_GAP, upper bound, duration in µs (R502, R512). -/
  lost : Bool := false
  energyGap : Bool := false
  bound : Bool := false
  unaccounted : Nat := 0
  /-- The interval taken from a save latches at the first edge (R503). -/
  latchDue : Bool := false
  /-- Battery domain: the latched loss instant in ns of RTC time (R502). -/
  loss : Option Nat := none
  /-- Battery domain: the incomer scales, in mA at full scale (R504). -/
  batScales : List Nat := []
  /-- Battery domain: the main domain is absent (R504). -/
  mainOff : Bool := false
  /-- Battery domain: the running entry, the log's entries, oldest first, overwritten and new ones (R505, R506). -/
  run : Option BatRun := none
  log : List (List Byte) := []
  overwritten : Nat := 0
  fresh : Nat := 0
  deriving DecidableEq, Repr, Inhabited

end Sys2Proof.Machine
end

