-- ==== Sys2Proof/Machine/StatePool.lean ====
section
/-! DEFINITION. Sys2Proof/Machine/StatePool.lean: the state of the berth pool, its queues, the host queue windows, the
lighter channels and the frame ports (chapters 12 and 13). -/

namespace Sys2Proof.Machine

/-- What the berths of one frame or record hold, once for all queues (R419, R427). -/
structure Stored where
  /-- Ingress attachment point in the order of R32 (R424). -/
  att : Nat := 0
  /-- Berths held, and those of them that come from the shared part (R419, R424, R427). -/
  n : Nat := 0
  shared : Nat := 0
  /-- Queues that hold it (R427). -/
  refs : Nat := 0
  /-- A word of it has an uncorrected error (R431). -/
  bad : Bool := false
  /-- The frame header's ingress timestamp, VID and class (R145, R419). -/
  stamp : Option Stamp := none
  vid : Nat := 0
  cls : Nat := 0
  deriving DecidableEq, Repr, Inhabited

/-- An entry of a queue (R420, R421). -/
structure Entry where
  /-- Number of the stored frame or record. -/
  id : Nat := 0
  /-- Berths drawn from the queue's minimum and from the shared part (R424). -/
  fromMin : Nat := 0
  fromShared : Nat := 0
  /-- Priority in a control queue (R421). -/
  prio : Nat := 0
  /-- Kind of a record (R433); 0 for a frame to send. -/
  kind : Nat := 0
  /-- Bytes: of a frame, from the destination address without the FCS. -/
  bytes : List Byte := []
  /-- Egress timestamp requested: owning queue window, none for the module's own, and identifier (R148, R438). -/
  ts : Option (Option Nat × Nat) := none
  /-- Metadata of a received radio frame (R214). -/
  rx : Option RxMeta := none
  /-- A frame of the module's own: what it carries, and its bytes with the FCS (R389, R402). -/
  own : Option Output := none
  size : Nat := 0
  deriving DecidableEq, Repr, Inhabited

/-- A queue of the pool (R420, R451). -/
structure PoolQueue where
  /-- Entries in arrival order (R421). -/
  entries : List Entry := []
  /-- Highest number of berths held since reset (R451). -/
  high : Nat := 0
  /-- Refused entries, 32 bits, free-running (R451). -/
  refused : BitVec 32 := 0
  deriving DecidableEq, Repr, Inhabited

/-- A host queue window (R432 to R438). -/
structure QWin where
  /-- The session that owns it: window and serial number (R432). -/
  owner : Option (Nat × Nat) := none
  /-- QW_RX_LIMIT, 17 bits (R434). -/
  rxLimit : Nat := 2048
  /-- tx_ports, 16 bits (R451). -/
  txPorts : BitVec 16 := 0
  /-- QW_STATUS.UNDERRUN (R435). -/
  underrun : Bool := false
  /-- QW_STATUS.LOST (R435). -/
  lost : Bool := false
  /-- Bytes of the head record popped or moved (R434). -/
  pos : Nat := 0
  /-- QW_LAST (R434). -/
  last : BitVec 32 := 0
  /-- QW_UNDERRUN, RC (R434). -/
  underruns : BitVec 32 := 0
  /-- QW_RX_DROPPED, RC (R434). -/
  rxDropped : BitVec 32 := 0
  /-- QW_STATUS.TX_OPEN (R435). -/
  txOpen : Bool := false
  /-- Bytes of the open transmit record (R438). -/
  txBuf : List Byte := []
  /-- The open record exceeded QW_TX_ROOM (R438, reason 5). -/
  txOver : Bool := false
  /-- QW_TX_RESULT[7:0] (R434). -/
  result : Nat := 0
  /-- QW_TX_RESULT[31:16] (R434). -/
  accepted : BitVec 16 := 0
  /-- QW_TX_REFUSED, RC (R434). -/
  refused : BitVec 32 := 0
  /-- Losses of this tide for QW_LOSS: records dropped, underruns, records truncated (R454). -/
  drops : Nat := 0
  unders : Nat := 0
  truncs : Nat := 0
  deriving DecidableEq, Repr, Inhabited

/-- A descriptor in progress (R440). -/
structure Desc where
  /-- Its index in the ring. -/
  idx : Nat := 0
  addr : Nat := 0
  len : Nat := 0
  control : BitVec 16 := 0
  cookie : Nat := 0
  /-- Bytes moved. -/
  moved : Nat := 0
  /-- The buffer starts a record (R444). -/
  sor : Bool := false
  deriving DecidableEq, Repr, Inhabited

/-- A lighter channel: 0 to 7 of hosts, 8 to 31 internal (R440, R446, R447). -/
structure Lighter where
  /-- The session that owns a host channel: window and serial number (R451). -/
  owner : Option (Nat × Nat) := none
  /-- LT_CTRL.ENABLE (R447). -/
  enable : Bool := false
  /-- The enabled channel runs once so many tides have run: from the first edge after the enable (R62). -/
  runFrom : Nat := 0
  /-- LT_CTRL.IRQ_EN (R447). -/
  irqEn : Bool := false
  /-- LT_CTRL.PACE, 2 bits (R447). -/
  pace : Nat := 0
  /-- LT_STATUS.DONE (R447). -/
  done : Bool := false
  /-- LT_STATUS.ERROR (R447). -/
  error : Bool := false
  /-- LT_STATUS.CODE, 4 bits (R447). -/
  code : Nat := 0
  /-- LT_STATUS.TRUNC (R447). -/
  trunc : Bool := false
  /-- LT_BASE, 64 bits (R446). -/
  base : Nat := 0
  /-- LT_COUNT (R446). -/
  count : Nat := 2
  /-- LT_TAIL (R446). -/
  tail : Nat := 0
  /-- LT_HEAD (R446). -/
  head : Nat := 0
  /-- LT_CFG: queue window, vector offset, ring wait in µs (R446). -/
  cfgWin : Nat := 0
  cfgVec : Nat := 0
  cfgWait : Nat := 0
  /-- LT_BYTES, 64 bits, free-running (R446). -/
  bytes : Nat := 0
  /-- LT_DESC_DONE, 32 bits, free-running (R446). -/
  descDone : BitVec 32 := 0
  /-- LT_TRUNCATED, RC (R446). -/
  truncated : BitVec 32 := 0
  /-- The last address that the channel wrote (R442). -/
  lastAddr : Option Nat := none
  /-- The descriptor at HEAD receives, and no record was there when the channel had its last grant (R443). -/
  waitRx : Bool := false
  /-- The status of a descriptor that host memory could not take yet: address and bytes (R440). -/
  owed : Option (Nat × List Byte) := none
  /-- LT_ERR_INDEX (R446). -/
  errIndex : Nat := 0
  /-- The descriptor in progress (R440). -/
  desc : Option Desc := none
  /-- A receive record is in progress: its berths wait for further descriptors (R444). -/
  rxOpen : Bool := false
  /-- The channel stopped by an error (R451). -/
  stopped : Bool := false
  /-- Bursts, 32 bits, free-running (R451). -/
  bursts : BitVec 32 := 0
  deriving DecidableEq, Repr, Inhabited

/-- The berth pool (R418 to R454). -/
structure Pool where
  /-- Stored frames and records by number (R427). -/
  store : Tbl Stored := []
  /-- Numbers given so far (the model's own). -/
  ids : Nat := 0
  /-- The link table: the berths of each stored frame or record, first berth first (R418). -/
  links : Tbl (List Nat) := []
  /-- Queues 0 to 255 (R420). -/
  queues : Tbl PoolQueue := []
  /-- Host queue windows 0 to 15 (R432). -/
  qwins : Tbl QWin := []
  /-- Lighter channels 0 to 31 (R440). -/
  lighters : Tbl Lighter := []
  /-- POOL_PRESSURE is raised (R428). -/
  pressure : Bool := false
  /-- Retired berths (R431). -/
  retired : List Nat := []
  /-- Berths that showed an uncorrected error once (R431). -/
  suspect : List Nat := []
  /-- Corrected errors of the last two scrubs: berth and bit, and how many scrubs in a row (R431). -/
  corrected : List ((Nat × Nat) × Nat) := []
  /-- ECC counts, 32 bits, free-running (R453). -/
  eccCorrected : BitVec 32 := 0
  eccUncorrected : BitVec 32 := 0
  /-- The ECC event of this tide: an uncorrected error or a retirement, a corrected error (R454). -/
  eccNow : Bool := false
  eccSoft : Bool := false
  /-- The count of issued tides at the last POOL_ECC for corrected errors alone (R454). -/
  eccTold : Option Nat := none
  /-- The lighter channels, the one whose last grant is longest ago first, and that the last grant was a host's (R443). -/
  order : List Nat := List.range 32
  rrHost : Bool := false
  deriving DecidableEq, Repr, Inhabited

/-- A gate list that waits for its cycle start edge (R408). -/
structure GateWait where
  list : GateList := {}
  apply : Nat := 0
  job : Job := {}
  deriving DecidableEq, Repr, Inhabited

/-- One frame port (R387 to R417). -/
structure Port where
  /-- PORT_CTRL.ENABLED (R414). -/
  enabled : Bool := false
  /-- PORT_CTRL.GATES_ON (R414). -/
  gatesOn : Bool := false
  /-- LINK_STATUS.UP (R414). -/
  up : Bool := false
  /-- LINK_STATUS.SPEED (R414). -/
  speed : Nat := 0
  /-- LINK_STATUS.FULL (R414). -/
  full : Bool := false
  /-- LINK_STATUS.HDX_REFUSED (R414). -/
  hdx : Bool := false
  /-- LINK_STATUS.SIGNAL_FAIL (R414). -/
  sigFail : Bool := false
  /-- Tide edges in a row at which the link was down (R399). -/
  downEdges : Nat := 0
  /-- The link was lost when so many tides had run, and its drop edge is to come (R393). -/
  dropDue : Option Nat := none
  /-- PORT_CTRL.RING_BLOCKED (R414). -/
  blocked : Bool := false
  /-- LINK_TIDE (R413). -/
  linkTide : Nat := 0
  /-- PLCA parameters set by command, over configuration (R415). -/
  plca : Option PlcaPar := none
  /-- PLCA_STATUS[0]: the clause 148 status is OK (R413). -/
  plcaOk : Bool := false
  /-- PLCA_STATUS[2]: CSMA/CD in use after a fallback (R413). -/
  fellBack : Bool := false
  /-- PLCA_STATUS[3]: foreign BEACON heard; the own BEACONs stay off (R396). -/
  foreign : Bool := false
  /-- The port sends BEACONs (R396, R397). -/
  beacon : Bool := false
  /-- Collisions of the frame being sent (R395). -/
  attempts : Nat := 0
  /-- The port waits for its back-off: slot times drawn (R395). -/
  backoff : Option Nat := none
  /-- The gate control list in force (R405). -/
  gates : GateList := {}
  /-- The waiting list (R408). -/
  gateWait : Option GateWait := none
  /-- Entry in force and the gate states, as the last GATE_CHANGE left them (R413). -/
  gateNow : BitVec 8 := 0xFF
  gateEntry : Nat := 0
  /-- The frame sent last: its class, and the ns from this tide's edge at which it ends or ended (R407). -/
  line : Option (Nat × Int) := none
  /-- Frames sent in this transmit opportunity of PLCA after its first one (R394). -/
  burst : Nat := 0
  /-- Counters whose most significant bit changed in this tide, bit i for counter i + 1 (R412). -/
  crossed : BitVec 64 := 0
  deriving DecidableEq, Repr, Inhabited

/-- An entry of the filtering database (R398). -/
structure FdbEntry where
  vid : Nat := 0
  mac : Nat := 0
  port : Nat := 0
  /-- The count of issued tides when it was last learned (R398). -/
  ran : Nat := 0
  deriving DecidableEq, Repr, Inhabited

/-- The ring node of ports 0 and 1 (R399, R417). -/
structure RingNode where
  /-- 0 IDLE, 1 PROTECTION, 2 MANUAL_SWITCH, 3 FORCED_SWITCH, 4 PENDING (R417). -/
  st : Nat := 4
  /-- The guard timer runs (R399). -/
  guard : Bool := false
  /-- The count of issued tides at which the wait-to-restore timer ends (R399). -/
  wtr : Option Nat := none
  deriving DecidableEq, Repr, Inhabited

/-- The frame ports (R387 to R417). -/
structure Ports where
  /-- Ports 0 to 13 (R387). -/
  port : Tbl Port := []
  /-- Filtering database, at most 16,384 entries (R398). -/
  fdb : List FdbEntry := []
  /-- The ring node (R399). -/
  ring : RingNode := {}
  /-- Sessions that set a rule's copy: rule index to window and serial number (R401). -/
  ruleOwner : Tbl (Option (Nat × Nat)) := []
  deriving DecidableEq, Repr, Inhabited

end Sys2Proof.Machine
end

