-- ==== Sys2Proof/Machine/StateQuay.lean ====
section
/-! DEFINITION. Sys2Proof/Machine/StateQuay.lean: the state of the quay bus (chapter 14). -/

namespace Sys2Proof.Machine

/-- A transmit entry of a channel (R463, R464, R477). -/
structure QbEntry where
  /-- Format code and flags of R472. -/
  format : Nat := 0
  flags : BitVec 16 := 0
  id : Nat := 0
  sdt : Nat := 0
  vcid : Nat := 0
  af : Nat := 0
  data : List Byte := []
  /-- notify and ref (R477). -/
  notify : Bool := false
  ref : Nat := 0
  /-- The session that sent it: window and serial number (R477). -/
  owner : Nat × Nat := (0, 0)
  /-- A claim frame (R464). -/
  claim : Bool := false
  /-- Retry count (R465). -/
  retries : Nat := 0
  deriving DecidableEq, Repr, Inhabited

/-- A received frame in the receive buffer: its record and the queue window it goes to, none for the cluster (R471). -/
structure QbRx where
  record : List Byte := []
  window : Option Nat := none
  /-- Bytes moved by the lighter (R471). -/
  moved : Nat := 0
  deriving DecidableEq, Repr, Inhabited

/-- A quay bus channel (R455 to R477). -/
structure QuayCh where
  /-- State of R460: 0 OFF, 1 ERROR_ACTIVE, 2 ERROR_PASSIVE, 3 BUS_OFF, 4 INTEGRATING. -/
  st : Nat := 0
  /-- TEC and REC (R460). -/
  tec : Nat := 0
  rxc : Nat := 0
  /-- SOLITUDE, and the run of ACK errors (R466). -/
  solitude : Bool := false
  ackRun : Nat := 0
  /-- The loop delay measured last and its secondary sample point, in clocks (R458). -/
  delay : Nat := 0
  ssp : Nat := 0
  /-- Transmit queue, oldest first, 64 entries (R463). -/
  queue : List QbEntry := []
  /-- Express slot (R464). -/
  express : Option QbEntry := none
  /-- Receive buffer, oldest first, 24 kB (R471). -/
  rx : List QbRx := []
  /-- Filters set by command, over configuration (R470). -/
  filters : Tbl (Option Filter) := []
  /-- Queue sequence of the next entry, 16 bits (R477). -/
  seq : Nat := 0
  deriving DecidableEq, Repr, Inhabited

/-- The quay bus (R455 to R479). -/
structure Quay where
  /-- Channels 0 to 3. -/
  ch : Tbl QuayCh := []
  /-- Results of this tide not yet in a QBUS_TX_DONE: ref, channel, result (R479). -/
  results : List (Nat × Nat × Nat) := []
  /-- RX_ERRORS of the claim logic, 32 bits (R469). -/
  claimErrors : BitVec 32 := 0
  deriving DecidableEq, Repr, Inhabited

end Sys2Proof.Machine
end

