-- ==== Sys2Proof/Machine/StateTime.lean ====
section
/-! DEFINITION. Sys2Proof/Machine/StateTime.lean: the state of the time unit and of the real-time clock (chapters 05
and 06). -/

namespace Sys2Proof.Machine

/-- A time source (R153 to R160). -/
structure Source where
  /-- VALID of SRC_STATUS (R169). -/
  valid : Bool := false
  /-- CONFIRMED of SRC_STATUS (R169). -/
  confirmed : Bool := false
  /-- Rejected by a host (R160). -/
  rejected : Bool := false
  /-- UNLABELLED of SRC_STATUS, for EXT (R154). -/
  unlabelled : Bool := false
  /-- The last measurements, newest first, at most 8, each referred to module time as it stands, in ns (R156). -/
  meas : List Int := []
  /-- The latest confirmed offset in ns, referred (R159). -/
  latest : Option Int := none
  /-- Largest minus smallest of the measurements that confirmed it, in ns (R163). -/
  spread : Nat := 0
  /-- Tide since which it is valid and confirmed without interruption (R157). -/
  since : Nat := 0
  deriving DecidableEq, Repr, Inhabited

/-- A flagged jump (R160). -/
structure Jump where
  /-- jump_id, 32 bits (R160). -/
  id : Nat := 0
  /-- Flagged offset in ns (R167). -/
  d : Int := 0
  /-- Source code (R173). -/
  src : Nat := 0
  /-- The acceptance that waits for its edge (R172). -/
  accepted : Option Job := none
  deriving DecidableEq, Repr, Inhabited

/-- A foreign master that a ring port hears (R139): its latest Announce, how many of its Announces have come, and the count of
issued tides at the latest. -/
structure ForeignMaster where
  announce : Announce
  heard : Nat := 0
  ran : Nat := 0
  deriving DecidableEq, Repr

/-- An entry of a transmit timestamp queue (R148). -/
structure TxEntry where
  id : Nat := 0
  owner : Option Nat := none
  stamp : Stamp := { sec := 0, ns := 0 }
  /-- Type of the module's own message, in the encoding of IEEE 1588-2019: 0 Sync, 1 Delay_Req, 2 Pdelay_Req, 3
  Pdelay_Resp. -/
  kind : Nat := 0
  /-- What the follow-up of a Pdelay_Resp carries of the request: its port identity and its correction (R139, R140). -/
  req : List Nat := []
  deriving DecidableEq, Repr, Inhabited

/-- PTP state of one frame port (R139 to R152, R170). -/
structure PtpPort where
  /-- Instance: 0 none, 1 IEEE 1588-2019, 2 IEEE 802.1AS-2020 (R170). -/
  mode : Nat := 0
  /-- portState in the encoding of IEEE 1588-2019 (R170). -/
  st : Nat := 0
  /-- The foreign masters heard, one record each (R139). -/
  foreign : List ForeignMaster := []
  /-- MEAN_DELAY in ns (R170). -/
  meanDelay : Nat := 0
  /-- Transmit timestamp queue, oldest first, 32 entries (R148). -/
  txq : List TxEntry := []
  /-- High-water mark since reset (R170). -/
  high : Nat := 0
  /-- TXQ_DROPPED, 32 bits (R170). -/
  dropped : BitVec 32 := 0
  /-- Host drops of this tide: count, first and last identifier (R152). -/
  drops : Nat := 0
  firstId : Nat := 0
  lastId : Nat := 0
  /-- Sync sequence number of the port (R139). -/
  syncSeq : Nat := 0
  /-- Announce sequence number of the port (R139). -/
  announceSeq : Nat := 0
  /-- Frames sent with a timestamp request whose egress timestamp has not come yet, oldest first (R145, R148). -/
  asked : List TxEntry := []
  /-- The latest Sync in SLAVE state: origin timestamp with its corrections, and corrected ingress timestamp, in units of 2^-16
  ns (R139, R147). -/
  lastSync : Option (Int × Int) := none
  /-- Sequence number and tide of the port's last Delay_Req or Pdelay_Req, and its egress timestamp (R139, R140). -/
  reqSeq : Nat := 0
  reqTide : Option Nat := none
  reqStamp : Option Stamp := none
  /-- A two-step Pdelay_Resp that waits for its follow-up: its receipt timestamp and correction, and its ingress timestamp, in
  units of 2^-16 ns (R140). -/
  pdResp : Option (Int × Int) := none
  deriving DecidableEq, Repr, Inhabited

/-- A frozen register group of one origin: the words shown, absent while not frozen (R168, R185). -/
structure Freeze where
  words : Option (List Word) := none
  deriving DecidableEq, Repr, Inhabited

/-- The time unit (R136 to R173). -/
structure TimeUnit where
  /-- SNAP_STATE.STATE (R158). -/
  st : Nat := 0
  /-- SNAP_STATE.PROVISIONAL: tides are provisional (R169). -/
  prov : Bool := true
  /-- SNAP_STATE.SOURCE (R169). -/
  src : Nat := 0
  /-- TIME_Q pin (R166). -/
  timeQ : Bool := false
  /-- External 10 MHz accepted (R155). -/
  ext10m : Bool := false
  /-- State and source that take effect at the next edge (R158). -/
  next : Option (Nat × Nat) := none
  /-- Sources 1 to 3 (R153). -/
  sources : Tbl Source := []
  /-- The source selected last (R163, R173). -/
  lastSrc : Nat := 0
  /-- Remainder of a slew in ns (R159). -/
  slew : Int := 0
  /-- The flagged jump (R160). -/
  jump : Option Jump := none
  /-- jump_ids given so far, 32 bits (R160). -/
  jumpIds : Nat := 0
  /-- The ring's grandmaster changed since the time unit was last LOCKED to RING (R173). -/
  newGm : Bool := false
  /-- OFFSET in ns (R167). -/
  offset : Int := 0
  /-- EST_ERROR in ns, saturating at 0xFFFF_FFFF (R163). -/
  est : Nat := 0xFFFFFFFF
  /-- EST_ERROR at entry to HOLDOVER or JUMP_REFUSED (R163). -/
  est0 : Nat := 0
  /-- The time unit was LOCKED for at least 60 min before entry (R163). -/
  longLock : Bool := false
  /-- Tides spent LOCKED without interruption (R163). -/
  lockTides : Nat := 0
  /-- HOLD_TIDES (R167). -/
  holdTides : Nat := 0
  /-- FREQ_ADJ in 10^-12, signed (R167). -/
  freq : Int := 0
  /-- Ring grandmasterIdentity (R167). -/
  gm : Nat := 0
  /-- STEP_COUNT, 32 bits (R167). -/
  steps : BitVec 32 := 0
  /-- REFUSE_COUNT, 32 bits (R167). -/
  refuses : BitVec 32 := 0
  /-- PTP state of frame ports 0 to 13 (R170). -/
  ports : Tbl PtpPort := []
  /-- The parent's Announce data while a ring port is SLAVE (R143, R144). -/
  parent : Option Announce := none
  /-- The parent's UTC offset or leap flags changed and wait for the next edge (R181). -/
  utcNew : Bool := false
  /-- Module time in ns of the last PPS_OUT edge (R164). -/
  lastPps : Option Int := none
  /-- Corrections since the last PPS_OUT edge, in ns: physical time since it is module time less this (R164). -/
  ppsCorr : Int := 0
  /-- Frozen snapshot group of origins 1 to 3 (R168). -/
  freeze : Tbl Freeze := []
  deriving DecidableEq, Repr, Inhabited

/-- Staging registers and RTC_CTRL of one register origin (R182, R186). -/
structure RtcStage where
  /-- SET_SEC_HI (R182). -/
  secHi : BitVec 32 := 0
  /-- SET_SEC_LO (R182). -/
  secLo : BitVec 32 := 0
  /-- SET_DATE (R183). -/
  date : BitVec 32 := 0
  /-- SET_TIME (R183). -/
  time : BitVec 32 := 0
  /-- RTC_CTRL.COMMIT_SEC (R184). -/
  commitSec : Bool := false
  /-- RTC_CTRL.COMMIT_CAL (R184). -/
  commitCal : Bool := false
  deriving DecidableEq, Repr, Inhabited

/-- A commit that waits for a second rollover: the captured values (R187). -/
structure Commit where
  /-- Register origin, or 0 for RTC_SET (R187, R191). -/
  origin : Nat := 0
  /-- The captured value is a UTC count, to which UTC_OFS is added at the load (R187). -/
  cal : Bool := false
  /-- Captured seconds (R187). -/
  value : Int := 0
  /-- The RTC_SET command that waits (R191). -/
  job : Option Job := none
  /-- DISCIPLINED became 1 while it waited: it clears at the next rollover without effect (R188). -/
  void_ : Bool := false
  deriving DecidableEq, Repr, Inhabited

/-- The real-time clock (R174 to R191). -/
structure Rtc where
  /-- Seconds, 48 bits (R174). -/
  sec : Nat := 0
  /-- Fraction in units of 2^-32 s, 32 bits (R174), as the latest read or rollover left it. -/
  frac : BitVec 32 := 0
  /-- UTC_OFS[15:0], signed (R182). -/
  ofs : BitVec 16 := 0
  /-- UTC_OFS_NEXT[15:0], signed (R182). -/
  next : BitVec 16 := 0
  /-- UTC_OFS_AT, 48 bits (R182). -/
  at_ : Nat := 0
  /-- UTC_OFS_AT_HI.ARMED (R182). -/
  armed : Bool := false
  /-- Staging registers of origins 1 to 3 (R186). -/
  stage : Tbl RtcStage := []
  /-- The commits that wait, in the order in which they were written: one of each origin (R187). -/
  commits : List Commit := []
  /-- Frozen group of origins 1 to 3 (R185). -/
  freeze : Tbl Freeze := []
  deriving DecidableEq, Repr, Inhabited

end Sys2Proof.Machine
end

