-- ==== Sys2Proof/Machine/StateUpd.lean ====
section
/-! DEFINITION. Sys2Proof/Machine/StateUpd.lean: the state of the update service, the firmware slots, the OTP key slots and
node campaigns (chapter 18). -/

namespace Sys2Proof.Machine

/-- A verification key slot of the OTP key store (R569): configuration slots 0 to 3 by those numbers, package slots from
4. -/
structure KeySlot where
  programmed : Bool := false
  revoked : Bool := false
  /-- The programmed key; empty for the one that Deraro programs at manufacture. -/
  key : List Byte := []
  deriving DecidableEq, Repr, Inhabited

/-- What a firmware slot and its boot area hold (R575). -/
inductive FwSlot where
  /-- Nothing: EMPTY. -/
  | empty
  /-- The set the module is made with. -/
  | factory
  /-- An installed set: header bytes 0 to 47, and the manifest entries of R566. -/
  | set (header : List Byte) (manifest : List (List Byte)) (keyRecord : List Byte)
  deriving DecidableEq, Repr, Inhabited

/-- A scheduled activation (R576, R582). -/
structure Activation where
  tide : Nat := 0
  /-- Confirm mode: 0 AUTO, 1 HOST. -/
  mode : Nat := 0
  /-- UPD_ROLLBACK asked for it. -/
  rollback : Bool := false
  job : Job := {}
  deriving DecidableEq, Repr, Inhabited

/-- What a trial keeps in the harbourmaster state (R577, R579). -/
structure Trial where
  mode : Nat := 0
  /-- Copy of the control record and of CONFIG_DEFAULTED at the activation edge (R577). -/
  record : CtrlRec := {}
  defaulted : Bool := false
  /-- Tide of the activation reset, from which the window runs (R579). -/
  start : Nat := 0
  /-- Tides of the window that the start took, by the RTC, and the tides run when it was known (R579). -/
  gone : Nat := 0
  since : Nat := 0
  /-- UPD_CONFIRM arrived while confirmation was ready (R579). -/
  asked : Bool := false
  /-- Confirmation is ready (R579). -/
  ready : Bool := false
  job : Job := {}
  deriving DecidableEq, Repr, Inhabited

/-- An image of the node image store (R584). -/
structure NodeImage where
  id : Nat := 0
  cls : Nat := 0
  nnp : Nat := 0
  hw : Nat := 0
  version : Nat := 0
  /-- SHA-384 digest of the package and SHA-256 digest computed at import (R584). -/
  digest384 : List Byte := []
  digest256 : List Byte := []
  data : List Byte := []
  deriving DecidableEq, Repr, Inhabited

/-- A campaign (R585 to R590). -/
structure Campaign where
  /-- 0 none, 1 RUNNING, 2 HALTED, 3 PAUSED, 4 DONE, 5 STOPPED (R590). -/
  st : Nat := 0
  image : Nat := 0
  /-- tag of its image transfers (R587). -/
  tag : Nat := 0
  mode : Nat := 0
  wave : Nat := 1
  abortPct : Nat := 100
  /-- The named activation tide (R588). -/
  tide : Nat := 0
  startTide : Nat := 0
  /-- Nodes that have reached ACTIVATING, and those that failed or reverted from there (R589). -/
  activated : Nat := 0
  broken : Nat := 0
  /-- The state that a pause interrupted (R589). -/
  was : Nat := 1
  /-- Next block of the broadcast pass, by transceiver (R265). -/
  pass : Tbl Nat := []
  deriving DecidableEq, Repr, Inhabited

/-- A target node of a campaign (R586 to R588). -/
structure CampNode where
  /-- Campaign, 0xFF none (R590). -/
  campaign : Nat := 0xFF
  /-- State of R586. -/
  st : Nat := 0
  /-- activation_tide (R590). -/
  at_ : Nat := 0
  /-- blocks_held (R590), by the last FW_STATUS. -/
  blocks : Nat := 0
  /-- FW_BEGIN halves acknowledged (R586). -/
  begun : Nat := 0
  /-- Failed digests (R586). -/
  fails : Nat := 0
  /-- FW_ACTIVATE sent so many times (R586). -/
  sends : Nat := 0
  /-- FW_BEGIN or FW_COMMIT frames are queued (R586). -/
  asked : Bool := false
  /-- fw_slot before the activation (R267). -/
  slot0 : Nat := 0
  /-- Next block of the unicast pass of a version-1 node (R265). -/
  pos : Nat := 0
  /-- Blocks missing by the last FW_STATUS and not resent since (R265, R587). -/
  todo : List Nat := []
  deriving DecidableEq, Repr, Inhabited

/-- The update service (R564 to R593). -/
structure Upd where
  /-- 0 IDLE, 1 LOADING, 2 VERIFYING, 3 INSTALLING, 4 INSTALLED, 5 SCHEDULED, 6 TRIAL (R592). -/
  st : Nat := 0
  /-- Session that owns the load: window and serial number (R572). -/
  owner : Option (Nat × Nat) := none
  /-- total_length of the load (R592). -/
  total : Nat := 0
  /-- Bytes held in the staging partition (R573). -/
  held : List Byte := []
  /-- The staged package passed verification (R572). -/
  verified : Bool := false
  /-- The inactive slot holds an installed set that waits for its activation (R575, R581). -/
  ready : Bool := false
  /-- The command that ends with the verification or the install (R574, R575). -/
  job : Option Job := none
  /-- Firmware slots A and B (R575): A holds the factory set at manufacture. -/
  slots : Tbl FwSlot := []
  /-- The scheduled activation (R576). -/
  sched : Option Activation := none
  /-- The trial's record in the harbourmaster state (R577). -/
  trial : Option Trial := none
  /-- kind and cause of the last UPD_RESULT (R592). -/
  lastKind : Nat := 0
  lastCause : Nat := 0
  /-- A revert whose UPD_RESULT is due at the next start: its cause and the version left (R581). -/
  reverted : Option (Nat × Nat) := none
  /-- OTP verification key slots (R569). -/
  keys : Tbl KeySlot := []
  /-- Node image store (R584). -/
  images : List NodeImage := []
  /-- Campaigns 0 to 3 (R585). -/
  camps : Tbl Campaign := []
  /-- Campaign records of nodes (R586). -/
  nodes : Tbl CampNode := []
  /-- tag given last to a transfer (R587). -/
  tag : Nat := 0
  /-- Rule-5 cells, and those used for firmware blocks, by transceiver (R268). -/
  cells : Tbl Nat := []
  fwCells : Tbl Nat := []
  /-- UPD_NODE events of this tide, and the changes beyond 16: all, to HELD, to COMMITTED, to FAILED (R593). -/
  events : Nat := 0
  unreported : Nat := 0
  toHeld : Nat := 0
  toCommitted : Nat := 0
  toFailed : Nat := 0
  deriving DecidableEq, Repr, Inhabited

/-- Keys as made: package slot 0 is programmed (R569). -/
def keyDefault (i : Nat) : KeySlot := { programmed := i == 4 }

/-- Firmware slots as made: A holds the factory set. -/
def fwDefault (k : Nat) : FwSlot := if k = 0 then .factory else .empty

end Sys2Proof.Machine
end

