-- ==== Sys2Proof/Machine/State.lean ====
section
/-! DEFINITION. Sys2Proof/Machine/State.lean: the state of the block, the reasons a step can stop, and the state after
reset. -/

namespace Sys2Proof.Machine

/-- The whole block. -/
structure State where
  /-- The tide (R44 to R72). -/
  clk : Clk := {}
  /-- Start-up and reset (R608 to R622). -/
  sys : Sys := {}
  /-- Boot counters and trial state in MRAM (R31, R612). -/
  boot : Boot := {}
  /-- The application cluster (R37, R38, R650). -/
  cluster : Cluster := {}
  /-- Session windows and the event router (R79 to R116). -/
  host : Hosts := {}
  /-- The configuration store (R117 to R135). -/
  cfg : Cfg := {}
  /-- The parameters in force (R118, R129). -/
  par : SiteConfig := {}
  /-- Statistic groups by number (R55 to R58). -/
  stats : Tbl StatGroup := []
  /-- The time unit (R136 to R173). -/
  time : TimeUnit := {}
  /-- The real-time clock (R174 to R191). -/
  rtc : Rtc := {}
  /-- The radio dies (R192 to R232). -/
  radio : Radio := {}
  /-- The lantern service (R233 to R276). -/
  lantern : Lantern := {}
  /-- The berth pool, host queue windows and lighter channels (R418 to R454). -/
  pool : Pool := {}
  /-- The frame ports (R387 to R417). -/
  ports : Ports := {}
  /-- The GNSS baseband (R277 to R315). -/
  gnss : Gnss := {}
  /-- The reference station and central positioning (R316 to R345). -/
  ref : Ref := {}
  /-- The fleet service and the halt path (R346 to R386). -/
  fleet : Fleet := {}
  /-- Power feeds, pilot and tender (R535 to R563). -/
  pr : Pr := {}
  /-- The update service (R564 to R593). -/
  upd : Upd := {}
  /-- The quay bus (R455 to R479). -/
  quay : Quay := {}
  /-- Feeder metering (R480 to R514). -/
  meter : Meter := {}
  /-- The sign and lamp engine (R515 to R534). -/
  lampSign : LampSign := {}
  /-- The GPIO pins (R637 to R639). -/
  gpio : Gpio := {}
  /-- Changes accepted that wait for the next edge, oldest first (R102). -/
  changes : List Change := []
  /-- Functions accepted for a stop or a start at the next edge: the function, its accepted tide, and enable (R60, R62). -/
  switches : List Switch := []
  /-- The logbook (R594 to R607). -/
  log : Logb := {}
  /-- What left the module, newest first (the model's own, log entry 14). -/
  out : List Output := []
  /-- Free values drawn so far (the model's own, log entry 1). -/
  free : Nat := 0
  /-- Commands that wait, first in first out (the row's own). -/
  pending : List Instr := []
  deriving DecidableEq, Repr, Inhabited

/-- Reasons the machine stops with a fault. The spec gives every command of this block an effect, so no meaning raises
one. -/
inductive Fault where
  /-- Raised by no meaning: it stands for a stop the spec would name. Safe: a stop allows no behaviour. -/
  | specStop
  deriving DecidableEq, Repr, Inhabited

/-- Reasons the model refuses a command. -/
inductive Refusal where
  /-- Raised by `exec` for a command whose meaning is not written; it names the table's mnemonic. Safe: a refusal allows
  no behaviour. -/
  | notModelled (mnemonic : String)
  deriving DecidableEq, Repr, Inhabited

/-- The state after reset: the module in the boot ROM at T0 of a cold start, with empty stores and no command waiting
(R614, log entry 16). -/
def State.reset : State := {}

end Sys2Proof.Machine
end

