-- ==== Sys2Proof/Machine/Ops.lean ====
section
/-! DEFINITION. Sys2Proof/Machine/Ops.lean: the operations that all meanings share: how a command ends, windows and
interrupts, responses, events, logbook records, statistics and free values. -/

namespace Sys2Proof.Machine

/-- What a command's meaning answers. -/
abbrev Res := Host.Outcome State Fault Refusal

/-! ## How a command ends -/

/-- A command's effect: the state t reached from s. No command touches the queue, and only the edges of the time unit
move the tide number (R45). -/
def done (s t : State) : Res := .next { t with pending := s.pending, clk := { t.clk with tide := s.clk.tide } }

/-- The effect of a command at whose end the tide number is k: an edge, a correction, a start (R44, R66, R614). -/
def doneAt (k : Nat) (s t : State) : Res := .next { t with pending := s.pending, clk := { t.clk with tide := k } }

/-- The parts of the State; a command's meaning names those that its rules let it write. -/
inductive Part where
  | clk | sys | boot | cluster | host | cfg | par | stats | time | rtc | radio | lantern | pool | ports
  | gnss | ref | fleet | pr | upd | quay | meter | lampSign | gpio | changes | switches | log | out | free
  deriving DecidableEq, Repr

/-- The state s with the parts of a list taken from t; the tide number and the queue stay (R45). -/
def State.merge (ws : List Part) (s t : State) : State :=
  { s with
    clk := if ws.contains .clk then { t.clk with tide := s.clk.tide } else s.clk
    sys := if ws.contains .sys then t.sys else s.sys
    boot := if ws.contains .boot then t.boot else s.boot
    cluster := if ws.contains .cluster then t.cluster else s.cluster
    host := if ws.contains .host then t.host else s.host
    cfg := if ws.contains .cfg then t.cfg else s.cfg
    par := if ws.contains .par then t.par else s.par
    stats := if ws.contains .stats then t.stats else s.stats
    time := if ws.contains .time then t.time else s.time
    rtc := if ws.contains .rtc then t.rtc else s.rtc
    radio := if ws.contains .radio then t.radio else s.radio
    lantern := if ws.contains .lantern then t.lantern else s.lantern
    pool := if ws.contains .pool then t.pool else s.pool
    ports := if ws.contains .ports then t.ports else s.ports
    gnss := if ws.contains .gnss then t.gnss else s.gnss
    ref := if ws.contains .ref then t.ref else s.ref
    fleet := if ws.contains .fleet then t.fleet else s.fleet
    pr := if ws.contains .pr then t.pr else s.pr
    upd := if ws.contains .upd then t.upd else s.upd
    quay := if ws.contains .quay then t.quay else s.quay
    meter := if ws.contains .meter then t.meter else s.meter
    lampSign := if ws.contains .lampSign then t.lampSign else s.lampSign
    gpio := if ws.contains .gpio then t.gpio else s.gpio
    changes := if ws.contains .changes then t.changes else s.changes
    switches := if ws.contains .switches then t.switches else s.switches
    log := if ws.contains .log then t.log else s.log
    out := if ws.contains .out then t.out else s.out
    free := if ws.contains .free then t.free else s.free }

/-- The effect of a command that writes the named parts alone: every other part of the State stays as it is. -/
def doneIn (ws : List Part) (s t : State) : Res := .next (State.merge ws s t)

/-- The effect of a query: it changes nothing but the session windows and the outputs (R97). -/
def answered (s t : State) : Res := .next { s with host := t.host, out := t.out }

/-- The tide number of the next edge that is raised (R45, R66). A response that names a stopping edge carries this number
(R60), also where a correction of 10 ms or more at that edge then gives it another, which a response written before the edge
cannot carry (DESIGN CHOICE, log entry 113). -/
def nextTide (s : State) : Nat := s.clk.tide + (if s.clk.skipNext then 2 else 1)

/-! ## Windows and interrupts -/

/-- Appends an output. -/
def emit (o : Output) (s : State) : State := { s with out := o :: s.out }

def emitAll (os : List Output) (s : State) : State := { s with out := os.reverse ++ s.out }

/-- What a TLS session sends waits for its frame port, in class 4 (R111, R402). -/
def toStream (port : Nat) (o : Output) (s : State) : State :=
  { s with host := { s.host with outbox := s.host.outbox ++ [{ port, cls := 4, out := o }] } }

def originCode : Origin → Nat
  | .pcie => 1 | .spi => 2 | .usb => 3 | .tls => 4

def windows : List Nat := [0, 1, 2, 3, 4, 5, 6, 7]

/-- A session window. -/
def win (s : State) (w : Nat) : Window := tget {} s.host.win w

/-- The SESS_SUMMARY bits of one window (R89). -/
def summaryBits (v : Window) : Nat := bit (v.st != 1) + 2 * bit v.rspReady + 4 * bit v.evtReady

/-- SESS_SUMMARY (R89). -/
def summary (h : Hosts) : Nat :=
  windows.foldl (fun a w => let v := tget {} h.win w
    a + bit (v.st != 1) * 2 ^ w + bit v.rspReady * 2 ^ (8 + w) + bit v.evtReady * 2 ^ (16 + w)) 0

/-- HOST_IRQ_N is low: a window of the SPI origin has an enabled status bit (R109). -/
def spiLow (h : Hosts) : Bool :=
  windows.any fun w => let v := tget {} h.win w
    v.origin == 2 && ((v.rspReady && v.rspIe) || (v.evtReady && v.evtIe))

/-- Writes a window: a changed summary bit of a USB window sends SESS_SUMMARY, and HOST_IRQ_N follows (R76, R109). -/
def setWin (w : Nat) (v : Window) (s : State) : State :=
  let old := win s w
  let h := { s.host with win := tput {} s.host.win w v }
  let low := spiLow h
  let usb := if (v.origin == 3 || old.origin == 3) && summaryBits v != summaryBits old
    then [Output.usbSummary (BitVec.ofNat 32 (summary h))] else []
  let irq := if low != h.irqLow then [Output.irqN (!low)] else []
  { s with host := { h with irqLow := low }, out := irq ++ usb ++ s.out }

def updWin (w : Nat) (f : Window → Window) (s : State) : State := setWin w (f (win s w)) s

/-- Default of an MSI-X table word: vector control resets to masked (log entry 17). -/
def msixDefault (i : Nat) : BitVec 32 := if i % 4 = 3 then 1 else 0

def msixWord (h : Hosts) (i : Nat) : BitVec 32 := tget (msixDefault i) h.msixTable i

/-- Signals an MSI-X vector: a message, or a pending bit while the vector is masked (R74, R90). -/
def msix (v : Nat) (s : State) : State :=
  if (msixWord s.host (4 * v + 3)).getLsbD 0 then
    { s with host := { s.host with msixPba := s.host.msixPba ||| (1 <<< v) } }
  else emit (.msix v) s

/-- A window whose session is open: OPEN or NEGOTIATED. -/
def live (v : Window) : Bool := v.st == 2 || v.st == 3

/-! ## Responses -/

/-- Answers the command in flight in a window (R86, R93, R96, R99, R109, R111): the response of a command whose session has
closed goes nowhere. -/
def respond (w status : Nat) (payload : List Byte) (s : State) : State :=
  let v := win s w
  match v.inflight with
  | none => s
  | some c =>
    let bytes := le 2 c.code ++ le 2 c.seq ++ le 2 status ++ le 2 payload.length ++ payload
    if v.st == 4 || v.caller.isSome then setWin w { v with inflight := none } s
    else if v.origin == 4 then
      toStream v.port (.tls w (le 1 2 ++ le 1 0 ++ le 2 bytes.length ++ bytes))
        (setWin w { v with inflight := none, busy := false } s)
    else
      let s := setWin w { v with inflight := none, rspReady := true, rspSeq := c.seq, rspLen := bytes.length,
                                 rspBuf := bytes ++ v.rspBuf.drop bytes.length } s
      if v.rspIe && v.origin == 1 then msix (8 * w) s else s

/-- A response without payload (R96). -/
def refuse (w status : Nat) (s : State) : State := respond w status [] s

def ok (w : Nat) (payload : List Byte) (s : State) : State := respond w stOK payload s

/-! ## Events -/

/-- The bytes of an event record in the layout of the session's version (R105, R107). -/
def evtBytes (v : Window) (e : EvtRec) : List Byte :=
  le 2 e.code ++ le 2 v.evtSeq ++ le 2 e.payload.length ++ le 1 (bit v.lostNext) ++ le 1 0
    ++ le (if v.major = 1 then 4 else 8) e.tide ++ e.payload

/-- Delivers waiting records: the next one into EVT_RECORD while EVT_READY is 0, or on TLS as a record while the connection
can send (R88, R108, R109; log entry 96). -/
def loadEvt (w : Nat) (s : State) : State :=
  let v := win s w
  match v.queue with
  | [] => s
  | e :: q =>
    let b := evtBytes v e
    if v.origin == 4 then
      if !Config.tlsSends v.sid s.clk.ran then s
      else toStream v.port (.tls w (le 1 3 ++ le 1 0 ++ le 2 b.length ++ b))
        (setWin w { v with queue := q, evtSeq := (v.evtSeq + 1) % 65536, lostNext := false } s)
    else if v.evtReady then s
    else
      let s := setWin w { v with queue := q, evtReady := true, lost := v.lostNext, lostNext := false,
                                 evtSeq := (v.evtSeq + 1) % 65536, evtRecord := (b ++ zeros 128).take 128 } s
      if v.evtIe && v.origin == 1 then msix (8 * w + e.vector) s else s

/-- Puts a record into a session's queue of 256, or drops it (R108). -/
def enqueue (w : Nat) (e : EvtRec) (s : State) : State :=
  let v := win s w
  if v.queue.length + bit (v.evtReady && v.origin != 4) ≥ 256 then
    setWin w { v with evtDropped := v.evtDropped + 1, lostNext := true } s
  else loadEvt w (setWin w { v with queue := v.queue ++ [e] } s)

/-- The vector of a record: the exact subscription's, else the service-wide one's; none where the session does not
subscribe (R108, R109). -/
def vectorOf (v : Window) (code : Nat) : Option Nat :=
  match v.subs.find? (fun x => !x.wide && x.code == code) with
  | some x => some x.vector
  | none => (v.subs.find? (fun x => x.wide && x.code / 256 == code / 256)).map (·.vector)

/-- The session in a window takes an event it subscribes to. -/
def deliverTo (e : EvtRec) (w : Nat) (s : State) : State :=
  let v := win s w
  if live v then
    match vectorOf v e.code with
    | some x => enqueue w { e with vector := x } s
    | none => s
  else s

def delivers (e : EvtRec) (w : Nat) (s : State) : Bool :=
  live (win s w) && (vectorOf (win s w) e.code).isSome

/-- Events held from start-up until a session subscribes (R649): for UPD_RESULT, kinds 4 and 6. -/
def heldKind (e : EvtRec) : Bool :=
  e.code == 0x0281 || e.code == 0x0C82 || e.code == 0x0C83 || (e.code == 0x0F80 && (u8 e.payload 0 == 4 || u8 e.payload 0 == 6))

/-- A session's queue has room for a record (R108). -/
def hasRoom (v : Window) : Bool := v.queue.length + bit (v.evtReady && v.origin != 4) < 256

/-- An event enters the queue of every session that subscribes to it, but the window left out; a start-up event that entered
none is held (R108, R649). -/
def enterAll (left : Option Nat) (e : EvtRec) (s : State) : State :=
  let ws := windows.filter (fun w => some w != left)
  let t := each ws (deliverTo e) s
  if heldKind e && s.sys.modState < 4 && !(ws.any fun w => delivers e w s && hasRoom (win s w)) then
    { t with host := { t.host with held := t.host.held ++ [e] } }
  else t

/-- A COMMAND_DONE enters the queue of its window, any other event every subscriber's but the window named. -/
def enter (e : EvtRec) (x : Option Nat) (s : State) : State :=
  if e.code == 0x0180 then (match x with | some w => if live (win s w) then enqueue w e s else s | none => s)
  else enterAll x e s

/-- An event is raised: in the clock cycle of a tide edge it waits until the cycle's events are put in order (R108). -/
def post (e : EvtRec) (x : Option Nat) (s : State) : State :=
  match s.host.burst with
  | some l => { s with host := { s.host with burst := some (l ++ [(e, x)]) } }
  | none => enter e x s

/-- Inserts an event behind those of its own and of lower codes. -/
def insertEvt (x : EvtRec × Option Nat) : List (EvtRec × Option Nat) → List (EvtRec × Option Nat)
  | [] => [x]
  | y :: r => if x.1.code < y.1.code then x :: y :: r else y :: insertEvt x r

/-- The events that f raises are raised in one clock cycle: they enter the queues in ascending code order (R108). -/
def inOneCycle (f : State → State) (s : State) : State :=
  let t := f { s with host := { s.host with burst := some [] } }
  let l := (t.host.burst.getD []).foldl (fun l x => insertEvt x l) []
  l.foldl (fun t x => post x.1 x.2 t) { t with host := { t.host with burst := s.host.burst } }

/-- Raises an event in every session that subscribes to it, but the window left out (R108, R114, R649). -/
def raiseBut (left : Option Nat) (code : Nat) (payload : List Byte) (s : State) : State :=
  post { code, tide := s.clk.tide, payload } left s

def raise (code : Nat) (payload : List Byte) (s : State) : State := raiseBut none code payload s

/-! ## Logbook records -/

/-- Rate and burst of a code at a severity (R601, R605, R606): a NOTE takes the values of severity 4. -/
def rateOf (s : State) (code sev : Nat) : RatePar :=
  let sev := if code = 0x10E0 then 4 else sev
  if s.log.limitCodes.contains code then tget {} s.log.limits code
  else if s.par.log.coded.contains code then tget {} s.par.log.codes code
  else tget {} s.par.log.sev sev

def recLen (r : LogRec) : Nat := 28 + r.payload.length

/-- The newest buffered record of the lowest severity below the named one, by its place from the newest. -/
def displaceable (sev : Nat) (l : List LogRec) : Option Nat :=
  let cand := l.filter (fun r => r.sev < sev && r.code % 256 < 0xF0)
  match cand.map (·.sev) with
  | [] => none
  | x :: xs => some (xs.foldl min x)

/-- A list without its last element that meets a test. -/
def dropLastSuch {α : Type} (f : α → Bool) (l : List α) : List α :=
  (l.reverse.eraseP f).reverse

/-- Counts a drop or a displacement in the flood (R597, R605). -/
def floodCount (dropped displaced : Nat) (s : State) : State :=
  let t := s.clk.tide
  let f := match s.log.flood with
    | none => (dropped, displaced, t, t)
    | some (a, b, x, _) => (a + dropped, b + displaced, x, t)
  { s with log := { s.log with flood := some f, floodNow := true,
                               dropTotal := s.log.dropTotal + BitVec.ofNat 32 (dropped + displaced) } }

/-- Stages one ordinary record in the 28 kB of its tide (R597). -/
def stage (r : LogRec) (s : State) : State :=
  let l := s.log
  let full := l.taken + recLen r > 28672 || l.closed.length ≥ 2
  if !full then { s with log := { l with staging := l.staging ++ [r], taken := l.taken + recLen r } }
  else if r.sev < 6 then floodCount 1 0 s
  else match displaceable r.sev l.staging with
    | none => floodCount 1 0 s
    | some x => floodCount 0 1 { s with log := { l with
        staging := dropLastSuch (fun q => q.sev == x && q.code % 256 < 0xF0) l.staging ++ [r] } }

/-- Takes a token of a code's bucket, or counts the record as suppressed (R601). -/
def limited (r : LogRec) (s : State) : Bool × State :=
  let p := rateOf s r.code r.sev
  if r.sev = 7 ∨ p.rate = 0 then (false, s)
  else
    let used := (tget (0, 0) s.log.spent r.code).1
    if used + 100 ≤ p.burst * 100 then
      (false, { s with log := { s.log with spent := tput (0, 0) s.log.spent r.code (used + 100, r.sev) } })
    else
      let c := tget ({} : Suppressed) s.log.supp r.code
      let c' : Suppressed := { count := c.count + 1, sev := max c.sev r.sev,
                               first := if c.count = 0 then s.clk.tide else c.first, last := s.clk.tide }
      (true, { s with log := { s.log with supp := tput {} s.log.supp r.code c',
                                          suppTotal := s.log.suppTotal + 1 } })

/-- The application cluster counts as down until its first heartbeat (R650). -/
def clusterDown (s : State) : Bool := s.cluster.st == 1

/-- The application cluster runs no service: it is cold, or it starts and has sent no heartbeat (R38, R542, R650). -/
def clusterOff (s : State) : Bool := s.cluster.st != 2

/-- A record raised now, with the flags of R594. -/
def recOf (code sev source : Nat) (payload : List Byte) (s : State) : LogRec :=
  { code, sev, source, tide := s.clk.tide, payload := payload.take 228,
    flags := BitVec.ofNat 8 (bit s.time.prov + 2 * bit (clusterDown s)) }

/-- Raises a record of a code: limited by its bucket, then staged (R597, R601). -/
def logCodeRec (code sev source : Nat) (payload : List Byte) (s : State) : State :=
  let r := recOf code sev source payload s
  let x := limited r s
  if x.1 then x.2 else stage r x.2

/-- Raises the record of an occurrence of a service; its code within the service and its payload are the firmware's
code list (R595, log entry 5). -/
def logIt (svc occ sev source : Nat) (data : List Nat) (s : State) : State :=
  logCodeRec (svc * 256 + Config.logCode occ % 0xF0) sev source (Config.logPayload occ data) s

/-- Bytes of the logbook's own records in the staging buffer (R597). -/
def ownBytes (l : List LogRec) : Nat :=
  (l.filter (fun r => r.code / 256 == 0x10 && r.code % 256 ≥ 0xF0)).foldl (fun a r => a + recLen r) 0

/-- Raises one of the logbook's own records: into the reserve of 4 kB, else it waits (R597, R605). -/
def logOwn (code sev : Nat) (payload : List Byte) (s : State) : State :=
  let r := recOf code sev 0 payload s
  if s.log.ownWait.isEmpty && ownBytes s.log.staging + recLen r ≤ 4096 then
    { s with log := { s.log with staging := s.log.staging ++ [r] } }
  else { s with log := { s.log with ownWait := s.log.ownWait ++ [r] } }

/-! ## Work that ends with COMMAND_DONE -/

/-- The session and the origin of the command in flight in a window: the window's own, unless its session has closed
(R93). -/
def callerSid (s : State) (w : Nat) : Nat := match (win s w).caller with | some x => x.1 | none => (win s w).sid

def callerOrigin (s : State) (w : Nat) : Nat := match (win s w).caller with | some x => x.2 | none => (win s w).origin

/-- The job of the command in flight in a window. -/
def jobOf (w : Nat) (s : State) : Job :=
  let v := win s w
  let c := v.inflight.getD {}
  { win := w, sid := callerSid s w, code := c.code, seq := c.seq }

/-- Ends a job: COMMAND_DONE in its session while that session lives, else a logbook record (R93, R101, R114). Its vector is
8n (R90), also where the session subscribes to it: log entry 97. -/
def finish (j : Job) (status : Nat) (s : State) : State :=
  let v := win s j.win
  if v.sid == j.sid && live v then
    post { code := 0x0180, tide := s.clk.tide, vector := 0, payload := le 2 j.code ++ le 2 j.seq ++ le 2 status ++ le 2 0 }
      (some j.win) s
  else logIt 0x01 1 2 0 [j.code, j.seq, status] s

def finishOpt (j : Option Job) (status : Nat) (s : State) : State :=
  match j with | some j => finish j status s | none => s

/-! ## Commands in flight -/

/-- The service of a code serves commands in the start-up state (R618): session, system, time, configuration, update and
logbook from 1 CONFIG, metering from 2 DIES, every service from 3 SERVICES. -/
def served (svc : Nat) (s : State) : Bool :=
  let m := s.sys.modState
  if m == 0 || m == 6 then false
  else if m ≥ 3 then true
  else [0x01, 0x02, 0x03, 0x0F, 0x10, 0x11].contains svc || (m == 2 && svc == 0x0C)

/-- Performs the command in flight in a window (R100, R618): BAD_FIELD where a value is out of range, STATE where its service
has not started. -/
def perform (w code : Nat) (bad : List Byte → Bool) (f : List Byte → State → State) (c : Cmd) (s : State) : State :=
  if bad c.payload then refuse w stFIELD s
  else if !served (code / 256) s then refuse w stSTATE s
  else f c.payload s

/-- The command's turn has come: it no longer waits. -/
def takeTurn (s : State) : State := { s with host := { s.host with turns := s.host.turns.tail } }

/-- Writes a window without what follows from its status bits. -/
def putWin (w : Nat) (v : Window) (s : State) : State := { s with host := { s.host with win := tput {} s.host.win w v } }

/-- A command runs on after its session's window was released (R93): what it binds is released at the next release edge of
the window; a session command has nothing left to act on. -/
def performLeft (w code : Nat) (bad : List Byte → Bool) (f : List Byte → State → State) (sid : Nat) (c : Cmd) (o : Nat)
    (s : State) : State :=
  if code / 256 = 1 then s
  else
    let v := win s w
    let t := perform w code bad f c (putWin w { v with inflight := some c, caller := some (sid, o) } s)
    let t := putWin w { win t w with inflight := v.inflight, caller := none } t
    { t with host := { t.host with sweep := t.host.sweep ++ [(w, sid)] } }

/-- Runs a Tamwyn command where it is the next to be taken (R102) and stands in the window; else nothing happens (log entry
13). -/
def onCmd (w code : Nat) (bad : List Byte → Bool) (f : List Byte → State → State) (s : State) : State :=
  match s.host.turns with
  | [] => s
  | x :: _ =>
    if x.w != w then s
    else match x.left with
      | some (c, o) => if c.code != code then s else performLeft w code bad f x.sid c o (takeTurn s)
      | none => match (win s w).inflight with
        | none => s
        | some c => if c.code != code then s else perform w code bad f c (takeTurn s)

/-- No value of the payload is out of range. -/
def anyPayload (_ : List Byte) : Bool := false

/-- The commands of services that run on the application cluster are refused while it is down (R103, R650). -/
def needCluster (w : Nat) (f : State → State) (s : State) : State :=
  if s.cluster.st == 1 then refuse w stDOWN s else f s

/-- Accepts a change that takes effect at the first edge after the check, and answers its apply tide (R102). -/
def change (w : Nat) (x : Setting) (s : State) : State :=
  ok w (le 8 (nextTide s)) { s with changes := s.changes ++ [{ tide := nextTide s, setting := x }] }

/-- Accepts a stop or a start for the next edge (R60, R62). -/
def switch (f : Fn) (start : Bool) (s : State) : State :=
  { s with switches := s.switches.filter (fun x => x.fn != f) ++ [{ fn := f, start, tide := nextTide s }] }

/-- A free value of a number of bits: the next draw of an unstated value (log entry 1). -/
def drawn (s : State) : Nat := (Config.freeValue s.free).toNat

def draw (s : State) : State := { s with free := s.free + 1 }

/-! ## Deadlines (R50, R53) -/

def missOf (s : State) (fn : Nat) : Miss := tget {} s.clk.misses fn

def updMiss (fn : Nat) (f : Miss → Miss) (s : State) : State :=
  { s with clk := { s.clk with misses := tput {} s.clk.misses fn (f (missOf s fn)) } }

/-- A result of the function is due in this tide (R53). -/
def dueNow (fn : Nat) (s : State) : State := updMiss fn (fun x => { x with due := true }) s

/-! ## Pins -/

/-- Numbers of the named pins in the record of outputs: TIME_Q, TWIN_CLM_OUT, the two halt relay drivers; the GPIO pins
stand from 32. -/
def pinTimeQ : Nat := 2
def pinClaim : Nat := 3
def pinRelay : Nat := 4
def pinGpio : Nat := 32

/-! ## Statistics -/

def stat (s : State) (g : Nat) : StatGroup := tget {} s.stats g

/-- Interval length and phase of a group; metering's are of its own section (R55, R492). -/
def statPar (s : State) (g : Nat) : StatPar :=
  if g = 36 then { len := s.par.meter.len, phase := s.par.meter.phaseP } else tget {} s.par.stats g

/-- A correction waits for the edge that has come: the tide's number is not settled yet (R66). -/
def correctionDue (s : State) : Bool := match s.clk.correction with | some c => c.tide ≤ s.clk.tide | none => false

/-- A regular end edge of the group lies among the skipped numbers before this tide (R71). -/
def endSkipped (s : State) (g : Nat) : Bool :=
  let p := statPar s g
  match s.clk.gapFrom with
  | none => false
  | some a => p.len != 0 && a + (p.phase + p.len - a % p.len) % p.len < s.clk.tide

/-- The edge of this tide is a regular end edge of the group (R55). -/
def endRegular (s : State) (g : Nat) : Bool :=
  let p := statPar s g
  p.len != 0 && s.clk.tide % p.len == p.phase

/-- The group's interval ended at the edge of this tide and is not latched (R55, R56, R71). -/
def statDue (s : State) (g : Nat) : Bool :=
  let x := stat s g
  x.on && x.startRan != s.clk.ran && !correctionDue s && (endRegular s g || endSkipped s g)

/-- The latch of a group at this edge (R56, R57). -/
def latchNow (s : State) (x : StatGroup) : StatGroup :=
  { x.latch s.clk.tide s.clk.ran x.nextFlags with nextFlags := 0 }

/-- The group as what follows the edge finds it: an interval that ended at the edge is latched first, so that an event of
the edge counts in the new one (R56). Metering latches with its record. -/
def settled (s : State) (g : Nat) : StatGroup :=
  if statDue s g && g != 36 then latchNow s (stat s g) else stat s g

def updStat (g : Nat) (f : StatGroup → StatGroup) (s : State) : State :=
  { s with stats := tput {} s.stats g (f (settled s g)) }

/-- Adds n to counter i of a group (R58). -/
def countN (g i n : Nat) (s : State) : State := updStat g (StatGroup.add (statWidth g i) i n) s

def count (g i : Nat) (s : State) : State := countN g i 1 s

/-- Every statistic group of the block (R55). -/
def groups : List Nat := List.range 37

/-- Sets flags in the running intervals of groups (R57, R62). -/
def markAll (gs : List Nat) (f : BitVec 32) (s : State) : State := each gs (fun g => updStat g (StatGroup.mark f)) s

/-! ## Late results (R50, R53, R54) -/

/-- Results of a function discarded because they came late (R50, R53); the work's tide is the one that runs (R54). -/
def lateResults (fn n : Nat) (s : State) : State :=
  updMiss fn (fun x => { x with total := x.total + BitVec.ofNat 32 n, late := x.late + n, lastTide := s.clk.tide }) s

/-- DEADLINE_MISS (R54). -/
def missEvent (fn kind run : Nat) (s : State) : State :=
  let x := missOf s fn
  raise 0x0381 (le 8 x.lastTide ++ le 1 fn ++ le 1 kind ++ le 2 0 ++ le 4 run ++ le 4 x.total.toNat) s

/-- The statistic group of the function that owns a deadline (R57). -/
def ownGroup (fn : Nat) : List Nat :=
  match fn with | 2 => [15] | 3 => [15] | 5 => [14] | 6 => [14] | _ => []

/-- A result that comes after its deadline was judged makes that judged deadline missed (R53, log entry 48): the run that
the judgement ended goes on, and a new run starts. -/
def missedAfter (fn : Nat) (s : State) : State :=
  let x := missOf s fn
  let t := updMiss fn (fun x => { x with late := 0 }) s
  if x.missedNow then t
  else
    let t := markAll (ownGroup fn) flMissed
      (updMiss fn (fun x => { x with missedNow := true, open_ := false, run := x.prevRun + 1 }) t)
    if x.prevRun = 0 then missEvent fn 0 1 t else t

/-- A result of the function came in time (R50, R53). -/
def inTime (fn : Nat) (s : State) : State := updMiss fn (fun x => { x with came := true }) s

/-- A tide ends: a deadline that is still open was met, and its run ends (R53, R54, log entry 48). -/
def closeOpen (s : State) : State :=
  each [1, 2, 3, 5, 6] (fun fn s =>
    let x := missOf s fn
    if x.open_ then missEvent fn 1 x.run (updMiss fn (fun x => { x with open_ := false, run := 0 }) s) else s) s

/-- Results that arrive late in a tide: discarded and counted (R50, R53). -/
def lateArrival (fn n : Nat) (s : State) : State :=
  let t := lateResults fn n s
  if n != 0 && (missOf s fn).judged == some s.clk.ran then missedAfter fn t else t

/-- A snapshot record of a group with n counters (R57). -/
def snapshot (g n : Nat) (s : State) : List Byte :=
  let x := stat s g
  le 8 x.endTide ++ le 4 x.tides ++ le 4 x.snapFlags.toNat ++
    (List.range n).flatMap fun i =>
      let k := if statWidth g i = 48 then 8 else 4
      le k (tget 0 x.snapCtr i) ++ le k (tget 0 x.snapTotal i)

/-! ## Module state -/

/-- MOD_STATE (R18, R89, R618, R650): start-up state, CLUSTER_DOWN, ROLE, CONFIG_DEFAULTED, PROVISIONAL. It reads zero after
reset, until start-up leaves state 0. -/
def modState (s : State) : Nat :=
  if s.sys.modState = 0 then 0 else s.sys.modState + 0x100 * bit (clusterDown s) + 0x200 * bit s.sys.tender + 0x400 * bit s.cfg.defaultedBit
    + 0x800 * bit s.time.prov

/-- Raises SYS_STATE_CHANGE when MOD_STATE differs from what it last gave, from 1 CONFIG onward (R116, R618). -/
def noteState (s : State) : State :=
  let m := BitVec.ofNat 32 (modState s)
  if m = s.sys.shown then s
  else
    let t := { s with sys := { s.sys with shown := m } }
    if s.sys.modState == 0 || s.sys.modState == 6 then t
    else raise 0x1180 (le 4 s.sys.shown.toNat ++ le 4 m.toNat) t

/-- Register accesses and sessions are served: not in ROM or recovery mode, and the harbourmaster runs (R94, R618). -/
def hostUp (s : State) : Bool := s.sys.modState != 0 && s.sys.modState != 6 && s.sys.hmRuns

/-- The accessing origin holds the session that owns the window (R80, R81). -/
def owns (o : Origin) (w : Nat) (s : State) : Bool :=
  hostUp s && w < 8 && o != .tls && (win s w).st != 1 && (win s w).origin == originCode o

/-- Closes a session (R93): the window enters CLOSING; subscriptions and queued events are removed. Where the module closes
a TLS session itself it sends no close record and leaves the connection as it is: R111 names a close record only where no
window is free (DESIGN CHOICE, log entry 113). -/
def closeSession (w reason : Nat) (s : State) : State :=
  let v := win s w
  if live v then setWin w { v with st := 4, reason, subs := [], queue := [], closeRan := s.clk.ran } s else s

def closeOrigin (o reason : Nat) (s : State) : State :=
  each windows (fun w s => if (win s w).origin == o then closeSession w reason s else s) s

end Sys2Proof.Machine
end

