-- ==== Sys2Proof/Machine/Radio.lean ====
section
/-! DEFINITION. Sys2Proof/Machine/Radio.lean: transceivers, links, airtime ledgers, cells and the radio service
(chapter 07). What is sent in a cell and what is received stand in Machine/OnAir.lean. -/

namespace Sys2Proof.Machine

/-! ## Transceivers -/

/-- The die of a transceiver (R192). -/
def dieOf (x : Nat) : Nat := if x < 8 then x / 4 else (x - 8) / 2

/-- The port partner (R192). -/
def partner (x : Nat) : Nat := if x < 8 then (x + 4) % 8 else 8 + (x - 8 + 2) % 4

def die (s : State) (d : Nat) : Die := tget {} s.radio.dies d

def updDie (d : Nat) (f : Die → Die) (s : State) : State :=
  { s with radio := { s.radio with dies := tput {} s.radio.dies d (f (die s d)) } }

/-- A dead transceiver: its die is failed (R25, R230). -/
def deadX (s : State) (x : Nat) : Bool := (die s (dieOf x)).st == 2

/-- A transceiver that configuration places in service and no command has disabled (R228). -/
def enabledX (s : State) (x : Nat) : Bool := s.par.radio.inService.getLsbD x && !s.radio.disabled.getLsbD x

/-- A live transceiver (R205, R209). -/
def liveX (s : State) (x : Nat) : Bool := enabledX s x && !deadX s x

/-- RADIO_STATUS state code (R230). -/
def stateX (s : State) (x : Nat) : Nat :=
  if deadX s x then 0 else if !enabledX s x then 1 else if s.par.radio.region == 0 then 2 else 3

/-- Live sub-GHz transceivers in index order (R209). -/
def liveSub (s : State) : List Nat := (List.range 8).filter (liveX s)

/-- Live HB transceivers as HB numbers 0 to 3 (R205). -/
def liveHb (s : State) : List Nat := (List.range 4).filter fun j => liveX s (8 + j)

/-- ASN of the sub-GHz cell of a tide (R198), and of a 2.4 GHz slot (R204). -/
def asnSub (k : Nat) : Nat := k % 2 ^ 40
def asnHb (k slot : Nat) : Nat := 4 * (k % 2 ^ 38) + slot

/-- Channel of a transceiver in a tide (R198, R204). -/
def channelOf (s : State) (x k : Nat) : Nat :=
  if x < 8 then
    let h := hopOf s.par.radio x
    h.getD ((asnSub k + tget 0 s.par.radio.offsets x) % h.length) 0
  else
    let l := s.par.radio.hopHb.length
    s.par.radio.hopHb.getD ((k + (x - 8) * (l / 4)) % l) 0

/-- PHY mode of a transceiver (R193): O-QPSK on HB0 to HB3. -/
def modeOf (s : State) (x : Nat) : Nat := if x < 8 then tget 1 s.par.radio.modes x else 0x20

def airX (s : State) (x n : Nat) : Nat := airtime s.par.radio.region (modeOf s x) n

/-- Longest acknowledged and broadcast PSDU in octets (R200, R206). -/
def psduLimit (region mode : Nat) (ack : Bool) : Nat :=
  let pick (a b : Nat) := if ack then a else b
  match mode with
  | 0x20 => pick 36 62
  | 0x10 => pick 18 45
  | 0x11 => pick 48 90
  | 0x12 => pick 108 180
  | 0x13 => pick 166 270
  | m => match fskRate region m with
    | 50 => pick 13 42
    | 100 => pick 61 96
    | 150 => pick 109 151
    | _ => pick 157 205

/-! ## Frames -/

/-- The nonce of a secured frame: the EUI-64 of its source and the ASN (R196, R214; log entry 109). -/
def macNonce (eui asn : Nat) : List Byte := be 8 eui ++ be 5 asn

/-- A frame with its FCS. -/
def withFcs (m : List Byte) : List Byte := m ++ le 2 (fcs16 m)

/-- A frame of level 1: MIC-32 over all its bytes, and the FCS (R210, R367). -/
def micFrame (key : List Byte) (eui asn : Nat) (b : List Byte) : List Byte :=
  withFcs (b ++ ccm 4 (key16 key) (macNonce eui asn) b [])

/-! ## Airtime ledger -/

/-- Budget entry by number (R218). -/
def entryOf (s : State) (e : Nat) : BudgetEntry :=
  if e = 8 then s.par.radio.hbEntry else s.par.radio.entries.getD e {}

/-- The entry that contains a channel's centre frequency (R218). -/
def entryOfChannel (s : State) (x ch : Nat) : Nat :=
  if x ≥ 8 then 8
  else
    let f := s.par.radio.chan0Khz + ch * s.par.radio.spacingKhz
    ((List.range s.par.radio.entries.length).find? fun e =>
      (entryOf s e).loKhz ≤ f && f ≤ (entryOf s e).hiKhz).getD 0

def reserveOf (b : BudgetEntry) : Nat := (b.budgetUs.getD 0) * b.reservePct / 100

def ledger (s : State) (e : Nat) : Ledger := tget {} s.radio.ledgers e

def setLedger (e : Nat) (l : Ledger) (s : State) : State :=
  { s with radio := { s.radio with ledgers := tput {} s.radio.ledgers e l } }

/-- RADIO_BUDGET_HOLD (R232). -/
def budgetEvent (e kind : Nat) (s : State) : State :=
  raise 0x0480 (le 1 e ++ le 1 kind ++ le 2 0 ++ le 4 (ledger s e).used ++ le 4 ((entryOf s e).budgetUs.getD 0)) s

/-- charge(t) of R219, and AIRTIME_US of the transceiver (R229). -/
def charge (x e t : Nat) (s : State) : State :=
  let l := ledger s e
  let b := (s.clk.tide / 100) % (entryOf s e).windowS
  let l' : Ledger := match (entryOf s e).budgetUs with
    | none => l
    | some _ => { l with used := l.used + t, bins := tput 0 l.bins b (tget 0 l.bins b + t) }
  countN x 14 t (setLedger e l' s)

/-- What a frame is to the ledger (R219). -/
inductive AirKind where
  | horn | beacon | other
  deriving DecidableEq, Repr

/-- admit(f) of R219: whether the frame may be sent, and the charged ledger. -/
def ledgerAdmits (x e t : Nat) (k : AirKind) (s : State) : Bool × State :=
  let b := entryOf s e
  let l := ledger s e
  match b.budgetUs with
  | none => (true, charge x e t s)
  | some budget =>
    let room := budget - reserveOf b
    let enter (st : Nat) (s : State) : State :=
      if (ledger s e).st = st ∨ (st = 1 ∧ (ledger s e).st ≠ 0) then s
      else budgetEvent e (st - 1) (setLedger e { (ledger s e) with st } s)
    match k with
    | .horn => (true, charge x e t s)
    | .beacon =>
      if l.used + t ≤ room then (true, charge x e t s)
      else if l.used + t ≤ budget then (true, charge x e t (enter 1 s))
      else (false, count x 12 (enter 2 s))
    | .other =>
      if l.used + t ≤ room then (true, charge x e t s)
      else (false, count x 12 (enter 1 s))

/-- LEDGER_SECOND (R219): the one-second boundary of every entry. -/
def execLedgerSecond (s : State) : Res :=
  doneIn [.host, .radio, .out] s (
    if s.clk.tide % 100 != 0 then s
    else each (List.range s.par.radio.entries.length ++ [8]) (fun e s =>
      match (entryOf s e).budgetUs with
      | none => s
      | some budget =>
        let l := ledger s e
        let b := (s.clk.tide / 100) % (entryOf s e).windowS
        let l : Ledger := { l with used := l.used - tget 0 l.bins b, bins := tput 0 l.bins b 0 }
        if l.st != 0 && 10 * l.used ≤ 9 * (budget - reserveOf (entryOf s e)) then
          budgetEvent e 2 (setLedger e { l with st := 0 } s)
        else setLedger e l s) s)

/-- Ledgers at a start of the radio function: used equal to the budget less the reserve, in the current bin (R219). -/
def startLedgers (s : State) : State :=
  each (List.range s.par.radio.entries.length ++ [8]) (fun e s =>
    match (entryOf s e).budgetUs with
    | none => setLedger e {} s
    | some budget =>
      let u := budget - reserveOf (entryOf s e)
      setLedger e { used := u, bins := tput 0 [] ((s.clk.tide / 100) % (entryOf s e).windowS) u } s) s

/-! ## Links -/

/-- Table key of a source address: a node's own, a vehicle's from 0x1000 (R192, R213). -/
def link (s : State) (a : Nat) : Link := tget {} s.radio.links a

def setLink (a : Nat) (l : Link) (s : State) : State :=
  { s with radio := { s.radio with links := tput {} s.radio.links a l } }

/-- RADIO_NODE_LINK, at most 16 in a tide; further changes are counted for the summary (R232). -/
def linkEvent (a old : Nat) (s : State) : State :=
  let l := link s a
  if old == l.st then s
  else if s.radio.linkEvents < 16 then
    raise 0x0481 (le 2 a ++ le 1 old ++ le 1 l.st ++ le 1 l.x ++ le 1 0 ++ leI 2 l.err)
      { s with radio := { s.radio with linkEvents := s.radio.linkEvents + 1 } }
  else
    let r := s.radio
    { s with radio := { r with unreported := r.unreported + 1, toSync := r.toSync + bit (l.st == 2), toDrift := r.toDrift + bit (l.st == 3),
                               toAdrift := r.toAdrift + bit (l.st == 4) } }

/-- The link state of a node becomes JOINING with its entry, or UNUSED without it (R213, R221, R232). -/
def newLink (n : Nat) (l : Link) (s : State) : State := linkEvent n (link s n).st (setLink n l s)

/-- RADIO_LINK_SUMMARY of the changes not reported one by one (R232). -/
def linkSummary (s : State) : State :=
  let r := s.radio
  if r.unreported = 0 then s
  else raise 0x0483 (le 2 r.unreported ++ le 2 r.toSync ++ le 2 r.toDrift ++ le 2 r.toAdrift)
    { s with radio := { r with unreported := 0, toSync := 0, toDrift := 0, toAdrift := 0 } }

/-- Returns a frame to firmware with a status (R197). -/
def returned (node status : Nat) (s : State) : State :=
  { s with radio := { s.radio with returned := (node, status) :: s.radio.returned } }

/-- A follow-on cell is lost: the frame that it was granted for returns (R202, R228). -/
def cancelFollowOn (node : Nat) (s : State) : State :=
  if s.radio.indirect.any fun i => i.node == node then
    returned node stCANCELLED { s with radio := { s.radio with indirect := s.radio.indirect.eraseP fun i => i.node == node } }
  else s

/-- A cell's frame returns with CANCELLED (R197, R202, R228). -/
def cancelCell (c : CellUse) (s : State) : State :=
  match c with
  | .send f => returned f.node stCANCELLED s
  | .followOn n => cancelFollowOn n s
  | _ => s

/-- One failed exchange: the third in a row sets ADRIFT (R222). -/
def exchangeFailed (a : Nat) (s : State) : State :=
  let l := link s a
  if l.st = 0 then s
  else
    let n := l.fails + 1
    linkEvent a l.st (setLink a { l with fails := n, st := if n ≥ 3 then 4 else l.st } s)

/-- A frame of the node accepted: the run of failures ends and the error sets the state (R222). Its acknowledgement of a
transmission does the same, but leaves a node in JOINING there (log entry 106). -/
def exchangeGood (a : Nat) (err : Int) (frame : Bool) (s : State) : State :=
  let l := link s a
  if l.st = 0 then s
  else
    let st := if l.st = 1 && !frame then 1 else if err.natAbs > 250 then 3 else 2
    linkEvent a l.st (setLink a { l with fails := 0, err, st } s)

/-- Indirect frames of a node leave the queue and return to firmware (R215, R216, R230). -/
def dropIndirect (node status : Nat) (s : State) : State :=
  let n := (s.radio.indirect.filter fun f => f.node == node).length
  let s : State := { s with radio := { s.radio with indirect := s.radio.indirect.filter fun f => f.node != node } }
  each (List.replicate n node) (fun a s => returned a status s) s

/-- The last ASN of an entry written before the first cell of a tide on a transceiver (R213, R215): the ASN less one;
sums stay in Nat, so that of ASN 0 is written as 0. -/
def asnBefore (x k : Nat) : Nat := (if x < 8 then asnSub k else asnHb k 0) - 1

/-- A move of a node's entry at the edge of this tide: the new entry comes from the harbourmaster's shadow copy (R63, R215). -/
def moveLink (node x : Nat) (s : State) : State :=
  let l := link s node
  if l.st = 0 then s
  else dropIndirect node stSTATE (setLink node { l with x, epoch := l.epoch + 1, lastDsn := l.shDsn,
                                                        lastAsn := max l.shAsn (asnBefore x s.clk.tide) } s)

/-- ENH_ACK_RX (R222): the acknowledgement of a unicast or follow-on transmission; its Time Correction gives the error. -/
def enhAck (x node : Nat) (errUs : Int) (s : State) : State :=
  if s.radio.waiting.contains (x, node) && (link s node).x == x then
    exchangeGood node errUs false (returned node stOK { s with radio := { s.radio with
      waiting := s.radio.waiting.filter (· != (x, node)) } })
  else s

/-- ACK_TIMEOUT (R222): no acknowledgement arrived. -/
def ackLost (x node : Nat) (s : State) : State :=
  if s.radio.waiting.contains (x, node) then
    exchangeFailed node (count x 1 (returned node stTIMEOUT { s with radio := { s.radio with
      waiting := s.radio.waiting.filter (· != (x, node)) } }))
  else s

/-- A transceiver runs cells and slots: it lives, its die is loaded, not restarting and without a strobe fault, and the tide is
not stretched (R201, R226, R227). -/
def onAir (s : State) (x : Nat) : Bool :=
  liveX s x && (die s (dieOf x)).loaded && !(die s (dieOf x)).moving && !s.clk.strobeFault.getLsbD (dieOf x) && !s.clk.stretched

/-- The cell of a transceiver in this tide. -/
def cellNow (s : State) (x : Nat) : CellUse := if s.radio.cellTide == s.clk.tide then tget .idle s.radio.cells x else .idle

/-- RX_WINDOW_END (R222): the window of a dedicated receive cell ends; without a frame from its node the exchange fails. -/
def rxEnd (x node : Nat) (s : State) : State :=
  if cellNow s x == .receive node && onAir s x && (link s node).x == x && !s.radio.heard.contains (x, node) then
    exchangeFailed node { s with radio := { s.radio with heard := (x, node) :: s.radio.heard } }
  else s

/-- INDIRECT_FRAME_EXPIRY (R216): frames whose expiry tide has passed. -/
def execIndirectFrameExpiry (node : Nat) (s : State) : Res :=
  let gone := (s.radio.indirect.filter fun f => f.node == node && f.expiry < s.clk.tide).length
  let kept := s.radio.indirect.filter fun f => !(f.node == node && f.expiry < s.clk.tide)
  doneIn [.radio] s (each (List.replicate gone node) (fun a s => returned a stTIMEOUT s)
    { s with radio := { s.radio with indirect := kept } })

/-! ## Cells -/

/-- An EB falls on the transceiver in the tide (R209). -/
def ebCell (s : State) (x k : Nat) : Bool :=
  let l := liveSub s
  let p := s.par.radio.ebPeriod
  x < 8 && l.length > 0 && k % p == 0 && l.getD ((k / p) % l.length) 255 == x

/-- A recovery cell falls on the transceiver in the tide (R224). -/
def recoveryCell (x k : Nat) : Bool :=
  let r := if x % 2 = 0 then (x + 1) % 8 else (x + 2) % 8
  x < 8 && k % 64 == 8 * x + r

/-- The channel of a transceiver in this tide: the recovery channel in a recovery tide (R198, R204, R224). -/
def chanNow (s : State) (x : Nat) : Nat :=
  if recoveryCell x s.clk.tide && !ebCell s x s.clk.tide then tget 0 s.par.radio.recChannel x else channelOf s x s.clk.tide

/-- The rule number of R201 that a cell comes from. -/
def cellRule : CellUse → Nat
  | .idle => 1 | .eb => 2 | .recovery => 3 | .followOn _ => 4 | .send _ => 5 | .receive _ => 5 | .shared => 6

def transmits : CellUse → Bool
  | .eb | .followOn _ | .send _ => true
  | _ => false

/-- The frame that firmware delivered for a transceiver, as its cell (R201 rule 5): no receive cell beside a
transceiver on which a released frame waits (R262). -/
def scheduled (s : State) (x : Nat) : Option CellUse :=
  match s.radio.next.find? (fun f => f.x == x && f.kind != .indirect
      && !(f.kind == .receive && s.lantern.parked.contains (partner x))) with
  | some f => some (if f.kind == .receive then .receive f.node else .send f)
  | none => none

/-- The cell of a transceiver in the next tide (R201). -/
def cellFor (s : State) (x k : Nat) : CellUse :=
  if !liveX s x then .idle
  else if ebCell s x k then .eb
  else if recoveryCell x k then .recovery
  else match s.radio.grants.find? (fun g => g.1 == x && g.2.1 == k) with
    | some g => .followOn g.2.2
    | none => (scheduled s x).getD .shared

/-- A node whose join answer waits for the next recovery cell of a transceiver (R244). -/
def joinWaits (s : State) (x : Nat) : Option Nat :=
  if clusterOff s then none else
  (s.lantern.nodes.find? fun e => match e.2.join with | some j => j.x == x | none => false).map (·.1)

/-- The cell transmits: a recovery cell does so while a join answer waits (R244). -/
def sends (s : State) (x : Nat) (c : CellUse) : Bool := transmits c || (c == .recovery && (joinWaits s x).isSome)

/-- The cell gives way to the port partner's (R202): the higher rule number, and RC9-B on equal numbers. -/
def yields (s : State) (x k : Nat) : Bool :=
  let a := cellFor s x k
  let b := cellFor s (partner x) k
  a != .idle && b != .idle && sends s x a != sends s (partner x) b &&
    (cellRule a > cellRule b || (cellRule a == cellRule b && dieOf x == 1))

/-- The transceiver on which a node is placed at the next edge: a move of it takes effect there (R63, R203, R227, R254). -/
def nextX (s : State) (n : Nat) : Nat :=
  let x := (link s n).x
  if x < 12 && (die s (dieOf x)).moving then partner x
  else match (tget ({} : LNode) s.lantern.nodes n).move with
    | some m => if m.acked && m.fromTide ≤ nextTide s then m.x else x
    | none => x

/-- Why a scheduled frame is not placed (R200, R203, R222, R262): none when it is. An indirect frame is acknowledged. -/
def frameFault (s : State) (f : CellFrame) : Option Nat :=
  if f.kind == .receive then (if s.lantern.parked.contains (partner f.x) then some stSTATE else none)
  else if f.psdu.length > psduLimit s.par.radio.region (modeOf s f.x) (f.kind == .indirect || (f.kind == .unicast && f.ackReq)) then
    some stLENGTH
  else if f.kind == .broadcast then none
  else if nextX s f.node != f.x || (link s f.node).st == 0 then some stSTATE
  else if f.kind == .unicast && (link s f.node).st == 4 then some stSTATE
  else none

/-- Puts an indirect frame into its die's queue: 1,024 per die, 2 per node (R216). -/
def addIndirect (f : CellFrame) (s : State) : State :=
  let mine := (s.radio.indirect.filter fun g => g.node == f.node).length
  let onDie := (s.radio.indirect.filter fun g => dieOf (link s g.node).x == dieOf f.x).length
  if mine ≥ 2 || onDie ≥ 1024 then returned f.node stNORES s
  else
    let i : Indirect := { node := f.node, expiry := f.expiry, psdu := f.psdu }
    { s with radio := { s.radio with indirect := s.radio.indirect ++ [i] } }

/-- The cells of all transceivers in a tide, from the frames that firmware scheduled (R201, R202). -/
def cellsFor (s : State) (k : Nat) : Tbl CellUse :=
  (List.range 12).foldl (fun t x => tput .idle t x (if yields s x k then .idle else cellFor s x k)) []

/-- The frames in a list that found no cell return (R197). -/
def unplaced (cells : Tbl CellUse) (fs : List CellFrame) : List CellFrame :=
  fs.filter fun f => f.kind != .receive && tget CellUse.idle cells f.x != .send f

/-- The cells of a tide from the frames that firmware scheduled for it: a frame without a cell returns, and so does a follow-on
cell's that gives way; cells that give way are counted, but for those that did so before (R197, R201, R202). -/
def setCells (k : Nat) (before : Nat → Bool) (fs : List CellFrame) (s : State) : State :=
  let b : State := { s with radio := { s.radio with next := fs } }
  let cells := cellsFor b k
  let s := each ((List.range 12).filter fun x => yields b x k && !before x) (fun x s =>
    let s := count x 13 s
    match cellFor b x k with
    | .followOn n => cancelFollowOn n s
    | _ => s) s
  let s := (unplaced cells fs).foldl (fun s f => returned f.node stCANCELLED s) s
  { s with radio := { s.radio with cells, cellTide := k } }

/-- What the cells of a tide hold that has not gone out returns (R197). -/
def cancelCells (s : State) : State :=
  s.radio.cells.foldl (fun s c => cancelCell c.2 s) { s with radio := { s.radio with cells := [] } }

/-- The cells of the next tide are loaded into the dies; every scheduled frame without a cell returns (R48, R197, R200 to
R203). -/
def loadCells (s : State) : State :=
  let s := cancelCells s
  let bad := s.radio.next.filter fun f => (frameFault s f).isSome
  let s := bad.foldl (fun s f => returned f.node ((frameFault s f).getD 0) s) s
  let good := s.radio.next.filter fun f => !bad.contains f
  let s := good.foldl (fun s f => if f.kind == .indirect then addIndirect f s else s) s
  let s := setCells (nextTide s) (fun _ => false) (good.filter fun f => f.kind != .indirect) s
  { s with radio := { s.radio with next := [], waiting := [], heard := [] } }

/-- The tide has another number after a correction: it takes that number's cells, without what firmware scheduled for the old
one, which returns (R66, R201, R202, R209). -/
def reloadCells (s : State) : State := setCells s.clk.tide (fun _ => false) [] (cancelCells s)

/-- The frames that the loaded cells hold, as firmware scheduled them. -/
def loadedFrames (cells : Tbl CellUse) : List CellFrame :=
  cells.filterMap fun c => match c.2 with
    | .send f => some f
    | .receive n => some { x := c.1, kind := .receive, node := n, ackReq := false, expiry := 0, psdu := [] }
    | _ => none

/-- The live set has changed at this edge, from what it was in s0: the cells of this tide are those of the new set, so that the
rotation of EBs counts it and a transceiver that starts has its cell (R201, R205, R209, R227). -/
def relive (s0 s : State) : State :=
  let k := s.clk.tide
  let s := if s.radio.cellTide == k then s else cancelCells s
  let old := s.radio.cells
  let fs := loadedFrames old
  let gave (x : Nat) : Bool := s.radio.cellTide == k && liveX s0 x && tget .idle old x == .idle
  let t := setCells k gave fs s
  let lost := old.filter fun c => (match c.2 with | .followOn n => cellFor t c.1 k != .followOn n | _ => false)
  lost.foldl (fun t c => cancelCell c.2 t) t

/-! ## Dies -/

/-- TIDE_MESSAGE_SEND (R27, R48): the message naming the next tide reaches the dies of the mask. -/
def execTideMessageSend (reached : BitVec 2) (s : State) : Res :=
  doneIn [.clk, .out] s (
    let k := nextTide s
    each [0, 1] (fun d s =>
      let s := emit (.die d 0 k) s
      if reached.getLsbD d then { s with clk := { s.clk with msg := tput 0 s.clk.msg d (k + 1) } } else s) s)

/-- RADIO_DIE_FAULT (R232). -/
def dieEvent (d kind : Nat) (s : State) : State := raise 0x0482 (le 1 d ++ le 1 kind ++ le 2 0) s

/-- Whether the strobe of this edge meets its message at a die (R27): a fault otherwise, and the third in a row lets the
die be declared failed (R227). -/
def strobeAt (strobe : BitVec 2) (d : Nat) (s : State) : State :=
  let named := tget 0 s.clk.msg d == s.clk.tide + 1
  let ok := strobe.getLsbD d == named
  let clk := { s.clk with msg := tput 0 s.clk.msg d 0 }
  if (die s d).st = 2 || (die s d).moving || !(die s d).loaded then { s with clk }
  else if ok && named then
    updDie d (fun x => { x with st := 0, faults := 0 })
      { s with clk := { clk with strobeFault := clk.strobeFault &&& ~~~((1 : BitVec 2) <<< d) } }
  else if ok then { s with clk := { clk with strobeFault := clk.strobeFault ||| ((1 : BitVec 2) <<< d) } }
  else dieEvent d 1 (updDie d (fun x => { x with st := 1, faults := x.faults + 1 })
    { s with clk := { clk with strobeFault := clk.strobeFault ||| ((1 : BitVec 2) <<< d) } })

/-- The internal link of a die at an edge (R227): the first edge of a run of edges with the link down raises the event. -/
def linkAt (down : BitVec 2) (d : Nat) (s : State) : State :=
  let x := die s d
  if !down.getLsbD d then (if x.down = 0 then s else updDie d (fun y => { y with down := 0 }) s)
  else
    let s := updDie d (fun y => { y with down := x.down + 1 }) s
    if x.down = 0 && x.st != 2 && x.loaded then dieEvent d 2 s else s

/-- The harbourmaster may declare the die failed: the link down at two consecutive edges, or three consecutive strobe faults
(R227). -/
def mayFail (s : State) (d : Nat) : Bool :=
  let x := die s d
  d ≤ 1 && x.st != 2 && !x.moving && (x.down ≥ 2 || x.faults ≥ 3)

/-- RADIO_DIE_FAIL (R227): the die is declared failed and restarted; what follows from it starts at the next edge. -/
def execRadioDieFail (d : Nat) (s : State) : Res :=
  doneIn [.host, .radio, .out] s (
    if mayFail s d then dieEvent d 3 (updDie d (fun x => { x with faults := 0, moving := true, loaded := false }) s) else s)

/-- RADIO_DIE_RESTORE (R205, R227): the restarted die is live again from the next edge. -/
def execRadioDieRestore (d : Nat) (s : State) : Res :=
  doneIn [.host, .radio, .out] s (
    if d > 1 || (die s d).st != 2 || (die s d).back then s
    else dieEvent d 4 (updDie d (fun x => { x with faults := 0, loaded := true, back := true }) s))

/-- A node's placement takes effect at this edge: results of before are stale, and a move that waits gives way to it (R64,
R65). -/
def nodePlaced (n : Nat) (s : State) : State :=
  let e := tget {} s.lantern.nodes n
  finishOpt (e.move.bind (·.job)) stCANCELLED { s with lantern := { s.lantern with
    down := s.lantern.down.filter fun m => !(m.node == n && m.kind == 0x05)
    nodes := tput {} s.lantern.nodes n { e with placed := s.clk.tide, move := none } } }

/-- A transceiver that stops keeps no released frame (R228, R262). -/
def dropRecalls (x : Nat) (s : State) : State :=
  { s with lantern := { s.lantern with recalls := s.lantern.recalls.filter fun r => r.x != x
                                       parked := s.lantern.parked.filter (· != x) } }

/-- A die declared failed is dead from this edge, and its nodes move to the port partners; a restored one is live again (R64,
R65, R205, R215, R227, R255). -/
def moveDie (d : Nat) (s : State) : State :=
  if (die s d).back then updDie d (fun x => { x with st := 0, back := false }) s
  else if !(die s d).moving then s
  else
    let ns := (s.radio.links.filter fun x => x.1 < 0x1000 && x.2.st != 0 && x.2.x < 12 && dieOf x.2.x == d).map
      fun x => (x.1, partner x.2.x)
    let s := each ((List.range 8).filter fun x => dieOf x == d) dropRecalls s
    ns.foldl (fun s x => nodePlaced x.1 (moveLink x.1 x.2 s)) (updDie d (fun x => { x with st := 2, moving := false }) s)

/-- The shadow copies of every entry whose die the harbourmaster reaches (R215). -/
def refreshShadow (s : State) : State :=
  let reached (x : Nat) : Bool := x < 12 && (die s (dieOf x)).down == 0 && (die s (dieOf x)).st != 2 && !(die s (dieOf x)).moving
  let copy (l : Nat × Link) : Nat × Link :=
    if reached l.2.x then (l.1, { l.2 with shAsn := l.2.lastAsn, shDsn := l.2.lastDsn }) else l
  { s with radio := { s.radio with links := s.radio.links.map copy } }

/-- What the dies do at a tide edge (R27, R215, R227, R232). -/
def radioAtEdge (strobe down : BitVec 2) (s : State) : State :=
  let s : State := { s with radio := { s.radio with
    linkEvents := 0
    grants := s.radio.grants.filter fun g => g.2.1 ≥ s.clk.tide } }
  let s := refreshShadow (each [0, 1] (linkAt down) s)
  let changes := [0, 1].any fun d => (die s d).back || (die s d).moving
  each [0, 1] (strobeAt strobe) (if changes then relive s (each [0, 1] moveDie s) else s)

/-- Every node entry in SYNC or DRIFT becomes ADRIFT, with one summary event (R225). -/
def massAdrift (s : State) : State :=
  let n := (s.radio.links.filter fun x => x.1 < 0x1000 && (x.2.st == 2 || x.2.st == 3)).length
  let s : State := { s with radio := { s.radio with links := s.radio.links.map fun x =>
    if x.1 < 0x1000 && (x.2.st == 2 || x.2.st == 3) then (x.1, { x.2 with st := 4 }) else x } }
  if n = 0 then s else raise 0x0483 (le 2 n ++ le 2 0 ++ le 2 0 ++ le 2 n) s

/-- The frames and indirect frames of a transceiver return with CANCELLED (R228). -/
def stopRadio (x : Nat) (s : State) : State :=
  let s := match tget .idle s.radio.cells x with | .send f => returned f.node stCANCELLED s | _ => s
  let s : State := { s with radio := { s.radio with cells := tput .idle s.radio.cells x .idle } }
  let fs := s.radio.next.filter fun f => f.x == x
  let ns := (s.radio.indirect.filter fun f => (link s f.node).x == x).map (·.node)
  let s := fs.foldl (fun s f => returned f.node stCANCELLED s) s
  let s := dropRecalls x (each ns (dropIndirect · stCANCELLED) s)
  { s with radio := { s.radio with next := s.radio.next.filter fun f => f.x != x,
                                   disabled := s.radio.disabled ||| ((1 : BitVec 12) <<< x) } }

/-- A transceiver starts with no work in flight; its placed nodes take the next epoch (R62). -/
def startRadio (x : Nat) (s : State) : State :=
  { s with radio := { s.radio with
      disabled := s.radio.disabled &&& ~~~((1 : BitVec 12) <<< x)
      links := s.radio.links.map fun l => if l.1 < 0x1000 && l.2.st != 0 && l.2.x == x then
        (l.1, { l.2 with epoch := l.2.epoch + 1 }) else l } }

/-! ## Radio service commands -/

/-- The power cap of a transceiver: its own maximum and the cap of its current entry (R194). -/
def capOf (s : State) (x : Nat) : Int :=
  min (if x < 8 then 27 else 20) (entryOf s (entryOfChannel s x (chanNow s x))).capDbm

/-- The power in force (R194, R230, R645: thermal level 2 caps the sub-GHz transceivers at +20 dBm). -/
def powerOf (s : State) (x : Nat) : Int :=
  let cap := if x < 8 ∧ s.pr.level ≥ 2 then min 20 (capOf s x) else capOf s x
  match tget none s.radio.power x with
  | some p => min p cap
  | none => min (tget (if x < 8 then 27 else 20) s.par.radio.powers x) cap

/-- die_state: failed as soon as the harbourmaster has declared it (R227, R230). -/
def dieState (s : State) (d : Nat) : Nat := if (die s d).moving then 2 else (die s d).st

/-- RADIO_STATUS (R230). -/
def radioStatusBytes (s : State) : List Byte :=
  ((List.range 12).flatMap fun x =>
    let ch := chanNow s x
    le 1 x ++ le 1 (stateX s x) ++ le 1 (modeOf s x) ++ le 1 (entryOfChannel s x ch) ++ leI 1 (powerOf s x) ++ le 1 ch
      ++ le 1 (dieOf x) ++ le 1 0)
    ++ le 1 (dieState s 0) ++ le 1 (dieState s 1) ++ le 1 s.par.radio.ebPeriod ++ le 1 0

def execRadioStatus (w : Nat) (s : State) : Res :=
  answered s (onCmd w 0x0401 anyPayload (fun _ s => ok w (radioStatusBytes s) s) s)

/-- RADIO_LEDGER (R230). -/
def radioLedgerBytes (s : State) : List Byte :=
  let es := List.range s.par.radio.entries.length ++ [8]
  le 1 es.length ++ zeros 3 ++ es.flatMap fun e =>
    let b := entryOf s e
    match b.budgetUs with
    | none => le 1 e ++ le 1 0 ++ le 2 0 ++ le 4 0xFFFFFFFF ++ le 4 0xFFFFFFFF ++ le 4 0xFFFFFFFF
    | some u => le 1 e ++ le 1 (ledger s e).st ++ le 2 b.windowS ++ le 4 u ++ le 4 (reserveOf b) ++ le 4 (ledger s e).used

def execRadioLedger (w : Nat) (s : State) : Res :=
  answered s (onCmd w 0x0402 anyPayload (fun _ s => ok w (radioLedgerBytes s) s) s)

/-- RADIO_NEIGHBOUR (R230, R231). -/
def neighbourBytes (a id : Nat) (s : State) : List Byte :=
  let l := link s a
  le 2 id ++ le 1 l.st ++ le 1 l.x ++ le 1 l.epoch.toNat ++ le 1 l.lastDsn ++ le 1 l.fails
    ++ le 1 (s.radio.indirect.filter fun f => f.node == a).length ++ le 8 l.lastAsn ++ le 8 l.lastRx ++ leI 2 l.err
    ++ leI 1 l.rssi ++ le 1 0

def neighbourBad (p : List Byte) : Bool :=
  u8 p 0 > 1 || (u8 p 0 == 0 && u16 p 2 > 4095) || (u8 p 0 == 1 && u16 p 2 > 255)

def execRadioNeighbour (w : Nat) (s : State) : Res :=
  answered s (onCmd w 0x0403 neighbourBad (fun p s =>
    ok w (neighbourBytes (u16 p 2 + (if u8 p 0 = 1 then 0x1000 else 0)) (u16 p 2) s) s) s)

/-- RADIO_STATS (R229, R230). -/
def execRadioStats (w : Nat) (s : State) : Res :=
  answered s (onCmd w 0x0404 (fun p => u8 p 0 > 11) (fun p s => ok w (snapshot (u8 p 0) 15 s) s) s)

/-- Live sub-GHz transceivers that no waiting command disables (R228). -/
def stayingSub (s : State) : List Nat :=
  (liveSub s).filter fun x => !s.switches.any fun q => q.fn == .radio x && !q.start

/-- RADIO_ENABLE (R61, R228, R230). -/
def radioEnableF (w : Nat) (p : List Byte) (s : State) : State :=
  let x := u8 p 0
  if deadX s x then refuse w stSTATE s
  else if u8 p 1 == 0 && (x ≥ 8 || stayingSub s == [x]) then refuse w stPROT s
  else ok w (le 8 (nextTide s)) (switch (.radio x) (u8 p 1 == 1) s)

def execRadioEnable (w : Nat) (s : State) : Res :=
  doneIn [.host, .switches, .out] s (onCmd w 0x0440 (fun p => u8 p 0 > 11 || u8 p 1 > 1) (radioEnableF w) s)

/-- RADIO_NEIGHBOUR_FLUSH (R230). -/
def radioFlushF (w : Nat) (p : List Byte) (s : State) : State :=
  let n := (s.radio.indirect.filter fun f => f.node == u16 p 0).length
  ok w (le 2 n ++ le 2 0) (dropIndirect (u16 p 0) stCANCELLED s)

def execRadioNeighbourFlush (w : Nat) (s : State) : Res :=
  doneIn [.host, .radio, .out] s (onCmd w 0x0441 (fun p => u16 p 0 > 4095) (radioFlushF w) s)

/-- RADIO_POWER_SET (R194, R230). -/
def radioPowerF (w : Nat) (p : List Byte) (s : State) : State :=
  if iAt p 1 1 > capOf s (u8 p 0) then refuse w stLIMIT s
  else change w (.radioPower (u8 p 0) (iAt p 1 1)) s

def execRadioPowerSet (w : Nat) (s : State) : Res :=
  doneIn [.host, .changes, .out] s (onCmd w 0x0442 (fun p => u8 p 0 > 11 || iAt p 1 1 < -10) (radioPowerF w) s)

end Sys2Proof.Machine
end

