-- ==== Sys2Proof/Machine/Lantern.lean ====
section
/-! DEFINITION. Sys2Proof/Machine/Lantern.lean: the lantern service: joins, the node table, commands, rules and bow
waves, feeder balance (chapter 08). -/

namespace Sys2Proof.Machine

def lnode (s : State) (n : Nat) : LNode := tget {} s.lantern.nodes n

def updLant (f : Lantern → Lantern) (s : State) : State := { s with lantern := f s.lantern }

def updNode (n : Nat) (f : LNode → LNode) (s : State) : State :=
  updLant (fun l => { l with nodes := tput {} l.nodes n (f (tget {} l.nodes n)) }) s

/-- The node list's entry of a node (R244). -/
def nodeCfg (s : State) (n : Nat) : NodeCfg := (s.par.lantern.nodes.find? fun c => c.node == n).getD {}

/-- Nodes in use, by ID. -/
def usedNodes (s : State) : List Nat := (s.lantern.nodes.filter fun x => x.2.st != 0).map (·.1)

/-- LANT_NODE_STATE, at most 16 in a tide; further changes are counted for the summary (R276). -/
def setNodeState (n st reason : Nat) (s : State) : State :=
  let e := lnode s n
  if e.st == st && reason != 7 then s
  else
    let s := updNode n (fun e => { e with st }) s
    if s.lantern.stateEvents < 16 then
      raise 0x0580 (le 2 n ++ le 1 e.st ++ le 1 st ++ le 1 reason ++ le 1 (lnode s n).version ++ le 2 0)
        (updLant (fun l => { l with stateEvents := l.stateEvents + 1 }) s)
    else updLant (fun l => { l with toActive := l.toActive + bit (st == 2), toAdrift := l.toAdrift + bit (st == 3),
                                    toLost := l.toLost + bit (st == 4),
                                    toOther := l.toOther + bit (st != 2 && st != 3 && st != 4) }) s

/-- LANT_STATE_SUMMARY (R276). -/
def stateSummary (s : State) : State :=
  let l := s.lantern
  let n := l.toActive + l.toAdrift + l.toLost + l.toOther
  if n = 0 then s
  else raise 0x0584 (le 2 n ++ le 2 l.toActive ++ le 2 l.toAdrift ++ le 2 l.toLost)
    (updLant (fun l => { l with toActive := 0, toAdrift := 0, toLost := 0, toOther := 0 }) s)

/-- The service state follows the link state (R247). -/
def syncNode (n : Nat) (s : State) : State :=
  if n < 0x1000 && (link s n).st == 4 && (lnode s n).st == 2 then setNodeState n 3 3 s else s

/-- A frame of the node was accepted (R247). -/
def frameAccepted (n : Nat) (s : State) : State :=
  let s := updNode n (fun e => { e with lastFrame := s.clk.tide }) s
  let e := lnode s n
  if e.st == 3 || e.st == 4 then setNodeState n 2 4 s else s

/-! ## Messages -/

/-- Queues an NNP message; its frames carry the next DSN (R236, R238, R241). -/
def queueMsg (n x kind left : Nat) (body : List Byte) (s : State) : State :=
  updLant (fun l => { l with down := l.down ++ [{ node := n, x, kind, body, left, dsn := l.dsn + 1 }], dsn := l.dsn + 1 }) s

/-- Removes a node's queued messages of a kind. -/
def dropMsgs (n kind : Nat) (s : State) : State :=
  updLant (fun l => { l with down := l.down.filter fun m => !(m.node == n && m.kind == kind) }) s

/-- Transmissions of a unicast message before it is given up (log entry 23). -/
def uniTries : Nat := 3

/-- The transceiver of a message: the one on which its node is placed in the next tide, or the broadcast's. -/
def msgX (s : State) (m : NnpMsg) : Nat := if m.node = 0xFFFF then m.x else nextX s m.node

/-- The header of an NNP message: type, version, epoch, node (R238). -/
def nnpHeader (kind version epoch node : Nat) : List Byte := le 1 (kind + 64 * version) ++ le 1 epoch ++ le 2 node

/-- The MAC header of an NNP frame on a transceiver with a security level and a key index: data, PAN ID compression, short
addresses, a DSN, and an acknowledgement request unless it is a broadcast (R192, R236). -/
def macHeader (s : State) (x dst dsn level key : Nat) : List Byte :=
  le 2 (0xA849 + 0x20 * bit (dst != 0xFFFF)) ++ le 1 dsn ++ le 2 s.par.radio.pan ++ le 2 dst ++ le 2 (0xFE00 + x)
    ++ le 1 (0x68 + level) ++ le 1 key

/-- The PSDU of an NNP message in the cell of tide k: level 5 with MIC-32, or level 6 with MIC-64 for a version-3 node, under the
node key or the broadcast key (R233, R236, R238; log entry 109). -/
def nnpPsdu (s : State) (m : NnpMsg) (k : Nat) : List Byte :=
  let all := m.node = 0xFFFF
  let e := lnode s m.node
  let x := msgX s m
  let version := if all then 2 else e.version
  let epoch := if all then 0 else (link s m.node).epoch.toNat + bit ((link s m.node).x != x)
  let level := if version = 3 then 6 else 5
  let h := macHeader s x m.node m.dsn.toNat level (if all then s.par.radio.bcastKeyIndex else 1)
  withFcs (h ++ ccm (if version = 3 then 8 else 4) (key16 (if all then s.par.radio.bcastKey else e.nodeKey))
    (macNonce (Config.transceiverEui x) (asnSub k)) h (nnpHeader m.kind version (epoch % 256) m.node ++ m.body))

/-- The next cmd_id (R241). -/
def newCmdId (s : State) : Nat := (s.lantern.cmdId + 1) % 256

/-- The EB period and phase of a transceiver (R209, R241). -/
def ebOf (s : State) (live : List Nat) (x : Nat) : Nat × Nat :=
  let p := s.par.radio.ebPeriod
  (p * live.length, p * (live.findIdx (· == x)))

/-- PLACE (R241, R254, R255). The uplink phase is firmware's choice: a free value (log entry 1). -/
def placeBody (s : State) (x epoch fromTide : Nat) : List Byte :=
  let live := liveSub s
  let eb := ebOf s live x
  let fb := ebOf s (live.filter fun y => dieOf y == dieOf (partner x)) (partner x)
  let up := s.par.lantern.upPeriod
  le 1 x ++ le 1 epoch ++ le 4 fromTide ++ le 1 (tget 0 s.par.radio.offsets x) ++ le 1 (tget 0 s.par.radio.recChannel x)
    ++ le 2 eb.1 ++ le 2 eb.2 ++ le 2 up ++ le 2 (drawn s % max up 1)
    ++ le 1 (tget 0 s.par.radio.offsets (partner x)) ++ le 1 (tget 0 s.par.radio.recChannel (partner x))
    ++ le 2 fb.1 ++ le 2 fb.2

def sendPlace (n x epoch fromTide : Nat) (s : State) : State :=
  draw (queueMsg n 0 0x05 1 (placeBody s x epoch fromTide) s)

/-- A lighting group's parameters (R251). -/
def groupPar (s : State) (g : Nat) : GroupPar := tget {} s.par.lantern.groups g

/-- The parameters that hold for a node: those of its first group (log entry 24). -/
def nodeGroupPar (s : State) (n : Nat) : GroupPar :=
  match (nodeCfg s n).groups with | g :: _ => groupPar s g | [] => {}

/-- SCHEDULE messages of at most four entries, so that each fits 31 bytes (R237, R241). -/
def scheduleParts (id : Nat) (es : List (Nat × Nat)) : List (List Byte) :=
  (List.range ((es.length + 3) / 4)).map fun i =>
    let p := (es.drop (4 * i)).take 4
    le 1 id ++ le 1 (4 * i) ++ le 1 p.length ++ p.flatMap fun e => le 4 e.1 ++ le 2 e.2

/-- Queues messages of one kind to a node in their order. -/
def queueAll (n kind : Nat) (bodies : List (List Byte)) (s : State) : State :=
  bodies.foldl (fun s b => queueMsg n 0 kind uniTries b s) s

/-- REPORTING: the demand interval of metering (R55, R241, R269). -/
def sendReporting (n : Nat) (s : State) : State :=
  queueMsg n 0 0x07 uniTries (le 4 s.par.meter.len ++ le 4 s.par.meter.phaseP) s

/-- What the module sends after a node's first STATUS (R246, R251, R269); its scenes follow (log entry 110). -/
def welcome (n : Nat) (s : State) : State :=
  let c := nodeCfg s n
  let g := nodeGroupPar s n
  let key (use idx : Nat) (k : List Byte) := le 1 use ++ le 1 idx ++ key16 k ++ le 4 s.clk.tide
  let two := (lnode s n).version ≥ 2
  let s := queueMsg n 0 0x04 uniTries (key 1 s.par.radio.ebKeyIndex s.par.radio.ebKey) s
  let s := queueMsg n 0 0x04 uniTries (key 2 s.par.radio.bcastKeyIndex s.par.radio.bcastKey) s
  let s := sendReporting n s
  let id := newCmdId s
  let s := if two then queueMsg n 0 0x16 uniTries (le 1 id ++ le 2 g.floor ++ le 2 g.safe ++ le 2 g.holdTime) s else s
  let s := if two then queueMsg n 0 0x15 uniTries (le 1 id ++
    ((c.groups ++ [255, 255, 255, 255]).take 4).flatMap (le 1)) s else s
  let s := queueAll n 0x12 (scheduleParts id c.schedule) s
  let s := if two then queueAll n 0x13 (c.scenes.map fun e => le 1 id ++ le 1 e.1 ++ le 2 e.2) s else s
  updNode n (fun e => { e with floor := if two then g.floor else 0 }) (updLant (fun l => { l with cmdId := id }) s)

/-! ## Joining -/

/-- The transceiver takes joins (R237): its acknowledged limit fits the join frames. -/
def takesJoins (s : State) (x : Nat) : Bool := psduLimit s.par.radio.region (modeOf s x) true ≥ 48

/-- A node of a version may be placed on a transceiver (R237). -/
def fits (s : State) (version x : Nat) : Bool :=
  psduLimit s.par.radio.region (modeOf s x) true ≥ (if version = 3 then 52 else 48)

/-- The highest NNP version that both sides allow (R234). -/
def joinVersion (mask allowed : Nat) : Option Nat :=
  [3, 2, 1].find? fun v => mask / 2 ^ v % 2 == 1 && allowed / 2 ^ v % 2 == 1

def malformedMsg (s : State) : State := updLant (fun l => { l with malformed := l.malformed + 1 }) s

/-- JOIN (R234, R237, R244, R246): the node of the EUI-64 and the state after the frame. A transceiver that does not fit the
version's frames places no node of it: its JOIN gets no answer. -/
def joinF (x eui : Nat) (p : List Byte) (s : State) : State :=
  if clusterOff s || x > 7 || !takesJoins s x then s
  else if p.length != 12 || u8 p 1 > 2 then malformedMsg s
  else match s.par.lantern.nodes.find? fun c => c.eui == eui with
    | none => updLant (fun l => { l with joinUnknown := l.joinUnknown + 1 }) s
    | some c =>
      let n := c.node
      match joinVersion (u8 p 0) s.par.lantern.versions with
      | none => setNodeState n (lnode s n).st 7 s
      | some v =>
        if !fits s v x then s
        else
          let again := (lnode s n).st != 0
          let key := le 8 (drawn s) ++ le 8 (drawn (draw s))
          let s := if again then draw (draw s) else dropMsgs n 0x06 (draw (draw s))
          let s := updNode n (fun e => { e with version := v, eui, cls := u8 p 1, hw := u16 p 2, fwVersion := u32 p 4,
                                                lastFrame := s.clk.tide, leaving := false, placed := s.clk.tide,
                                                join := some { x, nonce := u32 p 8, again, key } }) s
          let s := if (link s n).st == 0 || !again then
            newLink n { st := 1, x, lastAsn := asnBefore x s.clk.tide, shAsn := asnBefore x s.clk.tide } s else s
          setNodeState n 1 (if again then 1 else 0) s

/-- JOIN_SEQ parts of up to 24 channels of a transceiver's sequence (R241, R244). -/
def seqParts (s : State) (x : Nat) : Nat := max 1 (((hopOf s.par.radio x).length + 23) / 24)

/-- The PSDU of JOIN_ACCEPT: level 0 to the node's extended address; node_key under the join key, with the NNP header and setup
as authenticated data (R236, R241, R244, R245). -/
def acceptPsdu (s : State) (n : Nat) (j : JoinStep) : List Byte :=
  let e := lnode s n
  let h := nnpHeader 0x02 0 (link s n).epoch.toNat n
  let setup := le 1 (j.x + 8 * e.version)
  withFcs (le 2 0xAC61 ++ le 1 (s.lantern.dsn + 1).toNat ++ le 2 s.par.radio.pan ++ le 8 e.eui ++ le 2 (0xFE00 + j.x)
    ++ h ++ setup ++ le 1 1 ++ ccm 8 (key16 (nodeCfg s n).joinKey) (le 8 e.eui ++ le 4 j.nonce ++ le 1 0) (h ++ setup) j.key)

/-- The PSDU of a join answer in the cell of tide k (R236, R241, R244, R245). -/
def joinPsdu (s : State) (n : Nat) (j : JoinStep) (k : Nat) : List Byte :=
  if j.part = 0 then acceptPsdu s n j
  else
    let o := 24 * (j.part - 1)
    let ch := ((hopOf s.par.radio j.x).drop o).take 24
    let m : NnpMsg := { node := n, kind := 0x03, dsn := s.lantern.dsn + 1
                        body := le 1 (j.part - 1 + 16 * seqParts s j.x) ++ le 1 o ++ le 1 ch.length ++ ch.flatMap (le 1) }
    nnpPsdu s m k

/-- A join answer was acknowledged: after JOIN_ACCEPT the node key is in use, and a node that rejoins elsewhere moves (R244,
R246). -/
def joinAcked (n : Nat) (s : State) : State :=
  match (lnode s n).join with
  | none => s
  | some j =>
    let s := if j.part = 0 then updNode n (fun e => { e with nodeKey := j.key }) s else s
    let s := if j.part = 0 && j.again && (link s n).x != j.x then
      let s := finishOpt ((lnode s n).move.bind (·.job)) stCANCELLED s
      updNode n (fun e => { e with move := some { x := j.x, fromTide := nextTide s, acked := true } }) s
      else s
    if j.part < seqParts s j.x then
      updNode n (fun e => { e with join := some { j with part := j.part + 1, tries := 0 } }) s
    else sendPlace n j.x (link s n).epoch.toNat (s.clk.tide + 4) (updNode n (fun e => { e with join := none }) s)

/-- A join answer was not acknowledged: it is repeated up to 3 times, and the join is then abandoned (R244). -/
def joinLost (n : Nat) (s : State) : State :=
  match (lnode s n).join with
  | none => s
  | some j =>
    if j.tries ≥ 3 then
      let s := updNode n (fun e => { e with join := none }) s
      if j.again then s else newLink n {} (setNodeState n 0 0 s)
    else updNode n (fun e => { e with join := some { j with tries := j.tries + 1 } }) s

/-! ## Acknowledgements of messages and moves -/

/-- The message that a cell of this tide carried to a node (R201). -/
def msgSent (n : Nat) (s : State) : Option NnpMsg := s.lantern.aired.find? fun m => m.node == n

/-- A message leaves the queue. -/
def dropMsg (m : NnpMsg) (s : State) : State :=
  updLant (fun l => { l with down := l.down.erase m, aired := l.aired.erase m }) s

/-- A LANT_MOVE that waits is done for: its COMMAND_DONE reports CANCELLED (R65, R103, R272). -/
def endMove (n : Nat) (s : State) : State :=
  finishOpt ((lnode s n).move.bind (·.job)) stCANCELLED (updNode n (fun e => { e with move := none }) s)

/-- The LEAVE of a removed node has gone out, or will not: its entry and its link are free (R272). -/
def left (n : Nat) (s : State) : State :=
  if (lnode s n).leaving then newLink n {} (updNode n (fun _ => {}) (endMove n s)) else s

/-- The acknowledgement of a PLACE counts for its own move, by the edge before from_tide (R254). -/
def placeAcked (m : NnpMsg) (tide : Nat) (v : NodeMove) : NodeMove :=
  { v with acked := v.acked || (u32 m.body 2 == v.fromTide % 2 ^ 32 && tide + 2 ≤ v.fromTide) }

/-- What the acknowledgement of a message means to the lantern service (R254, R272). -/
def lanternAcked (n : Nat) (s : State) : State :=
  match msgSent n s with
  | none => s
  | some m =>
    let s := dropMsg m s
    match m.kind with
    | 0x05 => updNode n (fun e => { e with move := e.move.map (placeAcked m s.clk.tide) }) s
    | 0x06 => left n s
    | _ => s

/-- What a message without acknowledgement means to the lantern service (R197, R254, R272). -/
def lanternLost (n : Nat) (s : State) : State :=
  let s := syncNode n s
  match msgSent n s with
  | none => s
  | some m =>
    if m.left ≤ 1 then (if m.kind = 0x06 then left n (dropMsg m s) else dropMsg m s)
    else updLant (fun l => { l with
      down := lmodify l.down (l.down.findIdx (· == m)) (fun q => { q with left := q.left - 1 }), aired := l.aired.erase m }) s

/-- A node's placement move at its edge (R63, R246, R254): a PLACE that was not acknowledged in time is withdrawn. -/
def nodeMoveEdge (n : Nat) (s : State) : State :=
  match (lnode s n).move with
  | none => s
  | some m =>
    if m.fromTide > s.clk.tide then s
    else if m.acked then
      let s := updNode n (fun e => { e with move := none, placed := s.clk.tide }) (moveLink n m.x s)
      finishOpt m.job stOK s
    else
      let s := dropMsgs n 0x05 s
      if m.tries ≥ 3 then finishOpt m.job stTIMEOUT (updNode n (fun e => { e with move := none }) s)
      else
        let t := s.clk.tide + 4
        sendPlace n m.x ((link s n).epoch + 1).toNat t
          (updNode n (fun e => { e with move := some { m with fromTide := t, tries := m.tries + 1 } }) s)

/-! ## Upward messages -/

/-- The result answers the node's current placement (R64, R256). -/
def fresh (n epoch tide : Nat) (s : State) : Bool :=
  (link s n).st != 0 && (link s n).epoch.toNat == epoch && tide ≥ (lnode s n).placed

def dropStale (s : State) : State := updLant (fun l => { l with staleDropped := l.staleDropped + 1 }) s

def countStale (n epoch : Nat) (s : State) : State :=
  if (link s n).epoch.toNat == epoch then s else updLant (fun l => { l with stale := l.stale + 1 }) s

/-- A node that may send results: in use, with the cluster running. -/
def hears (n : Nat) (s : State) : Bool := !clusterOff s && n < 4096 && (lnode s n).st != 0

/-- CONFIRM (R250, R256, R272). -/
def confirmF (n epoch tide : Nat) (p : List Byte) (s : State) : State :=
  if !hears n s then s
  else if p.length != 4 || u8 p 1 > 3 then malformedMsg s
  else if !fresh n epoch tide s then dropStale s
  else
    let s := frameAccepted n s
    let id := u8 p 0
    let hit := s.lantern.waits.filter fun w => w.cmdId == id && w.targets.contains n
    let s := match hit.findSome? (·.floor) with
      | some f => if u8 p 1 ≤ 1 then updNode n (fun e => { e with floor := f }) s else s
      | none => s
    let ws := s.lantern.waits.map fun w =>
      if w.cmdId == id then { w with targets := w.targets.filter (· != n) } else w
    let ended := ws.filter fun w => w.cmdId == id && w.targets.isEmpty
    let s := updLant (fun l => { l with waits := ws.filter fun w => !(w.cmdId == id && w.targets.isEmpty) }) s
    ended.foldl (fun s w => finish w.job stOK s) s

def execNodeConfirm (node epoch tide : Nat) (p : List Byte) (s : State) : Res := doneIn [.host, .lantern, .log, .out] s (confirmF node epoch tide p s)

/-- STATUS (R241, R246, R247, R256). -/
def statusF (n epoch : Nat) (p : List Byte) (s : State) : State :=
  if !hears n s then s
  else if p.length != 16 || u8 p 6 % 4 == 3 || u8 p 6 ≥ 8 then malformedMsg s
  else if !fresh n epoch (fullTide s.clk.tide (u32 p 0)) s then dropStale s
  else
    let s := frameAccepted n s
    let s := updNode n (fun e => { e with
      level := u16 p 4, nodeState := u8 p 6 % 4, faults := BitVec.ofNat 16 (u16 p 7), generation := u16 p 9,
      recallGen := u16 p 11, missedTimed := u8 p 13, temp := iAt p 14 1, fwSlot := u8 p 15 }) s
    if (lnode s n).st == 1 then welcome n (setNodeState n 2 4 s) else s

/-- ENERGY (R241, R256, R269, R270). -/
def energyF (n epoch : Nat) (p : List Byte) (s : State) : State :=
  if !hears n s then s
  else if p.length != (if (lnode s n).version = 3 then 21 else 15) || u8 p 14 > 3 then malformedMsg s
  else
    let s := frameAccepted n (countStale n epoch s)
    let t := fullTide s.clk.tide (u32 p 0)
    let r : EnergyReport := { tide := t, energy := leAt p 4 6, reset := u8 p 14 % 2 == 1 }
    updNode n (fun e => { e with lastEnergy := t, energy := r.energy, burnHours := u32 p 10,
                                 reactive := if e.version = 3 then leAt p 15 6 else e.reactive,
                                 reports := (r :: e.reports).take (s.par.lantern.reportWindow / s.par.meter.len + 6) }) s

def execNodeEnergy (node epoch : Nat) (p : List Byte) (s : State) : Res := doneIn [.host, .lantern, .out] s (energyF node epoch p s)

/-- FAULT (R241, R242, R256, R276). -/
def faultF (n epoch : Nat) (p : List Byte) (s : State) : State :=
  if !hears n s then s
  else if p.length != 7 || u8 p 4 == 0 || u8 p 4 > 0x0B then malformedMsg s
  else
    let s := frameAccepted n (countStale n epoch s)
    let c := u8 p 4
    let s := updNode n (fun e => { e with faults := e.faults ||| ((1 : BitVec 16) <<< (c - 1)) }) s
    raise 0x0581 (le 2 n ++ le 1 c ++ le 1 1 ++ le 2 (u16 p 5) ++ le 2 0 ++ le 8 (fullTide s.clk.tide (u32 p 0))) s

def execNodeFault (node epoch : Nat) (p : List Byte) (s : State) : Res := doneIn [.host, .lantern, .out] s (faultF node epoch p s)

def addInput (d : Detection) (s : State) : State := updLant (fun l => { l with inputs := l.inputs ++ [d] }) s

/-- DETECT (R241, R256, R258, R276). -/
def detectF (n epoch : Nat) (p : List Byte) (s : State) : State :=
  if !hears n s then s
  else if p.length != 8 || u8 p 5 == 0 || u8 p 5 > 5 || (lnode s n).version < 2 then malformedMsg s
  else
    let s := frameAccepted n (countStale n epoch s)
    let t := fullTide s.clk.tide (u32 p 0)
    let s := addInput { source := 1, id := n, channel := u8 p 4, cls := u8 p 5, tide := t, ran := s.clk.ran } s
    raise 0x0583 (le 2 n ++ le 1 (u8 p 4) ++ le 1 (u8 p 5) ++ le 1 (u8 p 6) ++ le 1 (u8 p 7) ++ le 2 0 ++ le 8 t) s

def execNodeDetect (node epoch : Nat) (p : List Byte) (s : State) : Res := doneIn [.host, .lantern, .out] s (detectF node epoch p s)

/-- NODE_LOST_TIMEOUT (R247). -/
def nodeLostF (n : Nat) (s : State) : State :=
  let e := lnode s n
  if (e.st == 2 || e.st == 3) && s.clk.tide ≥ e.lastFrame + s.par.lantern.lostTides then setNodeState n 4 5 s else s

/-! ## Rules and bow waves -/

def ruleOn (s : State) (i : Nat) : Bool :=
  (tget none s.lantern.ruleSet i).getD (tget {} s.par.lantern.rules i).enabled

/-- Rules of sources 1 and 2 that a detection matches (R257, R258). -/
def matching (d : Detection) (s : State) : List Rule :=
  (s.par.lantern.rules.filter fun r => ruleOn s r.1 && r.2.source == d.source && r.2.srcId == d.id
    && (d.source != 1 || r.2.channel == d.channel) && r.2.classMask / 2 ^ d.cls % 2 == 1).map (·.2)

/-- Nodes of a lighting group (R257). -/
def groupNodes (s : State) (g : Nat) : List Nat :=
  (s.par.lantern.nodes.filter fun c => c.groups.contains g && (lnode s c.node).st != 0).map (·.node)

/-- A span in which a lantern is raised. -/
structure Span where
  node : Nat
  start : Nat
  stop : Nat
  level : Nat
  deriving DecidableEq, Repr, Inhabited

/-- The level of a node's spans at a tide: the maximum, compared on the level bits (R240, R258). -/
def levelAt (sp : List Span) (t : Nat) : Nat :=
  (sp.filter fun x => x.start ≤ t && t < x.stop).foldl (fun a x => if x.level % 1024 > a % 1024 then x.level else a) 0

/-- The steps of one node from its spans: at each end of a span from the next tide on, within 4,096 tides (R258). -/
def nodeSteps (tide n : Nat) (sp : List Span) : List BwStep :=
  let ts := (sp.flatMap fun x => [max x.start (tide + 1), x.stop]).foldr insertAscending []
  (ts.filter fun t => tide < t && t ≤ tide + 4096).map fun t => { node := n, tide := t, level := levelAt sp t }

/-- The step set of all spans (R258): a version-1 node has none (R235). -/
def formSteps (spans : List Span) (s : State) : List BwStep :=
  let ns := ((spans.map (·.node)).foldr insertAscending []).filter fun n => (lnode s n).version ≥ 2
  ns.flatMap fun n => nodeSteps s.clk.tide n (spans.filter fun x => x.node == n)

/-- The steps that version-1 nodes do not get: the ends of their spans that have not passed, as they would be issued (R235,
R258). -/
def omittedSteps (spans : List Span) (s : State) : List BwStep :=
  let t := s.clk.tide
  let sp := spans.filter fun x => (lnode s x.node).version == 1 && t < x.stop
  let ends := sp.flatMap fun x => [(x.node, x.start), (x.node, x.stop)]
  ((ends.filter fun e => e.2 ≤ t + 4096).map fun e =>
    ({ node := e.1, tide := e.2, level := levelAt (sp.filter fun x => x.node == e.1) e.2 } : BwStep)).foldr
    (fun x l => if l.contains x then l else x :: l) []

/-- The spans of the detections in force (R257, R258). -/
def raisedSpans (s : State) : List Span :=
  s.lantern.raised.flatMap fun r => (groupNodes s r.group).map fun n =>
    ({ node := n, start := r.start, stop := r.stop, level := r.level } : Span)

/-- Bow waves are issued (R258, R263). -/
def bowOn (s : State) : Bool := s.par.lantern.bowWaves && !s.lantern.bowOff

/-- LANTERN_RULE_EVAL (R235, R258): detections received before this tide's edge raise their groups; spans of reservations are the
fleet's. An omitted step counts once, and one whose tide has come counts no more. -/
def evalRules (reserved : List Span) (s : State) : State :=
  let t := s.clk.tide
  let due := s.lantern.inputs.filter fun d => d.ran < s.clk.ran
  let fresh := due.flatMap fun d => (matching d s).map fun r =>
    ({ group := r.group, start := t + 1, stop := t + 1 + r.hold, level := r.level } : Raised)
  let s := updLant (fun l => { l with
    raised := (l.raised.filter fun r => r.stop > t) ++ fresh, inputs := l.inputs.filter fun d => !(d.ran < s.clk.ran) }) s
  let spans := raisedSpans s ++ reserved
  let om := if bowOn s then omittedSteps spans s else []
  let new := om.filter fun x => !s.lantern.omitted.any fun y =>
    y.node == x.node && y.tide == x.tide && (y.level == x.level || x.tide ≤ t)
  updLant (fun l => { l with omitted := om
                             formed := if bowOn s then formSteps spans s else []
                             bwSkipped := l.bwSkipped + BitVec.ofNat 32 new.length }) s

/-- RECALL to every node that hears it, on each live sub-GHz transceiver (R260, R263). -/
def recallAll (s : State) : State :=
  let g := s.lantern.generation.toNat
  each (liveSub s) (fun x s => queueMsg 0xFFFF x 0x19 3 (le 2 g ++ le 1 0 ++ le 1 0) s) s

/-- Bow waves stop at their edge (R263): no step goes on air after it. -/
def stopBowWave (s : State) : State :=
  recallAll (updLant (fun l => { l with
    bowOff := true, generation := l.generation + 1, steps := [], nextSteps := none, formed := []
    down := l.down.filter fun m => m.kind != 0x18, recalls := [], condSet := [], parked := [] }) s)

def startBowWave (s : State) : State := updLant (fun l => { l with bowOff := false }) s

/-- What the lantern service does at a tide edge (R247, R259, R272, R276): the accepted step set is in force; a removed node is
UNUSED, and only its LEAVE is still to go. -/
def lanternAtEdge (s : State) : State :=
  let s := updLant (fun l => { l with stateEvents := 0, cond := [], resultIn := false }) s
  let s : State := match s.lantern.nextSteps with
    | some (st, changed) => updLant (fun l => { l with
        steps := st, generation := if changed || l.condOut then l.generation + 1 else l.generation, nextSteps := none }) s
    | none => updLant (fun l => { l with generation := if l.condOut then l.generation + 1 else l.generation }) s
  let gone := (s.lantern.nodes.filter fun x => x.2.removing).map (·.1)
  each gone (fun n s =>
    let e := lnode s n
    let s := endMove n s
    let s := dropIndirect n stCANCELLED (setNodeState n 0 6 s)
    let s := updLant (fun l => { l with down := l.down.filter fun m => m.node != n || m.kind == 0x06 }) s
    let s := updNode n (fun _ => { version := e.version, nodeKey := e.nodeKey, leaving := true }) s
    if (link s n).st = 4 then left n (dropMsgs n 0x06 s) else s) s

/-- What the lantern service had in hand when the cluster went down is lost; what it keeps comes from a checkpoint (R36, R38). -/
def lanternStops (s : State) : State :=
  updLant (fun l => { l with
    down := [], aired := [], inputs := [], formed := [], nextSteps := none, cond := [], recalls := [], condSet := [], condOut := false, parked := []
    nodes := l.nodes.foldl (fun t n => tput {} t n.1 { n.2 with join := none }) [] }) s

/-! ## Cells -/

/-- A BOW_WAVE body whose from becomes a tide: each entry keeps its tide, or that one where it has passed (R260). -/
def rebase (tide : Nat) (b : List Byte) : List Byte :=
  let d := (tide + 2 ^ 32 - u32 b 2 % 2 ^ 32) % 2 ^ 32
  b.take 2 ++ le 4 tide ++ le 1 (u8 b 6) ++ (entriesOf 6 (u8 b 6) (b.drop 7)).flatMap fun e =>
    le 2 (u16 e 0) ++ le 2 (u16 e 2 - d) ++ le 2 (u16 e 4)

/-- A message as its next transmission carries it: the first one of a bow wave sets from (R260). -/
def aired (tide : Nat) (m : NnpMsg) : NnpMsg :=
  if m.kind = 0x18 && m.left = 3 then { m with body := rebase tide m.body } else m

/-- The frame takes the cell that firmware schedules on its transceiver in the next tide, where that cell is free for it: no EB,
recovery or follow-on cell, no other frame, and no giving way to the partner (R201, R202, R260). -/
def placeFrame (f : CellFrame) (s : State) : Option State :=
  let t : State := { s with radio := { s.radio with next := s.radio.next ++ [f] } }
  if cellFor t f.x (nextTide s) == .send f && !yields t f.x (nextTide s) then some t else none

/-- The frame of a message for the cell of the next tide. -/
def msgFrame (s : State) (x : Nat) (m : NnpMsg) : CellFrame :=
  { x, kind := if m.node = 0xFFFF then .broadcast else .unicast, node := m.node, ackReq := m.node != 0xFFFF, expiry := 0
    psdu := nnpPsdu s m (nextTide s) }

/-- A released message is sent no more, and its transceiver's indirect frames are parked no longer (R262). -/
def dropRecall (r : NnpMsg) (s : State) : State :=
  updLant (fun l => { l with recalls := l.recalls.erase r, parked := l.parked.filter (· != r.x) }) s

/-- A released frame on a transceiver takes the next free cell, before what firmware scheduled there, which returns (R260,
R262). A message over its limit is dropped (R200). -/
def fillRecalls (s : State) : State :=
  each (List.range 8) (fun x s =>
    match s.lantern.recalls.find? fun r => r.x == x with
    | none => s
    | some r =>
      let f := msgFrame s x (aired (nextTide s) r)
      let mine (g : CellFrame) : Bool := g.x == x && g.kind != .indirect
      let t : State := { s with radio := { s.radio with next := s.radio.next.filter fun g => !mine g } }
      if frameFault s f == some stLENGTH then dropRecall r s
      else match placeFrame f t with
      | none => s
      | some u => (s.radio.next.filter mine).foldl (fun u g => if g.kind == .receive then u else returned g.node stCANCELLED u)
          (updLant (fun l => { l with aired := r :: l.aired }) u)) s

/-- Queued messages go into the next tide's free cells: on each transceiver the oldest of a node that is not ADRIFT, or of all
nodes. After a miss of the tide's lantern result nothing goes (R51, R201, R222, R237, R260). A message over its limit is dropped
(R200). -/
def fillCells (s : State) : State :=
  let s := fillRecalls (updLant (fun l => { l with aired := [] }) s)
  if clusterOff s || !s.lantern.resultIn then s
  else each (List.range 8) (fun x s =>
    match s.lantern.down.find? fun m => msgX s m == x && (m.node == 0xFFFF || ((link s m.node).st != 0 && (link s m.node).st != 4)) with
    | none => s
    | some q =>
      let f := msgFrame s x (aired (nextTide s) q)
      if frameFault s f == some stLENGTH then returned q.node stLENGTH (dropMsg q s)
      else match placeFrame f s with
        | none => s
        | some t => updLant (fun l => { l with aired := q :: l.aired }) t) s

/-- One transmission fewer of a message that stands in a list: it keeps its tides from the first (R260). -/
def sentOnce (q m : NnpMsg) (l : List NnpMsg) : List NnpMsg :=
  (lmodify l (l.findIdx (· == q)) (fun _ => { m with left := m.left - 1 })).filter fun r => r.left != 0

/-- A broadcast has been on air in this tide: two more successive cells repeat it (R260). After a released one the indirect
frames of its transceiver are parked no longer (R262). -/
def bcastSent (x : Nat) (s : State) : State :=
  match s.lantern.aired.find? fun m => m.node == 0xFFFF && m.x == x with
  | none => s
  | some q =>
    let m := aired s.clk.tide q
    if s.lantern.recalls.contains q then
      updLant (fun l => { l with
        recalls := sentOnce q m l.recalls, parked := l.parked.filter (· != x), aired := l.aired.erase q }) s
    else updLant (fun l => { l with down := sentOnce q m l.down, aired := l.aired.erase q }) s

/-! ## Feeder balance -/

def balanceOf (s : State) (f : Nat) : Balance := tget {} s.lantern.balance f

/-- The node's report at an edge (R270). -/
def reportAt (s : State) (n t : Nat) : Option EnergyReport := (lnode s n).reports.find? fun r => r.tide == t

/-- Every node reports at both ends of a span, without a counter reset within it (R270). -/
def spanOk (s : State) (ns : List Nat) (a e : Nat) : Bool :=
  ns.all fun n =>
    match reportAt s n a, reportAt s n e with
    | some x, some y => x.energy ≤ y.energy &&
        !((lnode s n).reports.any fun r => a < r.tide && r.tide ≤ e && r.reset)
    | _, _ => false

/-- The net imports of the feeders at the end edge of a demand interval; as many ends are kept as an evaluation can ask
for (R270). -/
def noteImports (net : Nat → Int) (s : State) : State :=
  let keep := s.par.lantern.reportWindow / s.par.meter.len + 6
  updLant (fun l => { l with imports := (List.range 12).foldl (fun t f =>
    tput [] t f (((s.clk.tide, net f) :: tget [] t f).take keep)) l.imports }) s

/-- BALANCE_EVALUATION (R270, R271, R275, R276). -/
def balanceF (f : Nat) (s : State) : State :=
  let p := s.par.lantern
  let l := s.par.meter.len
  match (tget [] s.lantern.imports f).dropWhile fun x => s.clk.tide < x.1 + p.reportWindow with
  | [] => s
  | (e, total) :: older =>
    let b := balanceOf s f
    if e ≤ b.endTide && b.result != 0 then s
    else
      let ns := (p.nodes.filter fun c => c.feeder == f && (lnode s c.node).st != 0).map (·.node)
      let missing := (ns.filter fun n => (reportAt s n e).isNone).length
      let base : Balance := { b with endTide := e, nodes := ns.length, missing }
      match [1, 2, 3, 4].find? fun k =>
          spanOk s ns (e - k * l) e && (older.any fun x => x.1 == e - k * l) with
      | none =>
        let b' := { base with result := 4, intervals := 0, imported := 0, nodeSum := 0, allowance := 0, residual := 0 }
        updLant (fun a => { a with balance := tput {} a.balance f b' }) s
      | some k =>
        let a := e - k * l
        let start := ((older.find? fun x => x.1 == a).getD (0, 0)).2
        let imp := (total - start) / 2 ^ 32
        let sum := ns.foldl (fun acc n =>
          acc + (((reportAt s n e).getD {}).energy - ((reportAt s n a).getD {}).energy)) 0
        let allow := sum * p.lossPpm / 1000000 + ns.length * p.standbyMw * (k * l) / 360
        let res : Int := imp - sum - allow
        let tol : Int := imp * p.tolPpm / 1000000 + p.tolAbs
        let ended := (res.natAbs : Int) > tol
        let result := if !ended then 1 else if res > 0 then 2 else 3
        let run := if !ended then 0 else if result == b.span then b.consecutive + 1 else 1
        let alarm := ended && run == p.spansK
        let clear := !ended && b.alarmed
        let nb : Balance := { base with result, span := result, intervals := k, consecutive := run, imported := imp, nodeSum := sum,
                                        allowance := allow, residual := res,
                                        alarmed := alarm || (b.alarmed && !clear) }
        let s := updLant (fun a => { a with balance := tput {} a.balance f nb }) s
        let kind := if clear then 3 else if res > 0 then 1 else 2
        if alarm || clear then
          raise 0x0582 (le 1 f ++ le 1 kind ++ le 1 k ++ le 1 0 ++ le 8 e ++ leI 8 imp ++ leI 8 (sum + allow)
            ++ leI 8 res) s
        else s

def execBalanceEvaluation (feeder : Nat) (s : State) : Res :=
  doneIn [.host, .lantern, .out] s (if feeder > 11 || clusterOff s then s else balanceF feeder s)

/-! ## Lantern service commands -/

/-- LANT_STATUS (R272). -/
def lantStatusBytes (s : State) : List Byte :=
  let l := s.lantern
  let cnt (k : Nat) := if k = 0 then 4096 - (usedNodes s).length else (l.nodes.filter fun x => x.2.st == k).length
  (List.range 5).flatMap (fun k => le 2 (cnt k)) ++ le 2 l.generation.toNat
    ++ le 2 (s.par.lantern.rules.filter fun r => ruleOn s r.1).length ++ le 1 (bit (s.par.lantern.bowWaves && !l.bowOff))
    ++ le 1 0 ++ le 4 l.stale.toNat ++ le 4 l.joinUnknown.toNat ++ le 4 l.bwSkipped.toNat ++ le 4 l.malformed.toNat

def execLantStatus (w : Nat) (s : State) : Res :=
  answered s (onCmd w 0x0501 anyPayload (fun _ s => ok w (lantStatusBytes s) s) s)

/-- LANT_NODE (R274). -/
def lantNodeBytes (s : State) (n : Nat) : List Byte :=
  let e := lnode s n
  let c := nodeCfg s n
  le 2 n ++ le 1 e.st ++ le 1 e.version ++ le 8 e.eui ++ le 1 e.cls ++ le 1 (link s n).x ++ le 1 (link s n).epoch.toNat
    ++ le 1 e.nodeState ++ le 1 c.feeder ++ le 1 0 ++ ((c.groups ++ [255, 255, 255, 255]).take 4).flatMap (le 1)
    ++ le 2 e.level ++ le 2 e.floor ++ le 2 e.faults.toNat ++ le 2 e.generation ++ le 4 e.fwVersion
    ++ le 8 e.lastFrame ++ le 8 e.lastEnergy ++ le 6 e.energy ++ le 2 0

def execLantNode (w : Nat) (s : State) : Res :=
  answered s (onCmd w 0x0502 (fun p => u16 p 0 > 4095) (fun p s => ok w (lantNodeBytes s (u16 p 0)) s) s)

/-- LANT_BALANCE (R275). -/
def lantBalanceBytes (s : State) (f : Nat) : List Byte :=
  let b := balanceOf s f
  le 1 f ++ le 1 b.result ++ le 1 b.intervals ++ le 1 b.consecutive ++ le 8 b.endTide ++ leI 8 b.imported
    ++ le 8 b.nodeSum ++ le 8 b.allowance ++ leI 8 b.residual ++ le 2 b.nodes ++ le 2 b.missing ++ le 4 0

def execLantBalance (w : Nat) (s : State) : Res :=
  answered s (onCmd w 0x0503 (fun p => u8 p 0 > 11) (fun p s => ok w (lantBalanceBytes s (u8 p 0)) s) s)

/-- The limits of a named tide (R273). -/
def tideLimit (t : Nat) (s : State) : Nat :=
  if t = 0 then stOK else if t < s.clk.tide + 200 then stLATE else if t > s.clk.tide + 8640000 then stLIMIT else stOK

/-- Sends a message that carries cmd_id to each target and waits for the confirmations (R250, R272). -/
def commandNodes (w kind : Nat) (ns : List Nat) (body : List Byte) (floor : Option Nat) (s : State) : State :=
  let id := newCmdId s
  let j := jobOf w s
  let s := respond w stACCEPTED [] s
  let s := each ns (fun n s => queueMsg n 0 kind uniTries (le 1 id ++ body) s) (updLant (fun l => { l with cmdId := id }) s)
  if ns.isEmpty then finish j stOK s
  else updLant (fun l => { l with waits := l.waits ++ [{ job := j, limit := s.clk.tide + 6000, cmdId := id, targets := ns,
                                                         floor }] }) s

def lantLevelBad (p : List Byte) : Bool :=
  u8 p 0 > 2 || u16 p 4 % 1024 > 1000 || (u8 p 0 == 0 && u16 p 2 > 4095) || (u8 p 0 == 1 && u16 p 2 > 254)

/-- LANT_LEVEL (R272, R273). -/
def lantLevelF (w : Nat) (p : List Byte) (s : State) : State :=
  let t := u64 p 8
  let ns := match u8 p 0 with
    | 0 => [u16 p 2]
    | 1 => groupNodes s (u16 p 2)
    | _ => usedNodes s
  if tideLimit t s != stOK then refuse w (tideLimit t s) s
  else if u8 p 0 == 0 && (lnode s (u16 p 2)).st == 0 then refuse w stSTATE s
  else if t = 0 then commandNodes w 0x10 ns (le 2 (u16 p 4) ++ le 2 (u16 p 6)) none s
  else commandNodes w 0x11 ns (le 4 t ++ le 2 (u16 p 4) ++ le 2 (u16 p 6)) none s

def execLantLevel (w : Nat) (s : State) : Res :=
  doneIn [.host, .lantern, .log, .out] s (onCmd w 0x0540 lantLevelBad (fun p s => needCluster w (lantLevelF w p) s) s)

/-- LANT_SCENE (R241, R272): SCENE_RECALL carries no cmd_id, so its targets never confirm it (log entry 25). -/
def lantSceneF (w : Nat) (p : List Byte) (s : State) : State :=
  let t := u64 p 4
  let ns := (groupNodes s (u8 p 0)).filter fun n => (lnode s n).version ≥ 2
  if tideLimit t s != stOK then refuse w (tideLimit t s) s
  else
    let j := jobOf w s
    let s := respond w stACCEPTED [] s
    let xs := (ns.map fun n => (link s n).x).foldr insertAscending []
    let s := each xs (fun x s => queueMsg 0xFFFF x 0x14 1 (le 1 (u8 p 0) ++ le 1 (u8 p 1) ++ le 4 t) s) s
    if ns.isEmpty then finish j stOK s
    else updLant (fun l => { l with waits := l.waits ++ [{ job := j, limit := s.clk.tide + 6000, cmdId := 256,
                                                           targets := ns }] }) s

def execLantScene (w : Nat) (s : State) : Res :=
  doneIn [.host, .lantern, .log, .out] s (onCmd w 0x0541 (fun p => u8 p 0 > 254 || u8 p 1 > 15) (fun p s => needCluster w (lantSceneF w p) s) s)

/-- LANT_COMMAND_TIMEOUT (R272). -/
def execLantCommandTimeout (w seq : Nat) (s : State) : Res :=
  doneIn [.host, .lantern, .log, .out] s (match s.lantern.waits.find? fun x => x.job.win == w && x.job.seq == seq && x.limit ≤ s.clk.tide with
    | none => s
    | some x => finish x.job stTIMEOUT (updLant (fun l => { l with waits := l.waits.erase x }) s))

/-- LANT_DETECT (R258, R272, R273). -/
def lantDetectF (w : Nat) (p : List Byte) (s : State) : State :=
  let d : Detection := { source := 2, id := u16 p 0, cls := u8 p 2, tide := u64 p 8, ran := s.clk.ran }
  if d.tide + 100 < s.clk.tide then refuse w stLATE s
  else if d.tide > s.clk.tide + 8640000 then refuse w stLIMIT s
  else ok w (le 2 (matching d s).length ++ le 2 0) (addInput d s)

def execLantDetect (w : Nat) (s : State) : Res :=
  doneIn [.host, .lantern, .out] s (onCmd w 0x0542 (fun p => u16 p 0 > 1023 || u8 p 2 == 0 || u8 p 2 > 5)
    (fun p s => needCluster w (lantDetectF w p) s) s)

/-- LANT_FLOOR_SET (R251, R272, R273). -/
def lantFloorF (w : Nat) (p : List Byte) (s : State) : State :=
  let g := u8 p 0
  let ns := (if g = 255 then usedNodes s else groupNodes s g).filter fun n => (lnode s n).version ≥ 2
  commandNodes w 0x16 ns (le 2 (u16 p 2) ++ le 2 (u16 p 4) ++ le 2 (u16 p 6)) (some (u16 p 2)) s

def execLantFloorSet (w : Nat) (s : State) : Res :=
  doneIn [.host, .lantern, .log, .out] s (onCmd w 0x0543 (fun p => u16 p 2 % 1024 > 1000 || u16 p 4 % 1024 > 1000) (fun p s => needCluster w (lantFloorF w p) s) s)

/-- LANT_MOVE (R254, R272, R273). -/
def lantMoveF (w : Nat) (p : List Byte) (s : State) : State :=
  let n := u16 p 0
  let x := u8 p 2
  let e := lnode s n
  if e.st == 0 || !liveX s x || !fits s e.version x then refuse w stSTATE s
  else if e.move.isSome then refuse w stBUSY s
  else
    let t := s.clk.tide + 4
    let j := jobOf w s
    sendPlace n x ((link s n).epoch + 1).toNat t (respond w stACCEPTED []
      (updNode n (fun e => { e with move := some { x, fromTide := t, job := some j } }) s))

def execLantMove (w : Nat) (s : State) : Res :=
  doneIn [.host, .lantern, .out, .free] s (onCmd w 0x0544 (fun p => u16 p 0 > 4095 || u8 p 2 > 7) (fun p s => needCluster w (lantMoveF w p) s) s)

/-- LANT_REMOVE (R247, R272, R273): LEAVE, with a reason that is not stated (log entry 1). -/
def lantRemoveF (w : Nat) (p : List Byte) (s : State) : State :=
  let n := u16 p 0
  if (lnode s n).st == 0 then refuse w stSTATE s
  else ok w [] (draw (queueMsg n 0 0x06 uniTries (le 1 (drawn s % 256)) (updNode n (fun e => { e with removing := true }) s)))

def execLantRemove (w : Nat) (s : State) : Res :=
  doneIn [.host, .lantern, .out, .free] s (onCmd w 0x0545 (fun p => u16 p 0 > 4095) (fun p s => needCluster w (lantRemoveF w p) s) s)

/-- LANT_RULE_ENABLE (R272, R273). -/
def execLantRuleEnable (w : Nat) (s : State) : Res :=
  doneIn [.host, .changes, .out] s (onCmd w 0x0546 (fun p => u16 p 0 > 1023 || u8 p 2 > 1) (fun p s =>
    needCluster w (change w (.ruleEnable (u16 p 0) (u8 p 2 == 1))) s) s)

/-- LANT_BOWWAVE_ENABLE (R60, R62, R263, R272). -/
def execLantBowwaveEnable (w : Nat) (s : State) : Res :=
  doneIn [.host, .switches, .out] s (onCmd w 0x0547 (fun p => u8 p 0 > 1) (fun p s =>
    needCluster w (fun s => ok w (le 8 (nextTide s)) (switch .bowWave (u8 p 0 == 1) s)) s) s)

end Sys2Proof.Machine
end

