-- ==== Sys2Proof/Machine/ConfigStore.lean ====
section
/-! DEFINITION. Sys2Proof/Machine/ConfigStore.lean: the configuration store (chapter 04): image checks, loading,
scheduling, control records, start on the stored configuration, migration. -/

namespace Sys2Proof.Machine

/-- 16 MB (R117). -/
def imageMax : Nat := 16777216

/-- The control record in force (R122): without a valid one every slot is EMPTY. -/
def ctrl (s : State) : CtrlRec :=
  let r := tget {} s.cfg.recs s.cfg.cur
  if r.crcOk then r else {}

def slotBytes (s : State) (k : Nat) : List Byte := tget [] s.cfg.slots k

/-- The slot of a role (R122). -/
def slotOf (s : State) (r : Role) : Option Nat :=
  [0, 1, 2].find? fun k => tget Role.empty (ctrl s).roles k == r

/-- Writes a control record into the record that is not in force, with the next sequence number: the module writes the two in
turn (R122). -/
def putRecord (r : CtrlRec) (s : State) : State :=
  let n := 1 - s.cfg.cur
  { s with cfg := { s.cfg with cur := n, recs := tput {} s.cfg.recs n { r with seq := ((ctrl s).seq + 1) % 2 ^ 32, crcOk := true } } }

/-- The role of a slot written (R122); an EMPTY slot holds no bytes (R128). -/
def setRole (k : Nat) (r : Role) (s : State) : State :=
  let c := ctrl s
  let t := putRecord { c with roles := tput Role.empty c.roles k r } s
  if r = .empty then { t with cfg := { t.cfg with slots := tput [] t.cfg.slots k [] } } else t

/-- The entries of the section directory as type, offset, length, CRC, reserved (R118). -/
def directory (img : List Byte) : List (Nat × Nat × Nat × Nat × Nat) :=
  (entriesOf 16 (u16 img 32) (img.drop 64)).map fun e => (u16 e 0, u32 e 4, u32 e 8, u32 e 12, u16 e 2)

/-- The sections of an image as type and bytes (R118). -/
def sectionsOf (img : List Byte) : List (Nat × List Byte) :=
  (directory img).map fun (t, o, n, _, _) => (t, slice img o n)

/-- Sections do not overlap: each next one, by offset, starts where the one before ends or later (R118). -/
def disjoint : List (Nat × Nat) → Bool
  | [] => true
  | (o, n) :: r => r.all (fun x => o + n ≤ x.1 || x.1 + x.2 ≤ o) && disjoint r

/-- The directory is as R118 and R119 demand and every section CRC is correct (R124 step 7). -/
def directoryOk (img : List Byte) : Bool :=
  let n := u16 img 32
  let d := directory img
  1 ≤ n && n ≤ 32 && noRepeat (d.map (·.1)) &&
    d.all (fun (t, o, l, c, z) => 1 ≤ t && t ≤ 0x11 && z == 0 && o % 8 == 0 && o ≥ 64 + 16 * n && o + l ≤ u32 img 44
      && crc32c (slice img o l) == c) &&
    disjoint (d.map fun (_, o, l, _, _) => (o, l))

/-- An OTP verification key slot: configuration slots 0 to 3, package slots from 4 (R569). -/
def keySlot (s : State) (i : Nat) : KeySlot := tget (keyDefault i) s.upd.keys i

/-- The key of a slot that is programmed and not revoked, else no bytes (R121, R569). -/
def slotKey (s : State) (i : Nat) : List Byte :=
  let k := keySlot s i
  if !k.programmed || k.revoked then [] else if k.key.isEmpty then Config.otpKey i else k.key

/-- The verification key of an image: the programmed slot that it names (R121). -/
def imageKey (s : State) (img : List Byte) : List Byte := if u8 img 35 < 4 then slotKey s (u8 img 35) else []

/-- The fields of one section, by its type (R118). -/
def takeFields (t : Nat) (p c : SiteConfig) : SiteConfig :=
  match t with
  | 0x01 => { c with host := p.host }
  | 0x03 => { c with time := p.time, stats := p.stats }
  | 0x04 => { c with radio := p.radio }
  | 0x05 => { c with lantern := p.lantern }
  | 0x06 => { c with gnss := p.gnss }
  | 0x07 => { c with ref := p.ref }
  | 0x08 => { c with fleet := p.fleet }
  | 0x09 => { c with ports := p.ports }
  | 0x0A => { c with pool := p.pool }
  | 0x0B => { c with quay := p.quay }
  | 0x0C => { c with meter := p.meter }
  | 0x0D => { c with lampSign := p.lampSign }
  | 0x0E => { c with pr := p.pr }
  | 0x10 => { c with log := p.log }
  | 0x11 => { c with gpio := p.gpio }
  | _ => c

/-- The cells of the map that the fleet section names: none where the map is missing from the maps partition, its digest is
wrong, or it cannot be read (R346). -/
def withMap (maps : List (Nat × List Byte)) (p : SiteConfig) : Option SiteConfig :=
  match p.fleet.map with
  | none => some { p with fleet := { p.fleet with cells := [] } }
  | some m => ((maps.find? fun x => x.1 == m.1 && sha256 x.2 == m.2).bind fun x => Config.mapCells x.2).map fun c =>
      { p with fleet := { p.fleet with cells := c } }

/-- The parameters of an image's sections in the layout of its schema (R118, R131): a type that the image does not contain takes the factory defaults of its service
(R119). -/
def sectionParams (schema : Nat) (maps : List (Nat × List Byte)) (l : List (Nat × List Byte)) : Option SiteConfig :=
  (l.foldl (fun c x => match c, Config.sectionFields schema x.1 x.2 with
    | some c, some p => some (takeFields x.1 p c)
    | _, _ => none) (some {})).bind (withMap maps)

/-- The 96 bytes of the device key's signature over a content (R120, R131). -/
def deviceSig (b : List Byte) : List Byte := (Config.deviceSign b ++ zeros 96).take 96

/-- The signature of an image stands (R120, R131): by the key slot that it names, or by the module's own device key, which
signs with one signature for each content (log entry 100). -/
def signatureOk (s : State) (img : List Byte) : Bool :=
  let n := img.length
  if u8 img 34 = 1 then slice img (n - 100) 96 == deviceSig (img.take (n - 100))
  else !(imageKey s img).isEmpty && ecdsaOk (imageKey s img) (img.take (n - 100)) (slice img (n - 100) 96)

/-- The first failing step of R124, as its status and the reason of R135; the schemas accepted and whether step 9 is
made are the caller's. -/
def checkImage (s : State) (schemas : List Nat) (skip9 : Bool) (highest : Nat) (img : List Byte) : Option (Nat × Nat) :=
  let n := img.length
  if !(180 ≤ n && n ≤ imageMax && u32 img 12 == n) then some (stLENGTH, 9)
  else if crc32c (img.take (n - 4)) != u32 img (n - 4) then some (stINTEG, 2)
  else if !(img.take 4 == [0x45, 0x53, 0x39, 0x43] && u16 img 6 == 64 && u32 img 40 == 64 && u32 img 44 == n - 100) then
    some (stFIELD, 3)
  else if !schemas.contains (u16 img 4) then some (stFIELD, 3)
  else if !(u64 img 16 == Config.serial || (u64 img 16 == 0 && u8 img 34 != 1)) then some (stFIELD, 4)
  else if !signatureOk s img then some (stAUTH, 5)
  else if !directoryOk img then some (stINTEG, 6)
  else match sectionParams (u16 img 4) s.cfg.maps (sectionsOf img) with
    | none => some (stFIELD, 7)
    | some p =>
      if !parOk p then some (stFIELD, 7)
      else if !skip9 && u32 img 8 ≤ highest then some (stFIELD, 0)
      else none

/-- image_version of CURRENT, 0 without one (R134, R544). -/
def currentVersion (s : State) : Nat := match slotOf s .current with | some k => u32 (slotBytes s k) 8 | none => 0

/-- pending_version (R134): read from the image once its header's field has arrived; before that, the version that
CFG_LOAD_BEGIN named (log entry 101). -/
def pendingVersion (s : State) : Nat :=
  match slotOf s .pending with
  | some k => if (slotBytes s k).length ≥ 12 then u32 (slotBytes s k) 8 else s.cfg.loadVersion
  | none => 0

/-- pending_state (R134): a PENDING image's own state; 4 also for a scheduled CFG_REVERT while no image is PENDING (log entry
101). -/
def pendingCode (s : State) : Nat :=
  match s.cfg.apply with
  | some a => if a.kind = 0 || (slotOf s .pending).isNone then 4 else s.cfg.pendingState
  | none => s.cfg.pendingState

/-- CFG_STATUS (R134). -/
def cfgStatusBytes (s : State) : List Byte :=
  let img (r : Role) := match slotOf s r with | some k => slotBytes s k | none => []
  le 4 (u32 (img .current) 8) ++ le 4 (u32 (img .previous) 8) ++ le 4 (pendingVersion s)
    ++ le 4 (ctrl s).highest ++ le 1 (pendingCode s) ++ le 1 s.cfg.defaulted
    ++ le 1 (u16 (img .current) 4) ++ le 1 (u8 (img .current) 34) ++ le 4 (img .pending).length
    ++ le 8 (ctrl s).applied ++ le 8 (match s.cfg.apply with | some a => a.tide | none => 0)

def execCfgStatus (w : Nat) (s : State) : Res :=
  answered s (onCmd w 0x0201 anyPayload (fun _ s => ok w (cfgStatusBytes s) s) s)

/-- CFG_LOAD_BEGIN (R128, R133). -/
def cfgLoadBeginF (w : Nat) (p : List Byte) (s : State) : State :=
  if (slotOf s .pending).isSome || s.cfg.apply.isSome then refuse w stBUSY s
  else if u32 p 0 > imageMax then refuse w stLIMIT s
  else match slotOf s .empty with
    | none => refuse w stNORES s
    | some k =>
      let s := setRole k .pending s
      ok w [] { s with cfg := { s.cfg with pendingState := 1, loadTotal := u32 p 0, loadVersion := u32 p 4,
                                           owner := callerSid s w, slots := tput [] s.cfg.slots k [] } }

def execCfgLoadBegin (w : Nat) (s : State) : Res :=
  doneIn [.host, .cfg, .out] s (onCmd w 0x0240 (fun p => u32 p 4 == 0) (cfgLoadBeginF w) s)

/-- The session in a window owns the load (R128). -/
def ownsLoad (w : Nat) (s : State) : Bool := (slotOf s .pending).isSome && callerSid s w == s.cfg.owner

/-- CFG_LOAD_DATA (R133). Where no load exists, no session owns it: it, CFG_LOAD_END and CFG_APPLY answer DENIED, where STATE
would fit too (DESIGN CHOICE, log entry 113). -/
def cfgLoadDataF (w : Nat) (p : List Byte) (s : State) : State :=
  match slotOf s .pending with
  | none => refuse w stDENIED s
  | some k =>
    let b := slotBytes s k
    if !ownsLoad w s then refuse w stDENIED s
    else if u32 p 0 != b.length || b.length + u16 p 4 > s.cfg.loadTotal then refuse w stFIELD s
    else
      let b' := b ++ p.drop 8
      ok w (le 4 b'.length) { s with cfg := { s.cfg with slots := tput [] s.cfg.slots k b' } }

def execCfgLoadData (w : Nat) (s : State) : Res :=
  doneIn [.host, .cfg, .out] s (onCmd w 0x0241 (fun p => u16 p 4 == 0 || u16 p 4 > 3824) (cfgLoadDataF w) s)

/-- CFG_LOAD_END (R133). -/
def cfgLoadEndF (w : Nat) (_ : List Byte) (s : State) : State :=
  match slotOf s .pending with
  | none => refuse w stDENIED s
  | some k =>
    if !ownsLoad w s then refuse w stDENIED s
    else if (slotBytes s k).length < s.cfg.loadTotal then refuse w stLENGTH s
    else if s.cfg.pendingState ≥ 2 then refuse w stSTATE s
    else
      let j := jobOf w s
      respond w stACCEPTED [] { s with cfg := { s.cfg with pendingState := 2, checkJob := some j } }

def execCfgLoadEnd (w : Nat) (s : State) : Res := doneIn [.host, .cfg, .out] s (onCmd w 0x0242 anyPayload (cfgLoadEndF w) s)

/-- Discards the load: its slot becomes EMPTY (R128). -/
def discardLoad (s : State) : State :=
  let s := match slotOf s .pending with | some k => setRole k .empty s | none => s
  { s with cfg := { s.cfg with pendingState := 0, checkJob := none, loadTotal := 0, loadVersion := 0, owner := 0 } }

/-- The record used at start-up: a valid CRC and the higher sequence number (R122). -/
def pickRecord (s : State) : Nat :=
  let a := tget {} s.cfg.recs 0
  let b := tget {} s.cfg.recs 1
  if b.crcOk && (!a.crcOk || b.seq > a.seq) then 1 else 0

/-- A reset discards the load and forgets an apply whose control record is not written (R122, R128, R130). -/
def resetStore (s : State) : State := discardLoad { s with cfg := { s.cfg with cur := pickRecord s, apply := none } }

/-- CFG_CHECK_COMPLETE (R124, R128). -/
def execCfgCheckComplete (s : State) : Res :=
  doneIn [.host, .cfg, .log, .out] s (match s.cfg.checkJob, slotOf s .pending with
    | some j, some k =>
      match checkImage s [7] false (ctrl s).highest (slotBytes s k) with
      | none => finish j stOK { s with cfg := { s.cfg with pendingState := 3, checkJob := none } }
      | some (st, _) => finish j st (discardLoad s)
    | _, _ => s)

/-- The apply tide that a request names, with 0 for the current tide plus 100; TOO_LATE and LIMIT (R129, R133). -/
def applyTide (named : Nat) (s : State) : Nat × Nat :=
  let t := if named = 0 then s.clk.tide + 100 else named
  (t, if t < s.clk.tide + 100 then stLATE else if t > s.clk.tide + 259200000 then stLIMIT else stOK)

/-- CFG_APPLY (R129, R133). -/
def cfgApplyF (w : Nat) (p : List Byte) (s : State) : State :=
  let a := applyTide (u64 p 0) s
  match slotOf s .pending with
  | none => refuse w stDENIED s
  | some k =>
    if !ownsLoad w s then refuse w stDENIED s
    else if s.cfg.pendingState != 3 || s.cfg.apply.isSome then refuse w stSTATE s
    else if a.2 != stOK then refuse w a.2 s
    else
      let x : ApplyWait := { slot := k, tide := a.1, kind := 0, job := jobOf w s }
      respond w stACCEPTED (le 8 a.1) { s with cfg := { s.cfg with pendingState := 4, apply := some x } }

def execCfgApply (w : Nat) (s : State) : Res := doneIn [.host, .cfg, .out] s (onCmd w 0x0243 anyPayload (cfgApplyF w) s)

/-- CFG_CANCEL (R128, R133): a scheduled apply is cancelled and a load is discarded, both where a CFG_REVERT is scheduled
while another image is PENDING (R128 discards a load at CFG_CANCEL without exception). -/
def cfgCancelF (w : Nat) (_ : List Byte) (s : State) : State :=
  match s.cfg.apply with
  | some a =>
    if a.passed || a.tide ≤ nextTide s then refuse w stSTATE s
    else
      let j := s.cfg.checkJob
      finish a.job stCANCELLED (finishOpt j stCANCELLED (ok w [] (discardLoad { s with cfg := { s.cfg with apply := none } })))
  | none =>
    if (slotOf s .pending).isNone then refuse w stSTATE s
    else
      let j := s.cfg.checkJob
      finishOpt j stCANCELLED (ok w [] (discardLoad s))

def execCfgCancel (w : Nat) (s : State) : Res := doneIn [.host, .cfg, .log, .out] s (onCmd w 0x0244 anyPayload (cfgCancelF w) s)

/-- Zeros up to the next multiple of 8 (R118). -/
def pad8 (n : Nat) : List Byte := zeros ((8 - n % 8) % 8)

/-- Directory entries and section bytes from an offset on, each section at a multiple of 8 (R118). -/
def layOut : Nat → List (Nat × List Byte) → List Byte × List Byte
  | _, [] => ([], [])
  | o, (t, b) :: r =>
    let x := layOut (o + b.length + (8 - b.length % 8) % 8) r
    (le 2 t ++ le 2 0 ++ le 4 o ++ le 4 b.length ++ le 4 (crc32c b) ++ x.1, b ++ pad8 b.length ++ x.2)

/-- The schema 7 image of translated sections (R117, R118, R120, R131): producer 1, the original's image_version and compile
fields, the module's serial, key slot 0xFF, the module's signature and the check word. -/
def migratedImage (img : List Byte) (l : List (Nat × List Byte)) : List Byte :=
  let o := 64 + 16 * l.length
  let x := layOut o l
  let total := o + x.2.length + 100
  let body := img.take 4 ++ le 2 7 ++ le 2 64 ++ slice img 8 4 ++ le 4 total ++ le 8 Config.serial ++ slice img 24 8
    ++ le 2 l.length ++ le 1 1 ++ le 1 0xFF ++ slice img 36 4 ++ le 4 64 ++ le 4 (total - 100) ++ zeros 16 ++ x.1 ++ x.2
  let signed := body ++ deviceSig body
  signed ++ le 4 (crc32c signed)

/-- The outcome of a migration (R131, R132): the image, or the status and the reason of R135 of what failed: the original's
check by its step, else the migration. -/
def migrate (s : State) (img : List Byte) : (Nat × Nat) ⊕ List Byte :=
  match checkImage s [4, 5, 6] true 0 img with
  | some x => .inl x
  | none => match Config.migrated img with
    | none => .inl (stFIELD, 8)
    | some l =>
      let m := migratedImage img l
      match checkImage s [7] true 0 m with
      | some _ => .inl (stFIELD, 8)
      | none => .inr m

/-- The image of CFG_REVERT: PREVIOUS, migrated where its schema is 4 to 6; the status of the failing step (R130, R132). -/
def revertImage (s : State) (img : List Byte) : Nat × List Byte :=
  if 4 ≤ u16 img 4 && u16 img 4 ≤ 6 then
    match migrate s img with
    | .inl x => (x.1, img)
    | .inr m => (stOK, m)
  else (match checkImage s [7] true 0 img with | some (st, _) => st | none => stOK, img)

/-- CFG_REVERT (R129, R130, R132). A migrated image takes the PREVIOUS slot's place at once, and stays migrated when the revert
is cancelled: the module's own choice (log entry 102). -/
def cfgRevertF (w : Nat) (p : List Byte) (s : State) : State :=
  let a := applyTide (u64 p 0) s
  match slotOf s .previous with
  | none => refuse w stSTATE s
  | some k =>
    if s.cfg.apply.isSome then refuse w stSTATE s
    else if a.2 != stOK then refuse w a.2 s
    else
      let j := jobOf w s
      let s := respond w stACCEPTED (le 8 a.1) s
      let r := revertImage s (slotBytes s k)
      if r.1 != stOK then finish j r.1 s
      else { s with cfg := { s.cfg with slots := tput [] s.cfg.slots k r.2,
                                        apply := some { slot := k, tide := a.1, kind := 1, job := j } } }

def execCfgRevert (w : Nat) (s : State) : Res := doneIn [.host, .cfg, .log, .out] s (onCmd w 0x0245 anyPayload (cfgRevertF w) s)

/-- CFG_APPLIED (R135). -/
def cfgApplied (tide version kind : Nat) (s : State) : State :=
  raise 0x0280 (le 8 tide ++ le 4 version ++ le 1 kind ++ zeros 3) s

/-- CFG_CONTROL_RECORD_WRITE (R122, R130, R135). -/
def execCfgControlRecordWrite (s : State) : Res :=
  doneIn [.host, .cfg, .log, .out] s (match s.cfg.apply with
    | none => s
    | some a =>
      if !a.passed then s
      else
        let cur := slotOf s .current
        let prev := slotOf s .previous
        let v := u32 (slotBytes s a.slot) 8
        let put (k : Option Nat) (r : Role) (t : Tbl Role) : Tbl Role :=
          match k with | some k => tput Role.empty t k r | none => t
        let roles := put (some a.slot) .current (put cur .previous
          (put (if a.kind = 0 then prev else none) .empty (ctrl s).roles))
        let slots := if a.kind = 0 then match prev with | some k => tput [] s.cfg.slots k [] | none => s.cfg.slots
          else s.cfg.slots
        let s := putRecord { roles, highest := max (ctrl s).highest v, metering := some s.par.meter, applied := a.edge } s
        let s := { s with cfg := { s.cfg with slots, apply := none,
                                              pendingState := if a.kind = 0 then 0 else s.cfg.pendingState } }
        finish a.job stOK (cfgApplied a.edge v a.kind s))

/-! ## Start-up on the stored configuration -/

/-- Start on the factory defaults (R125, R126): the metering section is the control record's copy. The log record of a
migration that is not made because of a parameter names it (R132): it failed step 8 or has no schema 7 meaning. -/
def startDefaults (migrating : Bool) (reason version : Nat) (s : State) : State :=
  let par := if migrating && (reason == 7 || reason == 8) then [match slotOf s .current with | some k => Config.badParameter (slotBytes s k) | none => 0] else []
  let m := ((ctrl s).metering).getD {}
  let s := { s with par := { meter := m }, cfg := { s.cfg with defaulted := reason, defaultedBit := true, sections := [] } }
  logIt 0x02 2 5 0 ([reason, version] ++ par) (raise 0x0281 (le 1 reason ++ zeros 3 ++ le 4 version) s)

/-- Start on an image that passed its checks (R125). A session opened in 1 CONFIG keeps the mask of the factory defaults:
R106 changes the masks of open sessions at a configuration apply, and start-up is none (DESIGN CHOICE, log entry 113). -/
def startOn (img : List Byte) (s : State) : State :=
  match sectionParams 7 s.cfg.maps (sectionsOf img) with
  | some p => { s with par := p, cfg := { s.cfg with defaulted := 0, defaultedBit := false, sections := sectionsOf img } }
  | none => s

/-- Migration of the CURRENT image at the first start after a firmware change (R131, R132): a check that fails gives the
reason of its step. Where a load that a host began in 1 CONFIG has taken the EMPTY slot, the former PREVIOUS slot, which
becomes EMPTY, takes the image. -/
def startMigrated (k : Nat) (s : State) : State :=
  let img := slotBytes s k
  match migrate s img, (slotOf s .empty).or (slotOf s .previous) with
  | .inr m, some e =>
    let prev := slotOf s .previous
    let roles := tput Role.empty (tput Role.empty (match prev with
      | some p => tput Role.empty (ctrl s).roles p .empty | none => (ctrl s).roles) k .previous) e .current
    let s := { s with cfg := { s.cfg with slots := tput [] (match prev with
      | some p => tput [] s.cfg.slots p [] | none => s.cfg.slots) e m } }
    let s := startOn m s
    let r : CtrlRec := { roles, highest := (ctrl s).highest, metering := some s.par.meter, applied := s.clk.tide }
    cfgApplied s.clk.tide (u32 m 8) 2 (putRecord r s)
  | .inl x, _ => startDefaults true x.2 (u32 img 8) s
  | .inr _, none => startDefaults true 8 (u32 img 8) s

/-- CFG_STARTUP_CHECK (R122, R125, R131): at the start of the harbourmaster firmware. -/
def startConfig (s : State) : State :=
  let s : State := { s with cfg := { s.cfg with cur := pickRecord s } }
  match slotOf s .current with
  | none => startDefaults false 1 0 s
  | some k =>
    let img := slotBytes s k
    if s.boot.fwChanged && 4 ≤ u16 img 4 && u16 img 4 ≤ 6 then startMigrated k s
    else match checkImage s [7] true 0 img with
      | none => startOn img s
      | some (_, r) => startDefaults false r (u32 img 8) s

end Sys2Proof.Machine
end

