-- ==== Sys2Proof/Machine/Pool.lean ====
section
/-! DEFINITION. Sys2Proof/Machine/Pool.lean: berths, queues and admission (chapter 13), and the feeding of host queue
windows. -/

namespace Sys2Proof.Machine

/-! ## Attachment points in the order of R32 -/

def attTwin : Nat := 14
def attRadio (die : Nat) : Nat := 15 + die
def attHm : Nat := 17
def attCluster : Nat := 18
def attHost : Nat := 19
def attLamp : Nat := 20

/-! ## Berths and queues -/

/-- Berths of a frame or record of n bytes (R419). -/
def berths (n : Nat) : Nat := 1 + (n - 224 + 255) / 256

def poolQ (s : State) (q : Nat) : PoolQueue := tget {} s.pool.queues q

def updPool (f : Pool → Pool) (s : State) : State := { s with pool := f s.pool }

def updQ (q : Nat) (f : PoolQueue → PoolQueue) (s : State) : State :=
  updPool (fun p => { p with queues := tput {} p.queues q (f (poolQ s q)) }) s

def Entry.n (e : Entry) : Nat := e.fromMin + e.fromShared

/-- Bytes of a frame with its FCS. -/
def Entry.len (e : Entry) : Nat := if e.own.isSome then e.size else e.bytes.length + 4

/-- Berths of the open transmit record of a queue window (R438). -/
def openBerths (x : QWin) : Nat := if x.txOpen then berths x.txBuf.length else 0

/-- used of a queue (R424): a transmit queue holds the open record of its window (R432). -/
def used (s : State) (q : Nat) : Nat :=
  if 144 ≤ q && q < 160 then openBerths (tget {} s.pool.qwins (q - 144)) else sumOf Entry.n (poolQ s q).entries

def qwinOf (s : State) (w : Nat) : QWin := tget {} s.pool.qwins w

def updQwin (w : Nat) (f : QWin → QWin) (s : State) : State :=
  updPool (fun p => { p with qwins := tput {} p.qwins w (f (qwinOf s w)) }) s

/-- min and max of a queue (R423, R432). -/
def qMin (s : State) (q : Nat) : Nat := if queueKind q = 0 then tget 16 s.par.pool.qMin q else 0

def qMax (s : State) (q : Nat) : Nat :=
  if queueKind q = 2 then 0
  else if queueKind q = 1 then 1024
  else if 128 ≤ q ∧ q < 144 then (qwinOf s (q - 128)).rxLimit
  else if 144 ≤ q ∧ q < 160 then 512
  else tget 65536 s.par.pool.qMax q

/-- Berths of a queue that come from its minimum and from the shared part; a transmit queue's are those of its open record. -/
def sharedUsed (s : State) (q : Nat) : Nat :=
  if 144 ≤ q && q < 160 then used s q - qMin s q else sumOf Entry.fromShared (poolQ s q).entries

def minUsed (s : State) (q : Nat) : Nat :=
  if 144 ≤ q && q < 160 then min (used s q) (qMin s q) else sumOf Entry.fromMin (poolQ s q).entries

/-- S (R423), with the minimum 16 of every data queue that has no entry in configuration. -/
def sharedSize (s : State) : Nat :=
  131072 - 4096 - minSum s.par.pool

/-- F: free shared berths; a stored frame's count once, retired berths are not counted, and open transmit records hold what exceeds
their queue's minimum (R424, R427, R431). -/
def sharedFree (s : State) : Nat :=
  sharedSize s - s.pool.retired.length - sumOf (fun x => x.2.shared) s.pool.store
    - sumOf (fun x => openBerths x.2 - qMin s (144 + x.1)) s.pool.qwins

/-- held_from of an attachment point, with the open transmit records of the hosts (R424, R438). -/
def heldFrom (s : State) (att : Nat) : Nat :=
  sumOf (fun x => if x.2.att == att then x.2.n else 0) s.pool.store
    + (if att = attHost then sumOf (fun x => openBerths x.2) s.pool.qwins else 0)

/-- The first free berth from one on; the fuel is the number of berths that are taken. -/
def nextBerth (taken : List Nat) : Nat → Nat → Nat
  | 0, b => b
  | k + 1, b => if taken.contains b then nextBerth taken k ((b + 1) % 131072) else b

/-- The berths that the free list gives to a stored frame: any that are free, which its order decides (R418, R431). -/
def pickBerths (s : State) (id n : Nat) : List Nat :=
  let taken := s.pool.links.flatMap (·.2) ++ s.pool.retired
  (List.range n).foldl (fun l i =>
    l ++ [nextBerth (taken ++ l) (taken.length + l.length) (Config.berthOf id i % 131072)]) []

/-- The stored frame that a berth belongs to (R418, R431). -/
def storedAt (s : State) (b : Nat) : Option Nat := (s.pool.links.find? fun x => x.2.contains b).map (·.1)

/-- Enters a stored frame and its berths. -/
def enterStored (id : Nat) (x : Stored) (s : State) : State :=
  updPool (fun p => { p with store := tput {} p.store id x, links := tput [] p.links id (pickBerths s id x.n) }) s

/-- POOL_PRESSURE (R428, R454). -/
def notePressure (s : State) : State :=
  let f := sharedFree s
  let z := sharedSize s
  if !s.pool.pressure && f < z / 8 then raise 0x0A81 (le 1 1 ++ zeros 3 ++ le 4 f) (updPool (fun p => { p with pressure := true }) s)
  else if s.pool.pressure && f > z / 4 then
    raise 0x0A81 (le 1 0 ++ zeros 3 ++ le 4 f) (updPool (fun p => { p with pressure := false }) s)
  else s

/-- The admission test of R424 for n berths from an attachment point, of which the frame already holds `mine`. -/
def admits (q att n : Nat) (s : State) : Bool :=
  let m := min n (qMin s q - minUsed s q)
  let sh := n - m
  queueKind q == 0 && heldFrom s att + n ≤ tget 32768 s.par.pool.pMax att && used s q + n ≤ qMax s q
    && (sh == 0 || (sharedUsed s q + sh) * 16 ≤ 2 ^ s.par.pool.alpha * sharedFree s)

/-- Puts an entry of n berths at the end of a data queue that admitted it (R421, R424). -/
def append (q n : Nat) (e : Entry) (s : State) : State :=
  let m := min n (qMin s q - minUsed s q)
  updQ q (fun x =>
    let es := x.entries ++ [{ e with fromMin := m, fromShared := n - m }]
    { x with entries := es, high := max x.high (sumOf Entry.n es) }) s

/-- Returns the berths of an entry beyond n, of the shared part first (R425). -/
def Entry.trim (n : Nat) (e : Entry) : Entry := { e with fromMin := min n e.fromMin, fromShared := n - min n e.fromMin }

/-- Trims the entry of a stored frame in a queue. -/
def trimIn (id n q : Nat) (s : State) : State :=
  updQ q (fun x => { x with entries := x.entries.map fun e => if e.id == id then e.trim n else e }) s

/-- The most shared berths that a queue holds of a stored frame: they leave the shared part once (R427). -/
def sharedOf (s : State) (id : Nat) (qs : List Nat) : Nat :=
  qs.foldl (fun a q => max a (sumOf (fun e => if e.id == id then e.fromShared else 0) (poolQ s q).entries)) 0

/-- Admits an entry stored once to the queues that admit it (R424 to R428): `check` berths are asked for and taken at its first
byte, and at its end those beyond `n` are returned; `mk` gives a queue's entry, `hd` what the frame header holds (R419); answers
how many queues hold it. -/
def admitAll (qs : List Nat) (att check n : Nat) (mk : Nat → Entry) (s : State) (hd : Stored := {}) : Nat × State :=
  let id := s.pool.ids
  let r := qs.foldl (fun (r : List Nat × State) q =>
    if admits q att check s then (q :: r.1, count 30 0 (append q check { mk q with id } r.2))
    else (r.1, count 30 1 (updQ q (fun x => { x with refused := x.refused + 1 }) r.2))) ([], s)
  let k := r.1.length
  if k = 0 then (0, r.2)
  else
    let enter (n : Nat) (s : State) : State :=
      notePressure (enterStored id { hd with att, n, refs := k, shared := sharedOf s id r.1 } s)
    let s := enter check (updPool (fun p => { p with ids := id + 1 }) r.2)
    (k, if n < check then enter n (r.1.foldl (fun s q => trimIn id n q s) (updPool (fun p => { p with links := terase p.links id }) s)) else s)

/-- Frees an entry that left its queue: the stored bytes go with the last queue that held them (R427). -/
def free (e : Entry) (s : State) : State :=
  let x := tget ({} : Stored) s.pool.store e.id
  let p := if x.refs ≤ 1 then { s.pool with store := terase s.pool.store e.id, links := terase s.pool.links e.id }
    else { s.pool with store := tput {} s.pool.store e.id { x with refs := x.refs - 1 } }
  notePressure { s with pool := p }

/-- Releases the head entry of a queue. -/
def dropHead (q : Nat) (s : State) : State :=
  match (poolQ s q).entries with
  | [] => s
  | e :: r => free e (updQ q (fun x => { x with entries := r }) s)

/-- Releases every entry of a queue. -/
def clearQ (q : Nat) (s : State) : State :=
  let es := (poolQ s q).entries
  es.foldl (fun s e => free e s) (updQ q (fun x => { x with entries := [] }) s)

/-- The entry's berths show an uncorrected error (R431). -/
def isBad (s : State) (e : Entry) : Bool := (tget ({} : Stored) s.pool.store e.id).bad

/-! ## Lighter channels -/

def ltOf (s : State) (n : Nat) : Lighter := tget {} s.pool.lighters n

def updLt (n : Nat) (f : Lighter → Lighter) (s : State) : State :=
  updPool (fun p => { p with lighters := tput {} p.lighters n (f (ltOf s n)) }) s

/-- A grant and its burst of k bytes: the channel goes to the end of the round (R443). -/
def countBurst (n k : Nat) (s : State) : State :=
  let s := updPool (fun p => { p with order := p.order.filter (· != n) ++ [n], rrHost := n < 8 }) s
  count 30 13 (updLt n (fun c => { c with bursts := c.bursts + 1, bytes := (c.bytes + k) % 2 ^ 64 }) s)

/-- The bursts of up to 256 bytes that move n bytes over an internal channel (R443). -/
def countBursts (ch n : Nat) (s : State) : State :=
  (List.range ((n + 255) / 256)).foldl (fun s i => countBurst ch (min 256 (n - 256 * i)) s) s

/-- An internal channel met an uncorrected error in a record: code 6, and the channel goes on (R431, R440, R454). -/
def innerError (n : Nat) (s : State) : State :=
  raise 0x0A82 (le 1 n ++ le 1 6 ++ le 2 0xFFFF) (count 30 14 (updLt n (fun c => { c with error := true, code := 6 }) s))

/-! ## Error correction -/

/-- Retires a berth (R431). -/
def retire (b : Nat) (s : State) : State :=
  if s.pool.retired.contains b then s
  else if s.pool.retired.length ≥ 1024 then logIt 0x0A 20 6 0 [b] s
  else notePressure (count 30 6 (updPool (fun p => { p with retired := p.retired ++ [b], eccNow := true }) s))

/-- A berth shows an uncorrected error: it is counted, and the second one retires the berth (R431). -/
def showBad (b : Nat) (s : State) : State :=
  let s := count 30 5 (updPool (fun p => { p with eccUncorrected := p.eccUncorrected + 1, eccNow := true }) s)
  if s.pool.suspect.contains b then retire b s else updPool (fun p => { p with suspect := p.suspect ++ [b] }) s

/-- The berth of a place in a stored frame. -/
def berthAt (s : State) (id i : Nat) : Option Nat := (tget [] s.pool.links id)[i]?

/-! ## Control queues -/

/-- Berths of the control reserve in use (R422). -/
def ctrlUsed (s : State) : Nat := sumOf (fun q => used s q) ((List.range 16).map (· + 112))

/-- The place of the most recent entry of the lowest priority below the named one (R422). -/
def weakest (es : List Entry) (prio : Nat) : Option Nat :=
  match es.map (·.prio) with
  | [] => none
  | x :: xs =>
    let m := xs.foldl min x
    if m < prio then some m else none

def ctrlFits (q n : Nat) (s : State) : Bool := used s q + n ≤ 1024 && ctrlUsed s + n ≤ 4096

/-- Displaces entries until one of n berths fits; the fuel is the number of entries held (R422). -/
def displace (q n prio : Nat) : Nat → State → State
  | 0, s => s
  | k + 1, s =>
    if ctrlFits q n s then s
    else
      let es := (poolQ s q).entries
      match weakest es prio with
      | none => s
      | some m =>
        match es.reverse.find? fun e => e.prio == m with
        | none => s
        | some e =>
          displace q n prio k (count 30 7 (free e (updQ q (fun x =>
            { x with entries := dropLastSuch (fun y => y.prio == m) es }) s)))

/-- The attachment point whose entries a control queue holds (R32, R420). -/
def ctrlAtt (q : Nat) : Nat := if q = 115 then attTwin else if q = 116 then attCluster else attHm

/-- Enqueues n berths in a control queue (R421, R422); answers whether they are held. -/
def enqueueBerths (q prio n : Nat) (bytes : List Byte) (s : State) : Bool × State :=
  let s := displace q n prio (poolQ s q).entries.length s
  if ctrlFits q n s then
    let id := s.pool.ids
    let e : Entry := { id, fromMin := n, prio, bytes }
    let s := updQ q (fun x => { x with entries := x.entries ++ [e], high := max x.high (sumOf Entry.n x.entries + n) }) s
    (true, enterStored id { att := ctrlAtt q, n, refs := 1 } (updPool (fun p => { p with ids := id + 1 }) s))
  else (false, count 30 1 (count 30 8 (updQ q (fun x => { x with refused := x.refused + 1 }) s)))

def enqueueCtrl (q prio : Nat) (bytes : List Byte) (s : State) : Bool × State := enqueueBerths q prio (berths bytes.length) bytes s

/-- The entry that leaves a control queue next: the highest priority, then arrival order (R421). -/
def ctrlHead (s : State) (q : Nat) : Option Entry :=
  (poolQ s q).entries.foldl (fun o e => match o with
    | none => some e
    | some x => if e.prio > x.prio then some e else o) none

/-- Takes the next entry from a control queue. -/
def takeCtrl (q : Nat) (s : State) : Option Entry × State :=
  match ctrlHead s q with
  | none => (none, s)
  | some e => (some e, free e (updQ q (fun x => { x with entries := x.entries.erase e }) s))

/-- Entries that pass through a control queue on their way: the block at its end takes the entry that leaves next (R421). -/
def passCtrl (q prio n : Nat) (bytes : List Byte) (s : State) : Option Entry × State :=
  let r := enqueueBerths q prio n bytes s
  if r.1 then takeCtrl q r.2 else (none, r.2)

/-- What the radio control queue of a die holds for the transmission that follows at once: an EB, an out-of-tide horn (R420, R421);
answers whether the queue takes it. -/
def passRadioCtrl (die : Nat) (bytes : List Byte) (s : State) : Bool × State :=
  let id := s.pool.ids
  let r := enqueueCtrl (112 + die) 255 bytes s
  match (poolQ r.2 (112 + die)).entries.find? (·.id == id) with
  | some e => if r.1 then (true, free e (updQ (112 + die) (fun x => { x with entries := x.entries.erase e }) r.2)) else r
  | none => r

/-- A frame to the twin link passes control queue 114 (R32, R420; the priority of a frame that is no claim frame is open, log
entry 112). -/
def twinSend (prio : Nat) (b : List Byte) (s : State) : State :=
  let r := passCtrl 114 prio (berths b.length) b s
  match r.1 with | some e => emit (.twin e.bytes) r.2 | none => r.2

/-- An entry passes a data queue that its consumer empties at once (R420, R424): it is admitted, or refused and counted. -/
def passData (q att n : Nat) (s : State) : Bool × State :=
  let r := admitAll [q] att n n (fun _ => {}) s
  if r.1 = 0 then (false, r.2)
  else match (poolQ r.2 q).entries.getLast? with
    | some e => (true, free e (updQ q (fun x => { x with entries := x.entries.dropLast }) r.2))
    | none => (true, r.2)

/-! ## Frame ports and the frames that the module sends of its own -/

def portOf (s : State) (p : Nat) : Port := tget {} s.ports.port p

def updPorts (f : Ports → Ports) (s : State) : State := { s with ports := f s.ports }

def updPort (p : Nat) (f : Port → Port) (s : State) : State :=
  updPorts (fun x => { x with port := tput {} x.port p (f (portOf s p)) }) s

def allPorts : List Nat := List.range 14

def egressQ (p c : Nat) : Nat := 8 * p + c

/-! ## Counters (R411, R412) -/

/-- Adds to counter i + 1 of a port and notes a change of its most significant bit. -/
def countP (p i n : Nat) (s : State) : State :=
  let g := 16 + p
  let top (s : State) := (tget 0 (stat s g).total i).testBit (statWidth g i - 1)
  let t := countN g i n s
  if top s == top t then t else updPort p (fun x => { x with crossed := x.crossed ||| (1 <<< i) }) t

/-- The size counter of a frame of n bytes, from the first of the seven. -/
def sizeBin (n : Nat) : Nat :=
  if n ≤ 64 then 0 else if n ≤ 127 then 1 else if n ≤ 255 then 2 else if n ≤ 511 then 3 else if n ≤ 1023 then 4
  else if n ≤ 1518 then 5 else 6

/-- 0 unicast, 1 multicast, 2 broadcast. -/
def castOf (mac : Nat) : Nat := if mac = 2 ^ 48 - 1 then 2 else if mac.testBit 40 then 1 else 0

/-- Maximum frame of a port (R387). -/
def maxFrame (s : State) (p : Nat) : Nat := if p < 10 then tget 1522 s.par.ports.maxFrame p else 1522

/-- The port is held silent on the tender (R397). -/
def silent (s : State) (p : Nat) : Bool := p ≥ 10 && s.sys.tender

/-- The VLAN of the module's own frames on a port, and whether it leaves tagged there (R398, R399). -/
def ownVid (s : State) (p : Nat) (o : Output) : Nat :=
  match o with | .raps _ _ vid _ => vid | _ => tget 1 s.par.ports.pvid p

def ownTagged (s : State) (p : Nat) (o : Output) : Bool := (tget 0 s.par.ports.tagged (ownVid s p o)).getLsbD p

/-- A frame of the module's own goes to the egress queue of its class (R389, R393, R402, R410): size is its bytes with the
FCS, ts its timestamp request; answers whether it is queued. -/
def ownQueued (att p c size : Nat) (ts : Option (Option Nat × Nat)) (o : Output) (s : State) : Bool × State :=
  if silent s p then (false, s)
  else if !(portOf s p).up || size > maxFrame s p then (false, countP p 32 1 s)
  else
    let n := berths size
    let r := admitAll [egressQ p c] att n n (fun _ => { own := some o, size, ts }) s { vid := ownVid s p o, cls := c }
    (r.1 != 0, r.2)

def ownFrame (p c size : Nat) (ts : Option (Option Nat × Nat)) (o : Output) (s : State) : State := (ownQueued attHm p c size ts o s).2

/-- Bytes of a frame with the FCS that carries a UDP datagram of n bytes over IPv4, tagged where the port's VLAN leaves it
tagged (R398, worked example of chapter 12). -/
def udpSize (s : State) (p n : Nat) : Nat :=
  max 64 (n + 46) + (if (tget 0 s.par.ports.tagged (tget 1 s.par.ports.pvid p)).getLsbD p then 4 else 0)

/-- Sends a UDP datagram to a vehicle from its field port in class 6 (R402): it comes from the cluster through its transmit queue
(R32, R420). -/
def sendDatagram (v p addr udp : Nat) (b : List Byte) (s : State) : State :=
  let r := passData 190 attCluster (berths b.length) s
  if r.1 then (ownQueued attCluster p 6 (udpSize s p b.length) none (.datagram v p addr udp b) r.2).2 else r.2

/-! ## Records to host queue windows -/

/-- The session that owns a queue window is the named one (R432). -/
def ownsQwin (s : State) (w sid : Nat) : Bool :=
  match (qwinOf s w).owner with | some x => x.2 == sid | none => false

/-- A session in a window owns the queue window. -/
def winOwnsQwin (s : State) (w q : Nat) : Bool := q < 16 && ownsQwin s q (callerSid s w)

/-- Counts a record dropped at a queue window (R433, R434, R450, R454). -/
def qwDrop (w : Nat) (s : State) : State :=
  count 30 9 (updQwin w (fun x => { x with lost := true, rxDropped := x.rxDropped + 1, drops := x.drops + 1 }) s)

/-- Feeds a complete record of n berths, for which `check` are asked, to a queue window: held or dropped whole (R433). Answers
whether it is held. -/
def feedIn (w kind att check n : Nat) (hd : Stored) (bytes : List Byte) (s : State) : Bool × State :=
  if (qwinOf s w).owner.isNone then (false, s)
  else
    let r := admitAll [128 + w] att check n (fun _ => { kind, bytes }) s hd
    if r.1 = 0 then (false, qwDrop w r.2) else (true, r.2)

def feed (w kind att : Nat) (bytes : List Byte) (s : State) : Bool × State :=
  feedIn w kind att (berths bytes.length) (berths bytes.length) {} bytes s

end Sys2Proof.Machine
end

