-- ==== Sys2Proof/Machine/Rtc.lean ====
section
/-! DEFINITION. Sys2Proof/Machine/Rtc.lean: the real-time clock and its calendar (chapter 06). -/

namespace Sys2Proof.Machine

/-- Seconds between the PTP epoch and RTC zero (R174). -/
def rtcEpoch : Nat := 946684800

/-- Year, month and day of a count of days from 2000-01-01 by the Gregorian rules (R178), reckoned in years that begin
on 1 March, of which day 730,425 is 2000-01-01. -/
def civil (days : Nat) : Nat × Nat × Nat :=
  let z := days + 730425
  let doe := z % 146097
  let yoe := (doe - doe / 1460 + doe / 36524 - doe / 146096) / 365
  let doy := doe - (365 * yoe + yoe / 4 - yoe / 100)
  let mp := (5 * doy + 2) / 153
  let m := if mp < 10 then mp + 3 else mp - 9
  (yoe + z / 146097 * 400 + (if m ≤ 2 then 1 else 0), m, doy - (153 * mp + 2) / 5 + 1)

/-- Days from 2000-01-01 of a date from 2000 on (R178, R187). -/
def daysOf (y m d : Nat) : Nat :=
  let yy := if m ≤ 2 then y - 1 else y
  let yoe := yy % 400
  let doy := (153 * (if m > 2 then m - 3 else m + 9) + 2) / 5 + d - 1
  yy / 400 * 146097 + yoe * 365 + yoe / 4 - yoe / 100 + doy - 730425

/-- UTC_OFS as a number (R182). -/
def utcOfs (r : Rtc) : Int := signed 2 r.ofs.toNat

/-- CAL_DATE and CAL_TIME of RTC seconds and an offset (R178, R179, R183). -/
def calWords (sec : Nat) (ofs : Int) : Nat × Nat :=
  let utc : Int := (sec : Int) - ofs
  if utc < 0 || utc ≥ 146097 * 86400 then (0, 0)
  else
    let u := utc.toNat
    let days := u / 86400
    let t := u % 86400
    let c := civil days
    (c.1 + c.2.1 * 2 ^ 12 + c.2.2 * 2 ^ 16 + ((days + 5) % 7 + 1) * 2 ^ 21 + 2 ^ 31,
     t / 3600 + t / 60 % 60 * 2 ^ 8 + t % 60 * 2 ^ 16)

/-- DISCIPLINED: the time unit is LOCKED (R177, R184). -/
def disciplined (s : State) : Bool := s.time.st == 2

/-- The fraction runs on to n oscillator cycles since the last second rollover, each of 2^17: it never runs back, and holds
at 0xFFFE_0000 until the rollover (R175, R177; log entry 50). -/
def rtcRun (n : Nat) (r : Rtc) : Rtc :=
  { r with frac := BitVec.ofNat 32 (max r.frac.toNat (min n 32767 * 2 ^ 17)) }

/-- RTC time in ns (R174). -/
def rtcNs (r : Rtc) : Nat := r.sec * 1000000000 + r.frac.toNat * 1000000000 / 2 ^ 32

/-- The five words of the freeze group (R182). -/
def rtcGroup (r : Rtc) : List Word :=
  let c := calWords r.sec (utcOfs r)
  [BitVec.ofNat 32 (r.sec / 2 ^ 32), BitVec.ofNat 32 r.sec, BitVec.ofNat 32 c.1, BitVec.ofNat 32 c.2, r.frac]

def stageOf (s : State) (o : Nat) : RtcStage := tget {} s.rtc.stage o

def updStage (o : Nat) (f : RtcStage → RtcStage) (s : State) : State :=
  { s with rtc := { s.rtc with stage := tput {} s.rtc.stage o (f (stageOf s o)) } }

/-- RTC_CTRL of an origin (R184). -/
def rtcCtrl (s : State) (o : Nat) : Nat :=
  bit (stageOf s o).commitSec + 2 * bit (stageOf s o).commitCal + 256 * bit (disciplined s)

/-- The staged date and time are possible (R188). -/
def calendarOk (date time : Nat) : Bool :=
  let y := date % 2 ^ 12
  let m := date / 2 ^ 12 % 16
  let d := date / 2 ^ 16 % 32
  let leap := (y % 4 == 0 && y % 100 != 0) || y % 400 == 0
  let dim := [31, if leap then 29 else 28, 31, 30, 31, 30, 31, 31, 30, 31, 30, 31]
  2000 ≤ y && y ≤ 2399 && 1 ≤ m && m ≤ 12 && 1 ≤ d && d ≤ dim.getD (m - 1) 0 &&
    time % 32 ≤ 23 && time / 2 ^ 8 % 64 ≤ 59 && time / 2 ^ 16 % 64 ≤ 59 &&
    date / 2 ^ 24 % 128 == 0 && time / 2 ^ 5 % 8 == 0 && time / 2 ^ 14 % 4 == 0 && time / 2 ^ 22 == 0

/-- UTC seconds from 2000-01-01 of a possible date and time (R187). -/
def calendarSec (date time : Nat) : Int :=
  (daysOf (date % 2 ^ 12) (date / 2 ^ 12 % 16) (date / 2 ^ 16 % 32) * 86400 + time % 32 * 3600
    + time / 2 ^ 8 % 64 * 60 + time / 2 ^ 16 % 64 : Nat)

/-- The resulting seconds value lies within 48 bits (R188). -/
def inRange (v : Int) : Bool := 0 ≤ v && v < 2 ^ 48

/-- A commit waits: it replaces the waiting one of its own origin, and cancels a waiting RTC_SET (R187, R191). -/
def replaceCommit (c : Commit) (s : State) : State :=
  let old := (s.rtc.commits.find? fun x => x.origin == 0).bind (·.job)
  finishOpt old stCANCELLED { s with rtc := { s.rtc with
    commits := s.rtc.commits.filter (fun x => x.origin != c.origin && x.origin != 0) ++ [c] } }

/-- A write of the commit bits of RTC_CTRL (R184, R187, R188): it replaces the origin's waiting commit, whose bit stays 1 until
the load. -/
def commitWrite (o : Origin) (sec cal : Bool) (s : State) : State :=
  if !hostUp s || o == .tls || disciplined s || sec == cal then s
  else
    let k := originCode o
    let g := stageOf s k
    let v : Int := if sec then ((g.secHi.toNat % 2 ^ 16 * 2 ^ 32 + g.secLo.toNat : Nat) : Int)
      else calendarSec g.date.toNat g.time.toNat
    if cal && !calendarOk g.date.toNat g.time.toNat then s
    else if !inRange (if cal then v + utcOfs s.rtc else v) then s
    else updStage k (fun g => { g with commitSec := g.commitSec || sec, commitCal := g.commitCal || cal })
      (replaceCommit { origin := k, cal, value := v } s)

/-- COMMIT_SEC (R184, R187, R188). -/
def execCommitSec (o : Origin) (s : State) : Res := doneIn [.host, .rtc, .log, .out] s (commitWrite o true false s)

/-- COMMIT_CAL (R184, R187, R188). -/
def execCommitCal (o : Origin) (s : State) : Res := doneIn [.host, .rtc, .log, .out] s (commitWrite o false true s)

/-- The test of an armed offset change against a seconds value (R180). -/
def utcChange (sec : Nat) (r : Rtc) : Rtc :=
  if r.armed && sec ≥ r.at_ then { r with ofs := r.next, armed := false } else r

/-- Commits are left to wait; the commit bits of every other origin clear (R187). -/
def leaveCommits (l : List Commit) (s : State) : State :=
  let stage := s.rtc.stage.map fun x =>
    if l.any (fun c => c.origin == x.1) then x else (x.1, { x.2 with commitSec := false, commitCal := false })
  { s with rtc := { s.rtc with commits := l, stage := stage.filter fun x => x.2 != {} } }

/-- The seconds take a value at a second rollover: the fraction is 0, and an armed offset change is tested (R175, R177, R180,
R187). -/
def rtcTake (sec : Nat) (r : Rtc) : Rtc := utcChange sec { r with sec, frac := 0 }

/-- RTC_SECOND_ROLLOVER (R175, R180, R187, R188, R191): the divider rolls over, which it does not while DISCIPLINED is 1
(R177). young: as many of the commits written last were written less than a full oscillator cycle before, and wait for the
next rollover. Of the others the one written last loads; a voided one has no effect. -/
def execRtcSecondRollover (young : Nat) (s : State) : Res :=
  doneIn [.host, .rtc, .log, .out] s (
    if disciplined s then s
    else
      let sec := (s.rtc.sec + 1) % 2 ^ 48
      let l := s.rtc.commits.filter fun c => !c.void_
      let due := l.take (l.length - young)
      let s := leaveCommits (l.drop (l.length - young)) s
      match due.getLast? with
      | none => { s with rtc := rtcTake sec s.rtc }
      | some c =>
        let r := utcChange sec s.rtc
        let v := ((if c.cal then c.value + utcOfs r else c.value) % (2 ^ 48 : Nat)).toNat
        finishOpt c.job stOK { s with rtc := rtcTake v r })

/-- RTC seconds of module time in ns (R174). -/
def rtcOfNs (ns : Int) : Nat := ((ns / 1000000000 - rtcEpoch) % (2 ^ 48 : Nat)).toNat

/-- Module time in ns at the start of the tide (R66, R136). -/
def tideStart (s : State) : Int := ((s.clk.tide * 10000000 : Nat) : Int) + s.clk.ofs

/-- RTC_DISCIPLINE_LOAD (R66, R177, R180, R188): the load at the whole second of module time that falls dt ns after the edge
of this tide. -/
def execRtcDisciplineLoad (dt : Nat) (s : State) : Res :=
  doneIn [.rtc] s (
    let t := tideStart s + dt
    if !disciplined s || t % 1000000000 != 0 then s
    else leaveCommits [] { s with rtc := rtcTake (rtcOfNs t) s.rtc })

/-- DISCIPLINED becomes 1: commits that wait have no effect, and a waiting RTC_SET ends with STATE (R188, R191). -/
def rtcDisciplined (s : State) : State :=
  s.rtc.commits.foldl (fun s c => finishOpt c.job stSTATE s)
    { s with rtc := { s.rtc with commits := s.rtc.commits.map fun c => { c with job := none, void_ := true } } }

/-- BATTERY_DOMAIN_POWER_UP (R40, R176): the registers take their reset values when the battery domain powers up while the
main domain, which otherwise supplies it, is without supply; the loss instant, the battery log and its scales are of the
battery domain too (R502, R504, R506). -/
def execBatteryDomainPowerUp (s : State) : Res :=
  doneIn [.rtc, .meter] s (
    if s.sys.kind = 0 then
      { s with rtc := {}, meter := { s.meter with loss := none, run := none, log := [], overwritten := 0, fresh := 0, batScales := [] } }
    else s)

/-- RTC_STATUS (R191). -/
def rtcStatusF (cycles w : Nat) (_ : List Byte) (s : State) : State :=
  let r := s.rtc
  let o := callerOrigin s w
  ok w ((rtcGroup (rtcRun cycles r)).flatMap (fun x => le 4 x.toNat) ++ le 4 r.ofs.toNat ++ le 4 r.next.toNat ++ le 4 r.at_
    ++ le 4 (r.at_ / 2 ^ 32 + 2 ^ 31 * bit r.armed) ++ le 4 (if o == 4 then 0 else rtcCtrl s o)) s

/-- RTC_STATUS, taken a number of oscillator cycles after the last second rollover. -/
def execRtcStatus (w cycles : Nat) (s : State) : Res := answered s (onCmd w 0x0303 anyPayload (rtcStatusF cycles w) s)

/-- Fields of RTC_SET that its mode does not use are zero (R191). -/
def rtcSetBad (p : List Byte) : Bool :=
  u8 p 0 > 1 || (u8 p 0 == 0 && (u64 p 12 != 0)) || (u8 p 0 == 1 && u64 p 4 != 0)

/-- RTC_SET (R187, R188, R191). -/
def rtcSetF (w : Nat) (p : List Byte) (s : State) : State :=
  let cal := u8 p 0 == 1
  let v : Int := if cal then calendarSec (u32 p 12) (u32 p 16) else ((u32 p 4 * 2 ^ 32 + u32 p 8 : Nat) : Int)
  if disciplined s then refuse w stSTATE s
  else if (cal && !calendarOk (u32 p 12) (u32 p 16)) || !inRange (if cal then v + utcOfs s.rtc else v) then
    refuse w stFIELD s
  else
    let j := jobOf w s
    replaceCommit { origin := 0, cal, value := v, job := some j } (respond w stACCEPTED [] s)

def execRtcSet (w : Nat) (s : State) : Res := doneIn [.host, .rtc, .log, .out] s (onCmd w 0x0346 rtcSetBad (rtcSetF w) s)

/-- RTC_UTC_SET (R181, R191). -/
def rtcUtcSetF (w : Nat) (p : List Byte) (s : State) : State :=
  ok w [] { s with rtc := { s.rtc with ofs := BitVec.ofNat 16 (u16 p 0), next := BitVec.ofNat 16 (u16 p 2),
                                       at_ := leAt p 4 6, armed := u8 p 10 == 1 } }

def execRtcUtcSet (w : Nat) (s : State) : Res := doneIn [.host, .rtc, .out] s (onCmd w 0x0347 (fun p => u8 p 10 > 1) (rtcUtcSetF w) s)

/-- The RTC second at the end of the UTC day of module time (R181). -/
def endOfUtcDay (s : State) : Nat :=
  let utc := tideStart s / 1000000000 - rtcEpoch - utcOfs s.rtc
  ((utc / 86400 + 1) * 86400 + utcOfs s.rtc).toNat

end Sys2Proof.Machine
end

