-- ==== Sys2Proof/Machine/TimeUnit.lean ====
section
/-! DEFINITION. Sys2Proof/Machine/TimeUnit.lean: sources, states, jumps, PTP ports, time outputs and the time service
(chapter 05). The correction itself stands in Machine/Edges.lean. -/

namespace Sys2Proof.Machine

/-! ## Module time and its registers -/

/-- Module time in units of 2^-32 ns, at a time after the tide edge in the same unit (R136, R66). -/
def moduleTime (s : State) (dt : Nat) : Nat :=
  (((s.clk.tide * 10000000 : Nat) : Int) + s.clk.ofs).toNat * 2 ^ 32 + dt

/-- Module time in whole ns since the PTP epoch, at a time in ns after the tide edge (R66, R136). -/
def nowNs (s : State) (ns : Nat) : Nat := (((s.clk.tide * 10000000 : Nat) : Int) + s.clk.ofs).toNat + ns

def srcOf (s : State) (k : Nat) : Source := tget {} s.time.sources k

def updSrc (k : Nat) (f : Source → Source) (s : State) : State :=
  { s with time := { s.time with sources := tput {} s.time.sources k (f (srcOf s k)) } }

/-- Priority of a source, 0 excluded (R157). -/
def prio (s : State) : Nat → Nat
  | 1 => s.par.time.prioRing
  | 2 => s.par.time.prioGnss
  | 3 => s.par.time.prioExt
  | _ => 0

/-- SNAP_STATE (R169). -/
def snapState (s : State) : Nat :=
  let t := s.time
  t.st + 8 * bit t.prov + 16 * t.src + 64 * bit t.timeQ + 128 * bit t.jump.isSome + 256 * bit t.ext10m
    + 512 * bit s.clk.correction.isSome

/-- SRC_STATUS (R169). -/
def srcStatus (s : State) : Nat :=
  [1, 2, 3].foldl (fun a k =>
    let x := srcOf s k
    a + 2 ^ (8 * k) * (bit x.valid + 2 * bit x.confirmed + 4 * bit (prio s k == 0 || x.rejected)
      + 8 * bit (k == 3 && x.unlabelled))) 0

/-- A signed number as a 32-bit word, saturating at ±(2^31 − 1) (R167). -/
def satWord (v : Int) : Word := BitVec.ofInt 32 (max (-2147483647) (min 2147483647 v))

/-- The seven words of the snapshot group at one clock (R167, R168). -/
def snapGroup (dt : Nat) (s : State) : List Word :=
  let t := moduleTime s dt
  let ns := t / 2 ^ 32
  let sec := ns / 1000000000
  [BitVec.ofNat 32 sec, BitVec.ofNat 32 (sec / 2 ^ 32 % 2 ^ 16), BitVec.ofNat 32 (ns % 1000000000),
   BitVec.ofNat 32 t, BitVec.ofNat 32 s.clk.tide, BitVec.ofNat 32 (s.clk.tide / 2 ^ 32), BitVec.ofNat 32 (snapState s)]

/-- The offset of the flagged jump, 0 where none is (R167). -/
def jumpD (s : State) : Int := match s.time.jump with | some j => j.d | none => 0

def jumpIdNow (s : State) : Nat := match s.time.jump with | some j => j.id | none => 0

/-- The words from OFFSET to REFUSE_COUNT (R167). -/
def timeWords (s : State) : List Word :=
  let t := s.time
  let d := (jumpD s % (2 ^ 64 : Nat)).toNat
  let gm (i : Nat) := BitVec.ofNat 32 ((t.gm / 2 ^ (8 * i)) % 2 ^ 32)
  [satWord t.offset, BitVec.ofNat 32 (min t.est 0xFFFFFFFF), satWord t.freq, BitVec.ofNat 32 t.holdTides,
   BitVec.ofNat 32 d, BitVec.ofNat 32 (d / 2 ^ 32), BitVec.ofNat 32 (jumpIdNow s), BitVec.ofNat 32 (srcStatus s),
   gm 0, gm 4, t.steps, t.refuses]

def ptpOf (s : State) (p : Nat) : PtpPort := tget {} s.time.ports p

def updPtp (p : Nat) (f : PtpPort → PtpPort) (s : State) : State :=
  { s with time := { s.time with ports := tput {} s.time.ports p (f (ptpOf s p)) } }

/-- The PORT block of a port (R170). -/
def portWords (p : Nat) (s : State) : List Word :=
  let x := ptpOf s p
  [BitVec.ofNat 32 (x.mode + 4 * x.st), BitVec.ofInt 32 (tget 0 s.par.time.ingress p),
   BitVec.ofInt 32 (tget 0 s.par.time.egress p), BitVec.ofInt 32 (tget 0 s.par.time.asym p),
   BitVec.ofNat 32 (if p < 2 then x.meanDelay else 0), BitVec.ofNat 32 (x.txq.length + 2 ^ 8 * x.high), x.dropped, 0]

/-! ## Sources, decisions and jumps -/

/-- A source that selection may take: valid, confirmed, not excluded and not rejected (R157, R160). -/
def eligible (s : State) (k : Nat) : Bool :=
  let x := srcOf s k
  x.valid && x.confirmed && !x.rejected && prio s k != 0

/-- The eligible source of highest priority (R157). -/
def bestSource (s : State) : Option Nat :=
  [1, 2, 3].foldl (fun (a : Option Nat) k =>
    if eligible s k then
      match a with
      | some b => if prio s k < prio s b then some k else a
      | none => some k
    else a) none

/-- State and source that take effect at the next edge (R158). -/
def toState (st src : Nat) (s : State) : State := { s with time := { s.time with next := some (st, src) } }

/-- The source selected at the next edge, or now. -/
def selected (s : State) : Nat := match s.time.next with | some x => x.2 | none => s.time.src

/-- Lowers the flag without a jump (R160). -/
def lowerFlag (s : State) : State :=
  let j := s.time.jump.bind (·.accepted)
  finishOpt j stCANCELLED { s with time := { s.time with jump := none } }

/-- Flags a jump (R159, R160, R173): in JUMP_REFUSED no source is followed, so a step that waits is dropped. A flag that stands
for the source is kept. -/
def flagJump (k : Nat) (d : Int) (reason : Nat) (s : State) : State :=
  let kept := match s.time.jump with | some j => j.src == k | none => false
  if kept then s
  else
    let s := lowerFlag s
    let id := (s.time.jumpIds + 1) % 2 ^ 32
    let s : State := { s with
      clk := { s.clk with correction := none }
      time := { s.time with jump := some { id, d, src := k }, jumpIds := id, refuses := s.time.refuses + 1, slew := 0 } }
    toState 4 0 (raise 0x0383 (le 4 id ++ le 1 k ++ le 1 reason ++ le 2 0 ++ leI 8 d) s)

/-- Why a jump is flagged (R173): the first lock, a new grandmaster, another source than before, else the return from
holdover. -/
def jumpReason (k : Nat) (s : State) : Nat :=
  if s.time.prov then 4
  else if k == 1 && s.time.newGm then 1
  else if s.time.lastSrc != 0 && s.time.lastSrc != k then 3 else 2

/-- 60 s in ns (R47, R67). -/
def minuteNs : Int := 60000000000

/-- apply(D) of R159 for a confirmed offset of a source. -/
def applyOffset (k : Nat) (d : Int) (s : State) : State :=
  let sT : Int := s.par.time.stepNs
  let jT : Int := s.par.time.jumpNs
  let n : Int := d.natAbs
  let waits := match s.time.jump with | some j => j.accepted.isSome | none => false
  if waits then s
  else if s.time.prov then
    if d ≥ -minuteNs then
      toState 1 k { (lowerFlag s) with clk := { s.clk with
        correction := some { d, cause := 3, tide := nextTide s, src := k } } }
    else flagJump k d 4 s
  else if n < sT then
    let s := lowerFlag s
    toState 2 k { s with time := { s.time with slew := d }, clk := { s.clk with correction := none } }
  else if n ≤ jT then
    let s := lowerFlag s
    let tide := match s.clk.correction with
      | some c => if c.src == k then c.tide else s.clk.tide + (if n < 10000000 then 1 else 2)
      | none => s.clk.tide + (if n < 10000000 then 1 else 2)
    toState 1 k { s with time := { s.time with slew := 0 },
                         clk := { s.clk with correction := some { d, cause := 4, tide, src := k } } }
  else flagJump k d (jumpReason k s) s

/-- Selection and decision on a confirmed offset (R157, R159, R160). -/
def decide_ (k : Nat) (s : State) : State :=
  match (srcOf s k).latest with
  | none => s
  | some d =>
    let s := if (srcOf s k).rejected && (d.natAbs : Int) ≤ s.par.time.jumpNs
      then updSrc k (fun x => { x with rejected := false }) s else s
    if !eligible s k then s
    else if selected s == k then applyOffset k d s
    else if selected s == 0 && bestSource s == some k then applyOffset k d s
    else s

/-- The median of eight values: the mean of the middle two, rounded down (log entry 20). -/
def median8 (l : List Int) : Int :=
  let ins := fun (x : Int) (acc : List Int) => (acc.filter (· ≤ x)) ++ [x] ++ (acc.filter (fun y => !(y ≤ x)))
  let o := l.foldr ins []
  (o.getD 3 0 + o.getD 4 0) / 2

def maxI (l : List Int) : Int := match l with | [] => 0 | x :: t => t.foldl max x
def minI (l : List Int) : Int := match l with | [] => 0 | x :: t => t.foldl min x

/-- A measurement of a source's offset (R156) and its decision. How the time unit steers frequency from it is not stated:
FREQ_ADJ takes a free value (log entry 1). -/
def measure (k : Nat) (d : Int) (s : State) : State :=
  let x := srcOf s k
  let ms := (d :: x.meas).take 8
  let m := median8 ms
  let conf := ms.length == 8 && ms.all fun y => 4 * (((y - m).natAbs : Nat) : Int) ≤ s.par.time.stepNs
  let x : Source := { x with valid := true, meas := ms, confirmed := conf,
                             latest := if conf then some m else x.latest,
                             spread := if conf then (maxI ms - minI ms).toNat else x.spread,
                             since := if conf && !x.confirmed then s.clk.tide else x.since }
  let s := updSrc k (fun _ => x) s
  let s : State := if selected s == k then
    draw { s with time := { s.time with offset := d, freq := signed 4 (drawn s % 2 ^ 32) } } else s
  if conf then decide_ k s else s

/-- A source becomes invalid (R157, R159 to R161). The spread of its last confirmation stays, for EST_ERROR at the entry
to HOLDOVER (R163). Before the first lock the state becomes PROVISIONAL again, since R158 has it last until the first lock,
where R157 and R160 say HOLDOVER (DESIGN CHOICE, log entry 113). -/
def invalidate (k : Nat) (s : State) : State :=
  let sel := selected s == k
  let flagged := match s.time.jump with | some j => j.src == k | none => false
  let s := updSrc k (fun x => { unlabelled := x.unlabelled, spread := x.spread }) s
  let s : State := match s.clk.correction with
    | some c => if c.src == k then { s with clk := { s.clk with correction := none } } else s
    | none => s
  let s := if flagged then lowerFlag s else s
  if sel || flagged then toState (if s.time.prov then 0 else 3) 0 s else s

/-- Subtracts an applied correction from every measurement and confirmed offset (R156). -/
def refer (d : Int) (s : State) : State :=
  { s with time := { s.time with sources := s.time.sources.map fun x =>
      (x.1, { x.2 with meas := x.2.meas.map (· - d), latest := x.2.latest.map (· - d) }) } }

/-- TIME_Q (R166). -/
def timeQ (s : State) : Bool :=
  s.sys.hmRuns && (s.time.st == 2 || (s.time.st == 3 && s.time.est ≤ s.par.time.pinLimit))

def updTimeQ (s : State) : State :=
  let q := timeQ s
  if q == s.time.timeQ then s else emit (.pin pinTimeQ q) { s with time := { s.time with timeQ := q } }

/-- EST_ERROR (R163), saturating. -/
def estError (s : State) : Nat :=
  let t := s.time
  let v := match t.st with
    | 0 => 0xFFFFFFFF
    | 1 | 2 =>
      let out := match s.clk.correction with | some c => c.d.natAbs | none => t.slew.natAbs
      out + (srcOf s t.src).spread / 2
    | _ =>
      let h := t.holdTides
      let g := if t.longLock then (100000 * h + h * h) / 1000000 else (100000 * h + h * h) / 100000
      max (t.est0 + g) t.est
  min v 0xFFFFFFFF

/-- The part of a slew applied in one tide: at most 500 ns (R45, R159). -/
def slewStep (s : State) : Int := max (-500) (min 500 s.time.slew)

/-- What the time unit does at a tide edge (R159, R163, R166, R181). At the edge that enters HOLDOVER or JUMP_REFUSED an
offset that waited for its step still is outstanding: EST_ERROR keeps its value (R163). -/
def timeAtEdge (s : State) : State :=
  let d := slewStep s
  let stays := s.time.slew == 0 && (match s.time.next with | some x => x.1 == 3 || x.1 == 4 | none => false)
  let s := refer d { s with time := { s.time with slew := s.time.slew - d } }
  let held := s.time.st == 3 || s.time.st == 4
  let s : State := { s with time := { s.time with
    lockTides := if s.time.st == 2 then s.time.lockTides + 1 else 0
    holdTides := if held then s.time.holdTides + 1 else 0 } }
  let s : State := { s with time := { s.time with est := if stays then s.time.est else estError s } }
  let s := updTimeQ s
  match s.time.parent with
  | some a =>
    if s.time.utcNew && s.time.st == 2 && s.time.src == 1 && a.utcValid then
      let r : Rtc := { s.rtc with ofs := BitVec.ofInt 16 a.utcOfs }
      let s : State := { s with rtc := r, time := { s.time with utcNew := false } }
      if a.leap61 then { s with rtc := { r with next := r.ofs + 1, at_ := endOfUtcDay s, armed := true } }
      else if a.leap59 then { s with rtc := { r with next := r.ofs - 1, at_ := endOfUtcDay s - 1, armed := true } }
      else s
    else s
  | none => s

/-- TIME_STATE_EDGE (R157, R158, R163, R166, R173): the state that waits takes effect. A change from HOLDOVER to JUMP_REFUSED
is an entry of its own: e0, t and the coefficients of R163 start afresh (DESIGN CHOICE, log entry 113). -/
def execTimeStateEdge (s : State) : Res :=
  doneIn [.clk, .host, .time, .rtc, .log, .out] s (match s.time.next with
    | none => s
    | some (st, src) =>
      let old := s.time.st
      let hold := (st == 3 || st == 4) && old != st
      let t := { s.time with st, src, next := none,
                             lastSrc := if src != 0 then src else s.time.lastSrc,
                             newGm := if st == 2 && src == 1 then false else s.time.newGm,
                             est0 := if hold then s.time.est else s.time.est0,
                             longLock := if hold then s.time.lockTides ≥ 360000 else s.time.longLock,
                             holdTides := if old == st then s.time.holdTides else 0,
                             slew := if st == 2 then s.time.slew else 0 }
      let s : State := { s with time := t }
      let s : State := { s with time := { s.time with est := estError s } }
      let s := updTimeQ s
      let s := if st == 2 then rtcDisciplined s else s
      let s := if old == st then s else
        raise 0x0382 (le 1 old ++ le 1 st ++ le 1 src ++ le 1 0 ++ le 4 s.time.est) s
      if st == 3 then
        match bestSource s with
        | some k => match (srcOf s k).latest with | some d => applyOffset k d s | none => s
        | none => s
      else s)

/-- SOURCE_HOLDOFF_EXPIRY (R157). The hold-off counts tide numbers, those that a correction skips among them (DESIGN CHOICE, log
entry 113). -/
def execSourceHoldoffExpiry (src : Nat) (s : State) : Res :=
  let x := srcOf s src
  doneIn [.clk, .host, .time, .log, .out] s (
    if selected s != 0 && selected s != src && eligible s src && prio s src < prio s (selected s)
        && s.clk.tide ≥ x.since + s.par.time.holdoff then
      match x.latest with | some d => applyOffset src d s | none => s
    else s)

/-! ## PTP on the ring and field ports -/

/-- The domain of a port's instance: the configured one for IEEE 1588-2019, 0 for IEEE 802.1AS-2020 (R139, R140). -/
def ptpDomain (s : State) (p : Nat) : Nat := if (ptpOf s p).mode == 1 then s.par.time.domain else 0

/-- The message belongs to the instance of the port: another domain's is consumed without effect. -/
def inDomain (s : State) (p d : Nat) : Bool := (ptpOf s p).mode != 0 && d == ptpDomain s p

/-- The port uses the peer delay mechanism (R139, R140). -/
def peerDelay (s : State) (p : Nat) : Bool :=
  p ≤ 9 && ((ptpOf s p).mode == 2 || ((ptpOf s p).mode == 1 && p ≤ 1 && s.par.time.p2p.getLsbD p))

/-- logSyncInterval, logAnnounceInterval and the log interval of Delay_Req or Pdelay_Req of a port: configured, else the
default of the 802.1AS instance (R140) or of the default profile of IEEE 1588-2019 (R139, log entry 21). -/
def logSyncOf (s : State) (p : Nat) : Int := (tget none s.par.time.logSync p).getD (if (ptpOf s p).mode = 2 then -3 else 0)

def logAnnounceOf (s : State) (p : Nat) : Int := (tget none s.par.time.logAnnounce p).getD (if (ptpOf s p).mode = 2 then 0 else 1)

def logDelayOf (s : State) (p : Nat) : Int := (tget none s.par.time.logDelay p).getD 0

/-- Tides of an interval of 2^i seconds. -/
def intervalTides (i : Int) : Nat := if i ≥ 0 then 100 * 2 ^ i.toNat else max 1 (100 / 2 ^ i.natAbs)

/-- Bytes of a PTP message of a type (log entry 112). -/
def ptpLen (gptp : Bool) (kind : Nat) : Nat :=
  match kind with
  | 2 | 3 | 9 | 10 => 54
  | 8 => if gptp then 76 else 44
  | 11 => if gptp then 76 else 64
  | _ => 44

/-- The port's instance sends over UDP: IEEE 1588-2019 alone, since IEEE 802.1AS-2020 knows IEEE 802.3 only (R139, R140). -/
def ptpUdp (s : State) (p : Nat) : Bool := (ptpOf s p).mode == 1 && s.par.time.udp.getLsbD p

/-- Bytes of the frame of a PTP message of a type on a port, with its FCS. -/
def ptpSize (s : State) (p kind : Nat) : Nat :=
  max 64 (ptpLen ((ptpOf s p).mode == 2) kind + if ptpUdp s p then 46 else 18)

/-- The sourcePortIdentity of a port: the clockIdentity and a portNumber, which IEEE 1588-2019 counts from 1 (R138, R143; log
entry 21). -/
def portIdentity (s : State) (p : Nat) : Nat := s.par.time.clockId * 65536 + (p + 1)

/-- A PTP message of a type: its domain, its transport (1 UDP over IPv4), its sequence number, its logMessageInterval, its
sourcePortIdentity, and what the type carries (R139). -/
def ptpMsg (s : State) (p kind seq : Nat) (log : Int) (fields : List Nat) : Output :=
  .ptp p kind ([ptpDomain s p, bit (ptpUdp s p), seq, (log % 256).toNat, portIdentity s p] ++ fields)

/-- Sends a PTP message of a type in class 7 (R389, R402); an event message asks for its egress timestamp (R145). -/
def ptpSend (p kind seq : Nat) (log : Int) (fields : List Nat) (s : State) : State :=
  let ts := if kind ≤ 3 then some (none, seq) else none
  ownFrame p 7 (ptpSize s p kind) ts (ptpMsg s p kind seq log fields) s

/-- A frame sent with a timestamp request produces an egress timestamp (R145). -/
def askStamp (p : Nat) (e : TxEntry) (s : State) : State := updPtp p (fun x => { x with asked := x.asked ++ [e] }) s

/-- A correction field as its 64 bits. -/
def corr64 (c : Int) : Nat := (c % (2 ^ 64 : Nat)).toNat

/-- The correction field of a request, which takes off the port's delayAsymmetry (R147). -/
def requestCorr (s : State) (p : Nat) : Nat := corr64 (-(tget 0 s.par.time.asym p))

/-- Sends a Delay_Req (1) or a Pdelay_Req (2) where the interval since the last one has passed (R139, R140). -/
def ptpRequest (kind p : Nat) (s : State) : State :=
  let x := ptpOf s p
  let due := match x.reqTide with | none => true | some t => t + intervalTides (logDelayOf s p) ≤ s.clk.tide
  if !due then s
  else
    let q := (x.reqSeq + 1) % 65536
    ptpSend p kind q 0x7F [requestCorr s p]
      (updPtp p (fun x => { x with reqSeq := q, reqTide := some s.clk.tide, reqStamp := none, pdResp := none }) s)

/-- Pdelay_Req of every port that uses peer delay. -/
def peerRequests (s : State) : State := each (List.range 10) (fun p s => if peerDelay s p then ptpRequest 2 p s else s) s

/-- A time stamp with a correction, in units of 2^-16 ns (R147). -/
def stamp16 (x : Stamp) (corr : Int) : Int := ((x.sec * 1000000000 + x.ns : Nat) : Int) * 65536 + corr

/-- A mean delay from twice its value in units of 2^-16 ns, as whole ns; a negative one reads 0 (R139, R170; log entry
21). -/
def setDelay (p : Nat) (twice : Int) (s : State) : State := updPtp p (fun x => { x with meanDelay := (twice / 131072).toNat }) s

/-- A data set is better than another: lower values first, in the order of the best master clock algorithm
(R139, log entry 21). -/
def betterThan (a b : Announce) : Bool :=
  let l (x : Announce) := [x.priority1, x.clockClass, x.accuracy, x.variance, x.priority2, x.gm, x.stepsRemoved, x.source]
  match (List.zip (l a) (l b)).find? fun y => y.1 != y.2 with
  | some y => y.1 < y.2
  | none => false

/-- The grandmaster data that the module announces of itself (R143, R144). -/
def ownAnnounce (s : State) : Announce :=
  let t := s.time
  let cls := match t.st with
    | 2 => 6
    | 3 => if t.est ≤ 10000 then 7 else 187
    | 4 => 187
    | _ => 248
  let ts := if t.st == 2 && t.src == 2 then 0x20 else if t.st == 2 && t.src == 3 then 0x90 else 0xA0
  { gm := s.par.time.clockId, priority1 := s.par.time.priority1, clockClass := cls, accuracy := Config.clockAccuracy,
    variance := Config.clockVariance,
    priority2 := s.par.time.priority2, stepsRemoved := 0, source := s.par.time.clockId, timeSource := ts,
    utcOfs := utcOfs s.rtc, utcValid := true, leap61 := false, leap59 := false }

/-- What the field and cabinet ports announce (R143, R144). -/
def announced (s : State) : Announce :=
  match s.time.parent with
  | some a => if s.time.st == 2 && s.time.src == 1 then { a with stepsRemoved := a.stepsRemoved + 1 } else ownAnnounce s
  | none => ownAnnounce s

/-- A foreign master is qualified: after two Announces for IEEE 1588-2019, which IEEE 802.1AS-2020 does not ask for
(R139, R140). -/
def isQualified (mode : Nat) (f : ForeignMaster) : Bool := f.heard ≥ 2 || (mode == 2 && f.heard ≥ 1)

/-- The best qualified foreign master of a ring port (R139). -/
def qualified (s : State) (p : Nat) : Option Announce :=
  let x := ptpOf s p
  (x.foreign.filter (isQualified x.mode)).foldl (fun (a : Option Announce) f =>
    match a with
    | some b => if betterThan f.announce b then some f.announce else a
    | none => some f.announce) none

/-- The record of a foreign master (R139). -/
def heardOf (s : State) (p src : Nat) : Option ForeignMaster := (ptpOf s p).foreign.find? fun f => f.announce.source == src

/-- A record is kept: it is that of the port's qualified master, whose silence ANNOUNCE_RECEIPT_TIMEOUT tells, or its last
Announce is no older than four announce intervals, the window of IEEE 1588-2019 (PRESUMED, log entry 21). -/
def keepMaster (s : State) (p : Nat) (f : ForeignMaster) : Bool :=
  (qualified s p).any (fun a => a.source == f.announce.source) || s.clk.ran ≤ f.ran + 4 * intervalTides (logAnnounceOf s p)

/-- An Announce counts in its master's record (R139). -/
def hearMaster (p : Nat) (a : Announce) (s : State) : State :=
  let n := match heardOf s p a.source with | some f => f.heard + 1 | none => 1
  let l := (ptpOf s p).foreign.filter fun f => keepMaster s p f && f.announce.source != a.source
  updPtp p (fun x => { x with foreign := { announce := a, heard := n, ran := s.clk.ran } :: l }) s

/-- The port forgets the master that it follows, or, where none is qualified, every one it has heard (R139). -/
def forgetMaster (p : Nat) (s : State) : State :=
  updPtp p (fun x => { x with foreign := match qualified s p with
    | some a => x.foreign.filter fun f => f.announce.source != a.source
    | none => [] }) s

/-- Ring ports of an instance. -/
def ringPorts (s : State) (m : Nat) : List Nat := [0, 1].filter fun p => (ptpOf s p).mode == m

/-- The module's own data set in the election: its clockClass is 248, since the worked example of chapter 05 has a module in
HOLDOVER follow the ring again, which a class below 128 would bar (log entry 21). -/
def ownSet (s : State) : Announce := { ownAnnounce s with clockClass := 248 }

/-- The ring port that hears the best master of an instance, where that master is better than the module itself (R139). -/
def slavePort (s : State) (m : Nat) : Option Nat :=
  (ringPorts s m).foldl (fun (a : Option Nat) p =>
    match qualified s p, a.bind (qualified s) with
    | some y, some x => if betterThan y x then some p else a
    | some y, none => if betterThan (ownSet s) y then a else some p
    | none, _ => a) none

/-- portState of a ring port (R139, R140): SLAVE 9 at the best master, PASSIVE 7 where another path to the same grandmaster
is heard, MASTER 6 elsewhere. -/
def ringRole (s : State) (p : Nat) : Nat :=
  match slavePort s (ptpOf s p).mode with
  | none => 6
  | some q =>
    if q == p then 9
    else match qualified s p, qualified s q with
      | some y, some x => if y.gm == x.gm && y.stepsRemoved ≤ x.stepsRemoved + 1 then 7 else 6
      | _, _ => 6

/-- The parent: where both instances have a SLAVE port, the better master (log entry 21). -/
def parentOf (s : State) : Option Announce :=
  match (slavePort s 1).bind (qualified s), (slavePort s 2).bind (qualified s) with
  | some x, some y => if betterThan y x then some y else some x
  | some x, none => some x
  | none, y => y

/-- The election of each instance on the ring ports (R139, R140). -/
def bmca (s : State) : State :=
  let was := s.time.parent
  let now := parentOf s
  let roles := [0, 1].map (ringRole s)
  let s := each [0, 1] (fun p s => if (ptpOf s p).mode == 0 then s else updPtp p (fun x => { x with st := roles.getD p 0 }) s) s
  let changed := match was, now with
    | some x, some y => x.utcOfs != y.utcOfs || x.leap61 != y.leap61 || x.leap59 != y.leap59 || x.utcValid != y.utcValid
    | _, some _ => true
    | _, none => false
  let s : State := { s with time := { s.time with parent := now, utcNew := s.time.utcNew || changed } }
  match was, now with
  | some x, some y => if x.gm != y.gm then invalidate 1 { s with time := { s.time with newGm := true, gm := y.gm } } else s
  | none, some y => { s with time := { s.time with newGm := s.time.newGm || y.gm != s.time.gm, gm := y.gm } }
  | some _, none => invalidate 1 s
  | none, none => s

/-- PTP_ANNOUNCE_RX (R139, R157, R181). -/
def execPtpAnnounceRx (port : Nat) (a : Announce) (s : State) : Res :=
  doneIn [.clk, .host, .time, .log, .out] s (
    if port > 1 || !inDomain s port a.domain then s else bmca (hearMaster port a s))

/-- ANNOUNCE_RECEIPT_TIMEOUT (R139): the port forgets its master. -/
def execAnnounceReceiptTimeout (port : Nat) (s : State) : Res :=
  doneIn [.clk, .host, .time, .log, .out] s (
    if port > 1 || (ptpOf s port).mode == 0 then s
    else bmca (forgetMaster port s))

/-- PTP_SYNC_RX (R145, R147, R153, R156): an offset measurement at each Sync of the parent, from its origin timestamp, the
mean path delay, the asymmetry and the corrected ingress timestamp; and the port's next Delay_Req. -/
def execPtpSyncRx (port : Nat) (m : SyncMsg) (s : State) : Res :=
  doneIn [.clk, .host, .stats, .time, .pool, .ports, .log, .out, .free] s (
    let x := ptpOf s port
    let own := match qualified s port, s.time.parent with | some a, some b => a.source == m.source && b.source == m.source | _, _ => false
    if port > 1 || x.st != 9 || !inDomain s port m.domain || !own then s
    else
      let c := s.par.time
      let t1 := stamp16 m.origin m.corr
      let t2 := stamp16 m.stamp (-(tget 0 c.ingress port))
      let d := (t1 + x.meanDelay * 65536 + tget 0 c.asym port - t2) / 65536
      let s := updPtp port (fun x => { x with lastSync := some (t1, t2) }) s
      measure 1 d (if peerDelay s port then s else ptpRequest 1 port s))

/-- RING_SYNC_TIMEOUT (R153, R157). -/
def execRingSyncTimeout (s : State) : Res := doneIn [.clk, .host, .time, .log, .out] s (if (srcOf s 1).valid then invalidate 1 s else s)

/-- EXT_PPS_EDGE (R153, R154, R156): the offset to the nearest whole second, and the time since the edge before. -/
def execExtPpsEdge (offset : Int) (gap : Nat) (s : State) : Res :=
  doneIn [.clk, .host, .time, .log, .out, .free] s (
    let near := offset.natAbs ≤ 250000000
    let good := 999999000 ≤ gap && gap ≤ 1000001000
    let s := updSrc 3 (fun x => { x with unlabelled := !near }) s
    if near && good then measure 3 offset s
    else if (srcOf s 3).valid then invalidate 3 s else s)

/-- EXT_PPS_LOSS (R153). -/
def execExtPpsLoss (s : State) : Res := doneIn [.clk, .host, .time, .log, .out] s (if (srcOf s 3).valid then invalidate 3 s else s)

/-- EXT_10M_ACCEPT (R41, R155): within ±2 ppm over 1 s. -/
def execExt10mAccept (ppb : Int) (s : State) : Res :=
  doneIn [.time] s (if ppb.natAbs ≤ 2000 then { s with time := { s.time with ext10m := true } } else s)

/-- EXT_10M_LOSS (R41, R155). -/
def execExt10mLoss (s : State) : Res := doneIn [.time] s { s with time := { s.time with ext10m := false } }

/-- A time stamp moved by a latency of 2^-16 ns (R147). -/
def shiftStamp (x : Stamp) (lat : Int) : Stamp :=
  let t : Int := ((x.sec * 1000000000 + x.ns : Nat) : Int) + lat / 65536
  { sec := t.toNat / 1000000000, ns := t.toNat % 1000000000 }

/-- What the answer to a delay request carries: the corrected receipt timestamp in whole ns, the port identity of the request,
and its correction less the fraction of a ns of that timestamp (R139, R147). -/
def answerFields (s : State) (p : Nat) (m : DelayReq) : List Nat :=
  let lat := -(tget 0 s.par.time.ingress p)
  let t := shiftStamp m.stamp lat
  [t.sec, t.ns, m.source, corr64 (m.corr - lat % 65536)]

/-- PTP_DELAY_REQ_RX (R139, R141, R147): a master with delay request-response answers each Delay_Req of its domain. -/
def execPtpDelayReqRx (port seq : Nat) (m : DelayReq) (s : State) : Res :=
  let x := ptpOf s port
  doneIn [.host, .stats, .pool, .ports, .out] s (
    if x.mode == 1 && x.st == 6 && !peerDelay s port && inDomain s port m.domain then
      ptpSend port 9 seq (logDelayOf s port) (answerFields s port m) s
    else s)

/-- A Pdelay_Resp or its follow-up completes an exchange with the request's egress timestamp (R139, R140, R147): twice the
mean delay is rest less that timestamp and the asymmetry. -/
def peerMeasured (p : Nat) (rest : Int) (s : State) : State :=
  match (ptpOf s p).reqStamp with
  | none => s
  | some t => setDelay p (rest - stamp16 t 0 - tget 0 s.par.time.asym p) (updPtp p (fun x => { x with reqStamp := none, pdResp := none }) s)

/-- PTP_PDELAY_RX (R139, R140): a request is answered, with a follow-up once its egress timestamp stands; a response to the
port's own request gives the mean link delay. -/
def execPtpPdelayRx (port : Nat) (m : PdelayMsg) (s : State) : Res :=
  let x := ptpOf s port
  let lat := -(tget 0 s.par.time.ingress port)
  doneIn [.host, .stats, .time, .pool, .ports, .out] s (
    if !peerDelay s port then s
    else match m with
      | .request seq q => if inDomain s port q.domain then ptpSend port 3 seq 0x7F (answerFields s port q) s else s
      | .response domain seq twoStep receipt corr stamp =>
        if seq != x.reqSeq || !inDomain s port domain then s
        else if twoStep then updPtp port (fun x => { x with pdResp := some (stamp16 receipt (-corr), stamp16 stamp lat) }) s
        else peerMeasured port (stamp16 stamp lat - corr) s
      | .followUp domain seq origin corr =>
        match x.pdResp with
        | none => s
        | some (a, t4) => if seq != x.reqSeq || !inDomain s port domain then s else peerMeasured port (t4 + a - stamp16 origin corr) s)

/-- PTP_DELAY_RESP_RX (R139, R147): the mean path delay of a ring port in SLAVE state, from the latest Sync and the port's own
Delay_Req. -/
def execPtpDelayRespRx (port seq : Nat) (m : DelayResp) (corr : Int) (s : State) : Res :=
  let x := ptpOf s port
  doneIn [.time] s (
    if port > 1 || x.mode != 1 || x.st != 9 || peerDelay s port || seq != x.reqSeq || !inDomain s port m.domain
        || m.requester != portIdentity s port then s
    else match x.lastSync, x.reqStamp with
      | some (t1, t2), some t3 =>
        setDelay port (t2 - stamp16 t3 0 + (stamp16 m.receive 0 - t1) - tget 0 s.par.time.asym port - corr)
          (updPtp port (fun x => { x with reqStamp := none }) s)
      | _, _ => s)

/-- PTP_SYNC_SEND (R139, R145): a two-step Sync of a master port; its Follow_Up leaves with the egress timestamp. -/
def execPtpSyncSend (port : Nat) (s : State) : Res :=
  let x := ptpOf s port
  doneIn [.host, .stats, .time, .pool, .ports, .out] s (
    if x.mode != 0 && x.st == 6 then
      ptpSend port 0 x.syncSeq (logSyncOf s port) []
        (updPtp port (fun x => { x with syncSeq := (x.syncSeq + 1) % 65536 }) s)
    else s)

/-- PTP_ANNOUNCE_SEND (R143, R144). -/
def execPtpAnnounceSend (port : Nat) (s : State) : Res :=
  let x := ptpOf s port
  let a := announced s
  doneIn [.host, .stats, .time, .pool, .ports, .out] s (
    if x.mode != 0 && x.st == 6 then
      ptpSend port 11 x.announceSeq (logAnnounceOf s port) [a.gm, a.priority1, a.clockClass, a.accuracy, a.variance, a.priority2,
        a.stepsRemoved, a.timeSource, (a.utcOfs % 65536).toNat, bit a.utcValid, bit a.leap61, bit a.leap59]
        (updPtp port (fun x => { x with announceSeq := (x.announceSeq + 1) % 65536 }) s)
    else s)

/-- An entry with its timestamp arrives at its queue: 24 entries for hosts, 8 for the module's own (R147 to R150, R152). -/
def queueStamp (port : Nat) (e : TxEntry) (s : State) : State :=
  let cls := ((ptpOf s port).txq.filter fun x => x.owner.isSome == e.owner.isSome).length
  if cls < (if e.owner.isSome then 24 else 8) then
    updPtp port (fun x => { x with txq := x.txq ++ [e], high := max x.high (x.txq.length + 1) }) s
  else
    let s := updPtp port (fun x => { x with dropped := x.dropped + 1 }) s
    if e.owner.isSome then
      updPtp port (fun x => { x with drops := x.drops + 1, firstId := if x.drops = 0 then e.id else x.firstId, lastId := e.id }) s
    else logIt 0x03 3 3 0 [port, e.id] s

/-- TX_TIMESTAMP_CAPTURE (R145, R147 to R150, R152): the egress timestamp of a frame sent with a request. -/
def execTxTimestampCapture (port : Nat) (owner : Option Nat) (id : Nat) (stamp : Stamp) (s : State) : Res :=
  doneIn [.time, .log] s (
    match (ptpOf s port).asked.find? fun e => e.owner == owner && e.id == id with
    | none => s
    | some e => queueStamp port { e with stamp := shiftStamp stamp (tget 0 s.par.time.egress port) }
        (updPtp port (fun x => { x with asked := x.asked.erase e }) s))

/-- TIME_TS_DROPPED of each port for the tide that ends (R152, R173). -/
def stampDrops (s : State) : State :=
  each (List.range 14) (fun p s =>
    let x := ptpOf s p
    if x.drops = 0 then s
    else raise 0x0385 (le 1 p ++ le 1 0 ++ le 2 (min x.drops 65535) ++ le 2 x.firstId ++ le 2 x.lastId)
      (updPtp p (fun x => { x with drops := 0 }) s)) s

/-- The next edge of PPS_OUT (R164): at a whole second of this tide's module time, or of what is left of it after the last
edge, and at least 500 ms after that edge. -/
def nextPps (s : State) : Int :=
  let a := match s.time.lastPps with | none => tideStart s | some l => max (tideStart s) (l + s.time.ppsCorr + 500000000)
  (a + 999999999) / 1000000000 * 1000000000

/-- PPS_OUT_EDGE (R164): PPS_OUT rises at a whole second of module time, and falls when its high time ends. -/
def execPpsOutEdge (s : State) : Res :=
  doneIn [.time, .out] s (
    if s.clk.running && nextPps s < (nextTide s * 10000000 : Nat) && (s.par.time.ppsMode == 0 || s.time.timeQ) then
      emit (.pps s.par.time.ppsWidth) { s with time := { s.time with lastPps := some (nextPps s), ppsCorr := 0 } }
    else s)

/-! ## Time service commands -/

def wordsBytes (l : List Word) : List Byte := l.flatMap fun x => le 4 x.toNat

/-- TIME_STATUS (R171). -/
def execTimeStatus (w dt : Nat) (s : State) : Res :=
  answered s (onCmd w 0x0301 anyPayload (fun _ s =>
    ok w (wordsBytes (snapGroup dt s) ++ wordsBytes ((timeWords s).take 8)) s) s)

/-- TIME_PORT_STATUS (R171). -/
def execTimePortStatus (w : Nat) (s : State) : Res :=
  answered s (onCmd w 0x0302 (fun p => u8 p 0 > 13) (fun p s => ok w (wordsBytes (portWords (u8 p 0) s)) s) s)

/-- TIME_JUMP_ACCEPT (R162, R171, R172). -/
def timeJumpAcceptF (w : Nat) (p : List Byte) (s : State) : State :=
  match s.time.jump with
  | none => refuse w stSTATE s
  | some j =>
    if u32 p 0 != j.id then refuse w stSTATE s
    else if j.d < -minuteNs then refuse w stLIMIT s
    else if j.accepted.isSome then refuse w stBUSY s
    else
      let t := s.clk.tide + 2
      let job := jobOf w s
      let c : Correction := { d := j.d, cause := if j.d ≥ 0 then 1 else 2, tide := t, src := j.src }
      respond w stACCEPTED (le 8 t) { s with time := { s.time with jump := some { j with accepted := some job } },
                                             clk := { s.clk with correction := some c } }

def execTimeJumpAccept (w : Nat) (s : State) : Res := doneIn [.clk, .host, .time, .out] s (onCmd w 0x0340 anyPayload (timeJumpAcceptF w) s)

/-- TIME_JUMP_REJECT (R160, R171): the source is excluded, and the best other source is selected. -/
def timeJumpRejectF (w : Nat) (p : List Byte) (s : State) : State :=
  match s.time.jump with
  | none => refuse w stSTATE s
  | some j =>
    if u32 p 0 != j.id then refuse w stSTATE s
    else
      let s := lowerFlag (updSrc j.src (fun x => { x with rejected := true }) s)
      let s := ok w [] { s with clk := { s.clk with correction := none } }
      let s := toState (if s.time.prov then 0 else 3) 0 s
      match bestSource s with
      | some k => match (srcOf s k).latest with | some d => applyOffset k d s | none => s
      | none => s

def execTimeJumpReject (w : Nat) (s : State) : Res := doneIn [.clk, .host, .time, .log, .out] s (onCmd w 0x0341 anyPayload (timeJumpRejectF w) s)

def timePortBad (p : List Byte) : Bool :=
  u8 p 0 > 13 || !latOk (iAt p 4 4) || !latOk (iAt p 8 4) || !latOk (iAt p 12 4)

/-- TIME_PORT_SET (R171, R172). -/
def execTimePortSet (w : Nat) (s : State) : Res :=
  doneIn [.host, .changes, .out] s (onCmd w 0x0342 timePortBad (fun p s =>
    change w (.timePort (u8 p 0) (iAt p 4 4) (iAt p 8 4) (iAt p 12 4)) s) s)

def timeSourceBad (p : List Byte) : Bool :=
  let a := u8 p 0; let b := u8 p 1; let c := u8 p 2
  a > 3 || b > 3 || c > 3 || (a == b && a != 0) || (a == c && a != 0) || (b == c && b != 0)
    || u32 p 4 < 100 || u32 p 4 > 360000

/-- TIME_SOURCE_SET (R171, R172). -/
def execTimeSourceSet (w : Nat) (s : State) : Res :=
  doneIn [.host, .changes, .out] s (onCmd w 0x0343 timeSourceBad (fun p s => change w (.timeSource (u8 p 0) (u8 p 1) (u8 p 2) (u32 p 4)) s) s)

def timeThresholdBad (p : List Byte) : Bool :=
  u32 p 0 < 50 || u32 p 0 > 100000 || u32 p 4 < u32 p 0 || u32 p 4 > 1000000000

/-- TIME_THRESHOLD_SET (R171, R172). -/
def execTimeThresholdSet (w : Nat) (s : State) : Res :=
  doneIn [.host, .changes, .out] s (onCmd w 0x0344 timeThresholdBad (fun p s => change w (.timeThreshold (u32 p 0) (u32 p 4)) s) s)

def timeOutputBad (p : List Byte) : Bool :=
  u16 p 0 == 0 || u16 p 0 > 500 || u8 p 2 > 1 || u32 p 4 < 100 || u32 p 4 > 1000000

/-- TIME_OUTPUT_SET (R171, R172). -/
def execTimeOutputSet (w : Nat) (s : State) : Res :=
  doneIn [.host, .changes, .out] s (onCmd w 0x0345 timeOutputBad (fun p s => change w (.timeOutput (u16 p 0) (u8 p 2) (u32 p 4)) s) s)

/-- A priority that changes to excluded makes the selected source invalid for selection (R129, R157). -/
def recheckSources (s : State) : State :=
  if selected s != 0 && prio s (selected s) == 0 then invalidate (selected s) s else s

/-- Takes a changed time setting (R172). -/
def applyTimeSetting (x : Setting) (s : State) : State :=
  let t := s.par.time
  match x with
  | .timePort p i e a => { s with par := { s.par with time := { t with
      ingress := tput 0 t.ingress p i, egress := tput 0 t.egress p e, asym := tput 0 t.asym p a } } }
  | .timeSource r g e h => recheckSources { s with par := { s.par with time := { t with
      prioRing := r, prioGnss := g, prioExt := e, holdoff := h } } }
  | .timeThreshold a b => { s with par := { s.par with time := { t with stepNs := a, jumpNs := b } } }
  | .timeOutput a b c => updTimeQ { s with par := { s.par with time := { t with ppsWidth := a, ppsMode := b, pinLimit := c } } }
  | _ => s

end Sys2Proof.Machine
end

