-- ==== Sys2Proof/Machine/Ports.lean ====
section
/-! DEFINITION. Sys2Proof/Machine/Ports.lean: frame ports, bridging, the ring, classification and time gates
(chapter 12), with cut-through (chapter 13). -/

namespace Sys2Proof.Machine

/-! ## Counters (R411) -/

/-- Counts a complete frame of n bytes with its FCS: from counter 1 on receipt, from 20 on transmission. -/
def countFrame (p base n mac : Nat) (s : State) : State :=
  countP p (base + 5 + sizeBin n) 1 (countP p (base + 2 + castOf mac) 1 (countP p (base + 1) 1 (countP p base n s)))

/-! ## Port settings -/

/-- Link speed in Mbit/s (R414). -/
def mbps (speed : Nat) : Nat :=
  match speed with
  | 1 => 10 | 2 => 100 | 3 => 1000 | 4 => 2500 | 5 => 10000 | _ => 1

/-- The line time of a frame of n bytes ends before a span of so many ns ends, or exceeds it (R407). -/
def lineBefore (speed n o : Nat) : Bool := (n + 20) * 8000 < o * mbps speed
def lineOver (speed n o : Nat) : Bool := (n + 20) * 8000 > o * mbps speed

/-- Line time in ns, rounded up, of a frame of n bytes with its FCS, with preamble and inter-frame gap (R407). -/
def lineNs (speed n : Nat) : Nat := ((n + 20) * 8 * 1000 + mbps speed - 1) / mbps speed

/-- Members of a VLAN (R398, R399; log entry 31): every port is a member of VLAN 1 where configuration names none, and the ring
ports are members of the R-APS control VLAN. -/
def membersOf (s : State) (v : Nat) : BitVec 14 :=
  tget (if v = 1 then 0x3FFF else 0) s.par.ports.members v ||| (if v = s.par.ports.controlVlan then 3 else 0)

def plcaOf (s : State) (p : Nat) : PlcaPar := ((portOf s p).plca).getD (tget {} s.par.ports.plca p)

/-- CSMA/CD is in use on a cabinet port (R395, R396). -/
def csma (s : State) (p : Nat) : Bool := p ≥ 10 && (!(plcaOf s p).on || (portOf s p).fellBack)

/-! ## Time gates -/

/-- The entries of a gate list, the last one extended to the end of the cycle (R405). -/
def spansOf (g : GateList) : List (BitVec 8 × Nat) :=
  match g.entries.reverse with
  | [] => []
  | (b, i) :: r => (r.reverse) ++ [(b, g.n * 10000000 - sumOf (·.2) g.entries + i)]

/-- The entry that holds a position: its index, and the spans from the position on. -/
def atPos : List (BitVec 8 × Nat) → Nat → Nat → Nat × List (BitVec 8 × Nat)
  | [], _, i => (i, [])
  | (b, d) :: r, x, i => if x < d then (i, (b, d - x) :: r) else atPos r (x - d) (i + 1)

/-- Open time of a class from the start of a list of spans; none where it never closes in them. -/
def openIn (c : Nat) : List (BitVec 8 × Nat) → Option Nat
  | [] => none
  | (b, d) :: r => if b.getLsbD c then (openIn c r).map (d + ·) else some 0

/-- The position x of R406 for a tide and a time after its edge. -/
def gatePos (g : GateList) (k t : Nat) : Nat := ((k + g.n - g.q) % g.n) * 10000000 + min t 9999999

/-- The entry in force and its states (R406). -/
def gateAt (g : GateList) (k t : Nat) : Nat × BitVec 8 :=
  let r := atPos (spansOf g) (gatePos g k t) 0
  (r.1, match r.2 with | (b, _) :: _ => b | [] => 0xFF)

/-- Time until a class closes from a position of the list (R406); none where it never closes. -/
def closesIn (g : GateList) (c k t : Nat) : Option Nat :=
  openIn c ((atPos (spansOf g) (gatePos g k t) 0).2 ++ spansOf g)

/-- The longest unbroken open span of a class in the cycle (R407); none where it never closes. -/
def longestFrom (c : Nat) : List (BitVec 8 × Nat) → Nat → Nat → Nat
  | [], cur, best => max cur best
  | (b, d) :: r, cur, best => if b.getLsbD c then longestFrom c r (cur + d) best else longestFrom c r 0 (max cur best)

def longestOpen (g : GateList) (c : Nat) : Option Nat :=
  if (spansOf g).all (fun x => x.1.getLsbD c) then none else some (longestFrom c (spansOf g ++ spansOf g) 0 0)

/-- Physical length in ns of the tide that runs, and the number of the next tide (R66). -/
def tideEnd (s : State) : Nat × Nat :=
  let k := s.clk.tide
  let l := (10000000 - s.clk.ofs).toNat + (if s.clk.skipNext then 10000000 else 0)
  let next := if s.clk.skipNext then k + 2 else k + 1
  match s.clk.correction with
  | some c => if c.tide ≤ next && c.d ≥ 10000000 then (l, next + (c.d / 10000000).toNat) else (l, next)
  | none => (l, next)

/-- Time for which a class stays open from t on in the tide that runs, past its end (R407); none for ever. -/
def openFor (s : State) (g : GateList) (c t : Nat) : Option Nat :=
  let e := tideEnd s
  let left := e.1 - t
  match closesIn g c s.clk.tide t with
  | none => none
  | some x =>
    if x < min left (10000000 - min t 9999999) then some x
    else (closesIn g c e.2 0).map (left + ·)

/-- A frame of n bytes may start on a port in a class at t (R403, R407). -/
def gateLets (s : State) (p c n t : Nat) : Bool :=
  let x := portOf s p
  if !x.gatesOn || p ≥ 10 || x.gates.n = 0 then true
  else (gateAt x.gates s.clk.tide t).2.getLsbD c &&
    (match openFor s x.gates c t with | none => true | some o => lineBefore x.speed n o)

/-- The frame's line time exceeds every open span of its class (R407). -/
def gateNever (s : State) (p c n : Nat) : Bool :=
  let x := portOf s p
  if !x.gatesOn || p ≥ 10 || x.gates.n = 0 then false
  else match longestOpen x.gates c with | none => false | some o => lineOver x.speed n o

/-- At an edge, the frame that a port sent last ends so many ns later than the edge: l is the length of the tide that ended. What
ended a tide before is forgotten. -/
def linesAtEdge (l : Nat) (s : State) : State :=
  let shift (y : Nat × Int) : Option (Nat × Int) := if y.2 - l < -10000000 then none else some (y.1, y.2 - l)
  each allPorts (fun p s => updPort p (fun x => { x with line := x.line.bind shift }) s) s

/-- Frames still on the line when their gate closes because a step became pending after they started (R407): at the edge of the
step, those that end after their gate closes in the tide that begins. -/
def gateOverruns (s : State) : State :=
  each (List.range 10) (fun p s =>
    let x := portOf s p
    match x.line with
    | some (c, e) =>
      if x.gatesOn && x.gates.n != 0 && e > 0 && (match closesIn x.gates c s.clk.tide 0 with | some o => (o : Int) < e | none => false)
      then countP p 34 1 s
      else s
    | none => s) s

/-! ## The fields of a frame -/

def dstOf (b : List Byte) : Nat := beAt b 0 6
def srcMac (b : List Byte) : Nat := beAt b 6 6

/-- The tag of a frame: VID and PCP (R400). -/
def tagOf (b : List Byte) : Option (Nat × Nat) :=
  if beAt b 12 2 = 0x8100 then some (beAt b 14 2 % 4096, beAt b 14 2 / 8192) else none

/-- Where the EtherType stands. -/
def typeOff (b : List Byte) : Nat := if (tagOf b).isSome then 16 else 12

def etherType (b : List Byte) : Nat := beAt b (typeOff b) 2

/-- A rule matches a frame (R401, R415). -/
def ruleHits (r : FpRule) (p vid pcp : Nat) (b : List Byte) : Bool :=
  let f (i : Nat) (t : Bool) := !r.flags.getLsbD i || t
  let ip := typeOff b + 2
  let v4 := etherType b == 0x0800
  let proto := u8 b (ip + 9)
  let l4 := ip + 4 * (u8 b ip % 16)
  r.enable && f 0 (dstOf b == r.dstMac) && f 1 (etherType b == r.ethertype) && f 2 (vid == r.vid) && f 3 (pcp == r.pcp)
    && f 4 (v4 && u8 b (ip + 1) / 4 == r.dscp) && f 5 (v4 && proto == r.ipProto)
    && f 6 (v4 && (proto == 6 || proto == 17) && beAt b (l4 + 2) 2 == r.l4port) && f 7 (r.ports.getLsbD p)

/-- The class of a PCP (R402). -/
def pcpClass (pcp : Nat) : Nat := if pcp = 0 then 1 else if pcp = 1 then 0 else pcp

/-- UDP destination port of an IPv4 datagram. -/
def udpPort (b : List Byte) : Option Nat :=
  let ip := typeOff b + 2
  if etherType b == 0x0800 && u8 b (ip + 9) == 17 then some (beAt b (ip + 4 * (u8 b ip % 16) + 2) 2) else none

/-- A PTP or gPTP message, over Ethernet or over UDP (R139, R142). -/
def isPtp (b : List Byte) : Bool := etherType b == 0x88F7 || udpPort b == some 319 || udpPort b == some 320

/-- The frame is for the module (R142, R389, R399, R400): PTP where an instance runs, its MAC address, R-APS of the control
VLAN on the ring. -/
def forModule (s : State) (p vid : Nat) (b : List Byte) : Bool :=
  (isPtp b && (ptpOf s p).mode != 0) || dstOf b == Config.macAddress
    || (p < 2 && vid == s.par.ports.controlVlan && etherType b == 0x8902 && dstOf b / 256 == 0x0119A70000)

/-- Delivers a frame to the module (R400, R420, R424, R425, R428): PTP in control queue 119, observation datagrams to the
application cluster and the rest to the harbourmaster, in the first queue of each (log entry 112). -/
def toModule (p : Nat) (b : List Byte) (s : State) : State :=
  if isPtp b then (passCtrl 119 (Config.ctrlPriority 119).toNat (berths (maxFrame s p)) [] s).2
  else
    let r := passData (if udpPort b == some s.par.ref.obsPort then 174 else 206) p (berths (maxFrame s p)) s
    if r.1 then r.2 else countP p 18 1 r.2

/-! ## Filtering database -/

/-- Learns a unicast source address (R398). -/
def learn (p vid : Nat) (b : List Byte) (s : State) : State :=
  let mac := srcMac b
  if castOf mac != 0 then s
  else
    let l := s.ports.fdb.filter fun e => !(e.vid == vid && e.mac == mac)
    if l.length ≥ 16384 then s
    else updPorts (fun x => { x with fdb := l ++ [{ vid, mac, port := p, ran := s.clk.ran }] }) s

def flushFdb (s : State) : State := updPorts (fun x => { x with fdb := [] }) s

/-- Egress ports of a frame in a VLAN (R398, R400), before their links are looked at: a disabled port's is down (R410). -/
def targets (s : State) (p vid : Nat) (b : List Byte) : List Nat :=
  let dst := dstOf b
  if dst / 16 = 0x0180C200000 then []
  else
    let mem := allPorts.filter fun q => q != p && (membersOf s vid).getLsbD q && !(portOf s q).blocked
    match s.ports.fdb.find? fun e => e.vid == vid && e.mac == dst with
    | some e => mem.filter (· == e.port)
    | none => mem

/-- The bytes that leave a port, from the destination address without the FCS: tagged or not (R398). -/
def dress (s : State) (q vid : Nat) (b : List Byte) : List Byte :=
  let body := b.drop (typeOff b)
  let pcp := match tagOf b with | some t => t.2 | none => 0
  if (tget 0 s.par.ports.tagged vid).getLsbD q then b.take 12 ++ be 2 0x8100 ++ be 2 (pcp * 8192 + vid) ++ body
  else b.take 12 ++ body

/-- Destination address of an entry's frame, as far as its counters need it: PTP and R-APS go to groups (R411). -/
def entryDst (e : Entry) : Nat :=
  match e.own with
  | some (.ptp _ _ _) => 0x0180C200000E
  | some (.raps _ _ _ _) => 0x0119A7000001
  | some _ => 0
  | none => dstOf e.bytes

/-- The message type of an entry of the module's own PTP instance. -/
def entryKind (e : Entry) : Nat := match e.own with | some (.ptp _ k _) => k | _ => 0

/-- What a Pdelay_Resp carries of its request, behind its header and its timestamp (R139, R140). -/
def entryReq (e : Entry) : List Nat := match e.own with | some (.ptp _ 3 l) => l.drop 7 | _ => []

/-- The port sends nothing at t. -/
def lineIdle (s : State) (p t : Nat) : Bool := match (portOf s p).line with | some (_, e) => e ≤ t | none => true

/-- PLCA gives a cabinet port its access (R394, R396). -/
def plcaOn (s : State) (p : Nat) : Bool := p ≥ 10 && (plcaOf s p).on && !(portOf s p).fellBack

/-- A frame that starts at t continues the burst of this transmit opportunity: fewer than the burst count followed its first one, and
the burst timer still runs (R394, R396; PRESUMED from IEEE 802.3cg clause 148, log entry 31). -/
def inBurst (s : State) (p t : Nat) : Bool :=
  let x := portOf s p
  let c := plcaOf s p
  match x.line with
  | some (_, e) => x.burst < c.burstCount && (t : Int) ≤ e + 100 * c.burstTimer
  | none => false

/-- The next transmit opportunity of the port has not come by t: after its own, a coordinator waits for those of the other nodes and
its BEACON of 20 bit times, a follower for the BEACON and those of the nodes before it (R394; log entry 31). -/
def beforeTurn (s : State) (p t : Nat) : Bool :=
  let c := plcaOf s p
  let others := if c.nodeId = 0 then c.nodeCount - 1 else c.nodeId
  match (portOf s p).line with
  | some (_, e) => (t : Int) < e + 100 * (20 + others * c.toTimer)
  | none => false

/-- The line is taken by a frame of a class that starts at t and has n bytes with its FCS. -/
def takeLine (p c t n : Nat) (s : State) : State :=
  let b := plcaOn s p && inBurst s p t
  updPort p (fun y => { y with line := some (c, ((t + lineNs y.speed n : Nat) : Int)), attempts := 0, backoff := none
                               burst := if b then y.burst + 1 else 0 }) s

/-- What a frame shows: one of the module's own with its source address, and its class as PCP where it leaves tagged (R389,
R402). -/
def showFrame (p c : Nat) (x : Entry) (s : State) : State :=
  match x.own with
  | some o => emitAll [.own p Config.macAddress (if ownTagged s p o then some c else none), o] s
  | none => emit (.eth p x.bytes) s

/-- A frame leaves complete (R145, R403, R411): its class, its entry, and the time it starts; one sent with a request awaits its
egress timestamp. -/
def sendFrame (p c t : Nat) (x : Entry) (s : State) : State :=
  let s := takeLine p c t x.len s
  let s := match x.ts with | some (o, id) => askStamp p { owner := o, id, kind := entryKind x, req := entryReq x } s | none => s
  showFrame p c x (countFrame p 19 x.len (entryDst x) s)

/-- A frame that started at t ends with an inverted FCS and counts in TX_ABORTED (R411, R430, R431). -/
def abortFrame (p c t : Nat) (x : Entry) (s : State) : State :=
  emit (.cut p) (showFrame p c x (countP p 31 1 (takeLine p c t x.len s)))

/-- The time at which ct_bytes of a frame that starts at t have come in (R429). -/
def cutTime (s : State) (p q t : Nat) : Nat := t + tget 256 s.par.pool.ctBytes q * 8000 / mbps (portOf s p).speed

/-- A frame may be sent cut-through at t, when ct_bytes of it are there (R429). -/
def cuts (s : State) (p q c n t : Nat) : Bool :=
  let ct := tget 256 s.par.pool.ctBytes q
  p < 10 && q < 10 && ct != 0 && ct ≤ n && (portOf s q).up && mbps (portOf s q).speed ≤ mbps (portOf s p).speed
    && (poolQ s (egressQ q c)).entries.isEmpty && lineIdle s q t && gateLets s q c (maxFrame s p) t
    && !gateNever s q c (maxFrame s p)

/-- Forwards a frame to egress ports in a class (R391, R393, R424 to R429): from attachment point `att`, `check` berths
are asked for, and the frame header holds the ingress timestamp, the VID and the class (R419); answers how many queues took it
and how many refused it. -/
def forward (att check : Nat) (qs : List Nat) (vid c : Nat) (stamp : Option Stamp) (b : List Byte) (s : State) :
    Nat × Nat × State :=
  let bad (q : Nat) := !(portOf s q).up || (dress s q vid b).length + 4 > maxFrame s q
  let s := each (qs.filter bad) (fun q s => countP q 32 1 s) s
  let good := qs.filter fun q => !bad q
  let r := admitAll (good.map fun q => egressQ q c) att check (berths (b.length + 4))
    (fun k => { bytes := dress s (k / 8) vid b }) s { stamp, vid, cls := c }
  (r.1, good.length - r.1, r.2)

/-- The receive header of R433 and the frame with its FCS. -/
def copyRecord (p c vid rule : Nat) (tagged copied : Bool) (stamp : Stamp) (bytes : List Byte) : List Byte :=
  le 2 bytes.length ++ le 1 p ++ le 1 c ++ le 2 vid ++ le 2 (bit tagged + 2 * bit copied) ++ le 6 stamp.sec ++ le 2 0
    ++ le 4 stamp.ns ++ le 1 rule ++ zeros 3 ++ bytes

/-- The time since the tide edge of a stamp. -/
def sinceEdge (s : State) (x : Stamp) : Nat := x.sec * 1000000000 + x.ns - nowNs s 0

/-- The class, the drop and the copy of a frame (R400, R401). -/
def classify (s : State) (p vid pcp : Nat) (b : List Byte) : Option (Nat × FpRule) :=
  (s.par.ports.rules.find? fun r => ruleHits r.2 p vid pcp b)

/-- The copy that a rule makes to a queue window whose session set it (R400, R401, R425): a refused one counts in
RX_ADMISSION_DROP too (R428). -/
def ruleCopy (p c vid i : Nat) (x : FpRule) (tagged : Bool) (stamp : Stamp) (bytes : List Byte) (s : State) : State :=
  match tget none s.ports.ruleOwner i with
  | some o =>
    if x.copy < 16 && ownsQwin s x.copy o.2 then
      let r := feedIn x.copy 1 p (berths (maxFrame s p)) (berths bytes.length) { stamp := some stamp, vid, cls := c }
        (copyRecord p c vid i tagged true stamp bytes) s
      if r.1 then r.2 else countP p 18 1 r.2
    else s
  | none => s

/-- A frame whose admission was at its first byte and whose end shows an error: its berths return (R400, R425). -/
def admitLost (p : Nat) (qs : List Nat) (vid c : Nat) (b : List Byte) (s : State) : State :=
  let f := forward p (berths (maxFrame s p)) (qs.filter fun q => (portOf s q).up) vid c none b s
  if f.1 = 0 then f.2.2
  else
    let id := s.pool.ids
    allPorts.foldl (fun s q => match (poolQ s (egressQ q c)).entries.find? (·.id == id) with
      | some e => free e (updQ (egressQ q c) (fun x => { x with entries := x.entries.erase e }) s)
      | none => s) f.2.2

/-- The steps of R400 from the VLAN on: t is the time since the edge at which the frame's first byte came, `end_` whether its end
shows no error, err the place of a berth that shows an uncorrected error while it leaves cut-through (R429, R430). -/
def bridge (p : Nat) (bytes : List Byte) (end_ : Bool) (err : Option Nat) (t : Nat) (stamp : Stamp) (s : State) : State :=
  let b := bytes.take (bytes.length - 4)
  let tag := tagOf b
  let vid := match tag with
    | some t => if t.1 = 0 then tget 1 s.par.ports.pvid p else t.1
    | none => tget 1 s.par.ports.pvid p
  let pcp := match tag with | some t => t.2 | none => 0
  let r := classify s p vid pcp b
  let c := match r with | some x => x.2.action | none => pcpClass pcp
  let n := bytes.length
  let qs := targets s p vid b
  let cut := match qs.filter fun q => (portOf s q).up with
    | [q] => if cuts s p q c n (cutTime s p q t) then some q else none
    | _ => none
  if !(membersOf s vid).getLsbD p then
    if end_ then countP p 17 1 s else s
  else if forModule s p vid b then
    if end_ then toModule p b s else s
  else if c > 7 then
    if end_ then countP p 17 1 s else s
  else if (portOf s p).blocked then s
  else if !end_ && cut.isNone then admitLost p qs vid c b s
  else
    let s := if end_ then learn p vid b s else s
    let s := match r with
      | some (i, x) => if end_ then ruleCopy p c vid i x tag.isSome stamp bytes s else s
      | none => s
    let f := forward p (berths (maxFrame s p)) qs vid c (some stamp) b s
    let id := s.pool.ids
    let s := if f.2.1 = 0 || !end_ then f.2.2 else countP p 18 f.2.1 f.2.2
    match cut with
    | some q =>
      if f.1 != 1 then s
      else
        let e : Entry := { bytes := dress s q vid b }
        let bad := err.bind fun i => if end_ then berthAt s id i else none
        let s := count 30 2 (dropHead (egressQ q c) s)
        match bad with
        | some x => count 30 3 (abortFrame q c (cutTime s p q t) e (showBad x s))
        | none =>
          if end_ then sendFrame q c (cutTime s p q t) e s else count 30 3 (abortFrame q c (cutTime s p q t) e s)
    | none => s

/-- FRAME_INGRESS (R147, R391, R392, R400, R411, R425, R429, R430): the stamp is the one taken at the SFD. -/
def execFrameIngress (port : Nat) (f : EthFrame) (stamp : Stamp) (s : State) : Res :=
  let n := f.bytes.length
  doneIn [.host, .stats, .time, .pool, .ports, .log, .out] s (
    let t := sinceEdge s stamp
    if port > 13 || !(portOf s port).enabled || !(portOf s port).up then s
    else if n < 64 then countP port 12 1 s
    else if n > maxFrame s port then countP port 13 1 s
    else if f.symbolErr then bridge port f.bytes false none t stamp (countP port 14 1 s)
    else if !f.fcsOk then bridge port f.bytes false none t stamp (countP port 15 1 s)
    else
      let s := countFrame port 0 n (dstOf f.bytes) s
      if etherType f.bytes == 0x8808 then if port < 10 then countP port 16 1 s else s
      else bridge port f.bytes true f.readErr t (shiftStamp stamp (-(tget 0 s.par.time.ingress port))) s)

/-! ## Egress -/

/-- What a blocked ring port still carries: R-APS, PTP and gPTP (R399). -/
def passesBlock (e : Entry) : Bool :=
  match e.own with
  | some (.ptp _ _ _) | some (.raps _ _ _ _) => true
  | some _ => false
  | none => isPtp e.bytes

/-- Drops the heads of a class that can never pass, whose berths have an uncorrected error, or whose ring port is blocked (R399,
R407, R431). -/
def cleanHeads (p c : Nat) : Nat → State → State
  | 0, s => s
  | k + 1, s =>
    match (poolQ s (egressQ p c)).entries with
    | [] => s
    | e :: _ =>
      if isBad s e then cleanHeads p c k (countP p 32 1 (dropHead (egressQ p c) s))
      else if (portOf s p).blocked && !passesBlock e then cleanHeads p c k (dropHead (egressQ p c) s)
      else if gateNever s p c e.len then cleanHeads p c k (countP p 33 1 (dropHead (egressQ p c) s))
      else s

def classesDown : List Nat := [7, 6, 5, 4, 3, 2, 1, 0]

/-- The class whose head the port takes next at t (R403, R407, log entry 30). -/
def nextClass (s : State) (p t : Nat) : Option Nat :=
  classesDown.find? fun c => match (poolQ s (egressQ p c)).entries with
    | [] => false
    | e :: _ => gateLets s p c e.len t

/-- The port may start a frame at t: on a PLCA segment in its transmit opportunity (R394, R396). -/
def mayStart (s : State) (p t : Nat) : Bool :=
  let x := portOf s p
  x.enabled && x.up && !silent s p && x.backoff.isNone && lineIdle s p t && (!plcaOn s p || inBurst s p t || !beforeTurn s p t)

/-- What TCP streams send on a port is cut into frames of up to 1,400 bytes (PRESUMED, log entry 61). -/
def pieces : Nat → List Byte → List (List Byte)
  | 0, b => [b]
  | k + 1, b => if b.length ≤ 1400 then [b] else b.take 1400 :: pieces k (b.drop 1400)

/-- The frames of a stream's data, each with its bytes with the FCS: over TCP and IPv4, a TLS record's with its framing and tag. -/
def segments (o : Output) : List (Output × Nat) :=
  match o with
  | .tls w b => (pieces b.length b).map fun x => (.tls w x, x.length + 80)
  | .ntrip c b => (pieces b.length b).map fun x => (.ntrip c x, x.length + 58)
  | o => [(o, 64)]

/-- A port's stream data enter the queues of their classes in order, as far as they are admitted (R389, R402); what is left waits. -/
def fillFrom (p : Nat) (l : List StreamData) (s : State) : List StreamData × State :=
  l.foldl (fun (r : List StreamData × State) d =>
    if d.port != p || r.1.any (·.port == p) then (r.1 ++ [d], r.2)
    else (segments d.out).foldl (fun r x =>
      if r.1.any (·.port == p) then (r.1 ++ [{ d with out := x.1 }], r.2)
      else
        let size := max 64 x.2 + (if ownTagged s p x.1 then 4 else 0)
        let q := ownQueued (if d.cls = 5 then attCluster else attHm) p d.cls size none x.1 r.2
        if q.1 then (r.1, q.2) else (r.1 ++ [{ d with out := x.1 }], q.2)) r) ([], s)

def fillOwn (p : Nat) (s : State) : State :=
  let a := fillFrom p s.host.outbox s
  let b := fillFrom p s.ref.outbox a.2
  let s := b.2
  { s with host := { s.host with outbox := a.1 }, ref := { s.ref with outbox := b.1 } }

def cleanPort (p : Nat) (s : State) : State :=
  each classesDown (fun c s => cleanHeads p c (poolQ s (egressQ p c)).entries.length s) s

/-- A frame starts on a port (R403, R431): err is the place of a berth that shows an uncorrected error while the port reads it; in
the first one the frame has not started. -/
def startFrame (p c t : Nat) (e : Entry) (err : Option Nat) (s : State) : State :=
  match err.bind (berthAt s e.id) with
  | some b =>
    let s := showBad b (dropHead (egressQ p c) s)
    if err = some 0 then countP p 32 1 s else abortFrame p c t e s
  | none => sendFrame p c t e (dropHead (egressQ p c) s)

/-- FRAME_EGRESS (R403, R407, R431). -/
def execFrameEgress (port ns : Nat) (err : Option Nat) (s : State) : Res :=
  doneIn [.host, .stats, .time, .ref, .pool, .ports, .log, .out] s (
    if port > 13 || !mayStart s port ns then s
    else
      let s := cleanPort port (fillOwn port s)
      match nextClass s port ns with
      | none => s
      | some c =>
        match (poolQ s (egressQ port c)).entries with
        | [] => s
        | e :: _ => startFrame port c ns e err s)

/-- Discards what a port's queues hold into TX_DISCARDED (R393, R410). -/
def discardQueued (p : Nat) (s : State) : State :=
  each classesDown (fun c s =>
    let k := (poolQ s (egressQ p c)).entries.length
    if k = 0 then s else countP p 32 k (clearQ (egressQ p c) s)) s

/-- Takes and drops the frame that a port sends next at t, as one attempt that failed. -/
def failHead (p t : Nat) (s : State) : State :=
  match nextClass s p t with
  | some c => dropHead (egressQ p c) s
  | none => s

/-! ## Links and the ring -/

def fpLink (p kind speed : Nat) (s : State) : State := raise 0x0980 (le 1 p ++ le 1 kind ++ le 1 speed ++ le 1 0) s

/-- FP_RING after a change of the ring node (R399, R417). -/
def ringEvent (old : RingNode) (b0 b1 : Bool) (s : State) : State :=
  if old.st == s.ports.ring.st && b0 == (portOf s 0).blocked && b1 == (portOf s 1).blocked then s
  else raise 0x0983 (le 1 s.ports.ring.st ++ le 1 (bit (portOf s 0).blocked + 2 * bit (portOf s 1).blocked) ++ le 2 0) s

/-- Sends an R-APS message on the ring ports that are up, in class 7 (R399, R402): 0 signal fail, 1 no request, 2 no request with
RPL blocked. At MEL 7 on the
control VLAN; its frame is one of 64 bytes and its tag (log entry 112). -/
def sendRaps (kind : Nat) (s : State) : State :=
  each [0, 1] (fun p s => if (portOf s p).up then ownFrame p 7 (if (tget 0 s.par.ports.tagged s.par.ports.controlVlan).getLsbD p then 68 else 64) none
    (.raps p kind s.par.ports.controlVlan 7) s else s) s

def ringSet (st : Nat) (blocks : List Nat) (wtr : Option Nat) (s : State) : State :=
  let old := s.ports.ring
  let b0 := (portOf s 0).blocked
  let b1 := (portOf s 1).blocked
  let s := each [0, 1] (fun p s => updPort p (fun x => { x with blocked := blocks.contains p }) s) s
  let s := updPorts (fun x => { x with ring := { x.ring with st, wtr } }) s
  let s := if old.st == st && b0 == (portOf s 0).blocked && b1 == (portOf s 1).blocked then s else flushFdb s
  ringEvent old b0 b1 s

/-- The ring is in use: a ring port is enabled (R399), and a disabled one is a link that is down (R410). -/
def ringOn (s : State) : Bool := (portOf s 0).enabled || (portOf s 1).enabled

def failedRing (s : State) : List Nat := [0, 1].filter fun p => (portOf s p).sigFail

def wtrEnd (s : State) : Option Nat := if s.par.ports.rplOwner then some (s.clk.ran + s.par.ports.wtrMin * 6000) else none

/-- The port blocked while nothing fails: the RPL port of the owner, else the lower ring port (R399, log entry 31). -/
def restBlock (s : State) : List Nat := if s.par.ports.rplOwner then [s.par.ports.rplPort] else [0]

/-- The ring node starts (R399, log entry 31). -/
def ringStart (s : State) : State := if ringOn s then sendRaps 1 (ringSet 4 (restBlock s) (wtrEnd s) s) else s

/-- RING_SIGNAL_FAIL (R399): the link was down at 3 consecutive edges. -/
def execRingSignalFail (port : Nat) (s : State) : Res :=
  doneIn [.host, .stats, .pool, .ports, .out] s (
    let x := portOf s port
    if port > 1 || !ringOn s || x.sigFail || x.downEdges < 3 then s
    else
      let s := updPort port (fun x => { x with sigFail := true }) s
      sendRaps 0 (ringSet 1 (failedRing s) none s))

/-- The port sends BEACONs: a PLCA coordinator that heard no other (R396, R397). -/
def beacons (s : State) (p : Nat) : Bool :=
  let x := portOf s p
  p ≥ 10 && x.enabled && x.up && !silent s p && (plcaOf s p).on && (plcaOf s p).nodeId == 0 && !x.foreign

/-- Shows where a port's BEACONs begin (line state 2) and end (3). -/
def showBeacons (p : Nat) (s : State) : State :=
  let b := beacons s p
  if b == (portOf s p).beacon then s else emit (.line p (if b then 2 else 3)) (updPort p (fun x => { x with beacon := b }) s)

/-- The cabinet ports begin or end their BEACONs with the module's role (R397). -/
def cabinetBeacons (s : State) : State := each [10, 11, 12, 13] showBeacons s

/-- LINK_DOWN (R393, R411, R417): `cut` is the time at which the frame on the line had started. -/
def linkLost (p : Nat) (cut : Option Nat) (s : State) : State :=
  if !(portOf s p).up then s
  else
    let s := match cut with
      | some t => if mayStart s p t && (nextClass s p t).isSome then countP p 31 1 (failHead p t s) else s
      | none => s
    showBeacons p (fpLink p 0 0 (countP p 39 1 (updPort p (fun x => { x with
      up := false, speed := 0, full := false, dropDue := some s.clk.ran, downEdges := 0, linkTide := s.clk.tide }) s)))

def execLinkDown (port : Nat) (cut : Option Nat) (s : State) : Res := doneIn [.host, .stats, .pool, .ports, .out] s (if port > 13 then s else linkLost port cut s)

/-- LINK_DROP_EDGE (R393): the first tide edge after the loss. -/
def execLinkDropEdge (port : Nat) (s : State) : Res :=
  doneIn [.host, .stats, .pool, .ports, .out] s (
    let x := portOf s port
    if port > 13 || (match x.dropDue with | some n => s.clk.ran ≤ n | none => true) then s
    else discardQueued port (updPort port (fun x => { x with dropDue := none }) s))

/-- The speed code that a port runs at (R387, R390): fixed but for SGMII. -/
def speedOf (s : State) (p asked : Nat) : Nat :=
  if p < 2 then 5 else if p ≥ 10 then 1 else if s.par.ports.sgmii.getLsbD p then min (max asked 1) 3 else 4

/-- LINK_UP (R390, R399, R417). -/
def execLinkUp (port speed : Nat) (full : Bool) (s : State) : Res :=
  doneIn [.host, .stats, .pool, .ports, .out] s (
    let x := portOf s port
    if port > 13 || !x.enabled then s
    else if 2 ≤ port && port < 10 && s.par.ports.sgmii.getLsbD port && !full then
      fpLink port 2 0 (updPort port (fun x => { x with hdx := true }) (linkLost port none s))
    else if x.up then s
    else
      let v := speedOf s port speed
      let was := x.sigFail
      let s := updPort port (fun x => { x with up := true, speed := v, full := port < 10, hdx := false, sigFail := false,
                                               downEdges := 0, linkTide := s.clk.tide }) s
      let s := showBeacons port (fpLink port 1 v s)
      if port < 2 && was && ringOn s then
        let s := updPorts (fun x => { x with ring := { x.ring with guard := true } }) s
        if (failedRing s).isEmpty then sendRaps 1 (ringSet 4 [port] (wtrEnd s) s) else ringSet s.ports.ring.st (failedRing s) none s
      else s)

/-- RAPS_RX (R399): messages that arrive while the guard timer runs are discarded. A signal fail of the node's own stands above every
message but a forced switch, and PROTECTION takes a forced switch's place when that ends (PRESUMED from ITU-T G.8032, log entry
31). -/
def execRapsRx (port : Nat) (m : Raps) (s : State) : Res :=
  doneIn [.host, .stats, .pool, .ports, .out] s (
    if port > 1 || !ringOn s || !(portOf s port).up || s.ports.ring.guard then s
    else match m with
      | .signalFail => ringSet 1 (failedRing s) none s
      | .noRequest =>
        if !(failedRing s).isEmpty then (if s.ports.ring.st == 1 then s else ringSet 1 (failedRing s) none s)
        else if s.ports.ring.st == 0 || s.ports.ring.st == 4 then s
        else ringSet 4 (([0, 1].filter fun p => (portOf s p).blocked)) (wtrEnd s) s
      | .noRequestRplBlocked =>
        if !(failedRing s).isEmpty then (if s.ports.ring.st == 1 then s else ringSet 1 (failedRing s) none s)
        else if s.par.ports.rplOwner then s else ringSet 0 (failedRing s) none s
      | .forcedSwitch => ringSet 3 (failedRing s) none s
      | .manualSwitch => if !(failedRing s).isEmpty || s.ports.ring.st == 1 || s.ports.ring.st == 3 then s else ringSet 2 (failedRing s) none s)

/-- RING_WTR_EXPIRY (R399): the owner blocks the RPL again. -/
def execRingWtrExpiry (s : State) : Res :=
  doneIn [.host, .stats, .pool, .ports, .out] s (match s.ports.ring.wtr with
    | some t => if t ≤ s.clk.ran && s.par.ports.rplOwner then sendRaps 2 (ringSet 0 [s.par.ports.rplPort] none s) else s
    | none => s)

/-- GUARD_TIMER_EXPIRY (R399). -/
def execGuardTimerExpiry (s : State) : Res :=
  doneIn [.ports] s (updPorts (fun x => { x with ring := { x.ring with guard := false } }) s)

/-- FDB_AGEING (R398). -/
def execFdbAgeing (vid mac : Nat) (s : State) : Res :=
  let old := s.par.ports.ageing * 100
  doneIn [.ports] s (updPorts (fun x => { x with
    fdb := x.fdb.filter fun e => !(e.vid == vid && e.mac == mac && e.ran + old ≤ s.clk.ran) }) s)

/-! ## Cabinet ports -/

/-- A cabinet port attempts to send the next frame of its queues. -/
def sendsNext (s : State) (p : Nat) : Bool :=
  let x := portOf s p
  x.enabled && x.up && !silent s p && x.backoff.isNone && (nextClass s p 0).isSome

/-- COLLISION (R395): an attempt to send the next frame collided after a number of bytes. The back-off is drawn from the
true random source. -/
def execCollision (port bytes : Nat) (s : State) : Res :=
  doneIn [.host, .stats, .pool, .ports, .out, .free] s (
    let x := portOf s port
    if port < 10 || port > 13 || !csma s port || !sendsNext s port then s
    else
      let s := emit (.line port 1) (countP port 35 1 s)
      let n := x.attempts + 1
      if bytes > 64 then
        countP port 36 1 (failHead port 0 (updPort port (fun x => { x with attempts := 0 }) s))
      else if n ≥ 16 then
        countP port 37 1 (failHead port 0 (updPort port (fun x => { x with attempts := 0 }) s))
      else
        let slots := drawn s % 2 ^ (min n 10)
        draw (updPort port (fun x => { x with attempts := n, backoff := some slots }) s))

/-- BACKOFF_EXPIRY (R395). -/
def execBackoffExpiry (port : Nat) (s : State) : Res :=
  doneIn [.ports] s (if port > 13 then s else updPort port (fun x => { x with backoff := none }) s)

def fpPlca (p kind : Nat) (s : State) : State := raise 0x0984 (le 1 p ++ le 1 kind ++ le 2 0) s

/-- PLCA_FALLBACK (R396, R417): a coordinator's status fails only on a foreign BEACON. -/
def execPlcaFallback (port : Nat) (foreignBeacon : Bool) (s : State) : Res :=
  doneIn [.host, .stats, .ports, .out] s (
    let x := portOf s port
    let coord := (plcaOf s port).nodeId == 0
    if port < 10 || port > 13 || !x.enabled || !(plcaOf s port).on || x.fellBack || (coord && !foreignBeacon) then s
    else
      let s := countP port 38 1 (updPort port (fun x => { x with
        fellBack := true, plcaOk := false, foreign := x.foreign || (coord && foreignBeacon) }) s)
      let s := showBeacons port (fpPlca port 0 s)
      if coord && foreignBeacon then fpPlca port 2 s else s)

/-- PLCA_RESTORE (R396, R417). -/
def execPlcaRestore (port : Nat) (s : State) : Res :=
  doneIn [.host, .ports, .out] s (
    let x := portOf s port
    if port < 10 || port > 13 || !x.enabled || !x.fellBack then s
    else fpPlca port 1 (updPort port (fun x => { x with fellBack := false, plcaOk := true }) s))

/-! ## Gate lists in force -/

/-- GATE_CHANGE (R406): the entry in force at a time after the edge. -/
def execGateChange (port ns : Nat) (s : State) : Res :=
  doneIn [.ports] s (
    let x := portOf s port
    if port > 9 then s
    else if !x.gatesOn || x.gates.n = 0 then updPort port (fun x => { x with gateNow := 0xFF, gateEntry := 0 }) s
    else
      let g := gateAt x.gates s.clk.tide ns
      updPort port (fun x => { x with gateNow := g.2, gateEntry := g.1 }) s)

/-- The gate states at a tide edge at which a list or its use changes (R406, R408, R409). -/
def gatesNow (p : Nat) (s : State) : State :=
  let x := portOf s p
  let g := if x.gatesOn && x.gates.n != 0 then gateAt x.gates s.clk.tide 0 else (0, 0xFF)
  updPort p (fun x => { x with gateNow := g.2, gateEntry := g.1 }) s

def fpGateChange (p kind : Nat) (s : State) : State :=
  raise 0x0982 (le 1 p ++ le 1 kind ++ le 2 0 ++ le 8 s.clk.tide) s

/-- GATE_LIST_APPLY (R408): a cycle start edge of the waiting list at or after its apply tide. -/
def execGateListApply (port : Nat) (s : State) : Res :=
  doneIn [.host, .ports, .log, .out] s (
    match (portOf s port).gateWait with
    | none => s
    | some x =>
      if x.apply ≤ s.clk.tide && s.clk.tide % x.list.n == x.list.q then
        finish x.job stOK (fpGateChange port 0 (gatesNow port
          (updPort port (fun y => { y with gates := x.list, gateWait := none }) s)))
      else s)

/-! ## Starting, stopping and the edge -/

/-- Stops a port at the edge of R60 (R410): sessions and caster clients on it end. -/
def stopPort (p : Nat) (s : State) : State :=
  let s := discardQueued p (linkLost p none s)
  let s := updPort p (fun x => { x with enabled := false, dropDue := none, sigFail := false, attempts := 0,
                                        backoff := none, fellBack := false, foreign := false, plcaOk := false }) s
  let s := updStat (16 + p) (StatGroup.mark flPartial) s
  each windows (fun w s => let v := win s w
    if v.origin == 4 && v.port == p then closeSession w 3 s else s)
    { s with host := { s.host with outbox := s.host.outbox.filter fun d => d.port != p }
             ref := { s.ref with clients := s.ref.clients.filter (fun c => c.port != p), outbox := s.ref.outbox.filter fun d => d.port != p } }

/-- The PLCA status of a cabinet port that starts with its parameters (R396; log entry 31): a coordinator's is OK, a follower uses
CSMA/CD until its own becomes OK. -/
def plcaStart (v : PlcaPar) (x : Port) : Port := { x with plcaOk := v.on && v.nodeId == 0, fellBack := v.on && v.nodeId != 0 }

/-- Starts a port at the edge of R62. -/
def startPort (p : Nat) (s : State) : State :=
  let was := ringOn s
  let v := plcaOf s p
  let s := updPort p (fun x => { (if p ≥ 10 then plcaStart v x else x) with enabled := true }) s
  let s := updStat (16 + p) (StatGroup.mark flPartial) s
  if p < 2 && !was then ringStart s else s

/-- Gates of a port switched at an edge (R409, R417). -/
def gatesSet (p : Nat) (on : Bool) (s : State) : State :=
  if (portOf s p).gatesOn == on then s
  else fpGateChange p (if on then 1 else 2) (gatesNow p (updPort p (fun x => { x with gatesOn := on }) s))

/-- What the ports do at a tide edge: ring links down are counted, and FP_ROLLOVER of the ended tide (R399, R412). -/
def portsAtEdge (s : State) : State :=
  let s := each [0, 1] (fun p s => if ringOn s && !(portOf s p).up then
    updPort p (fun x => { x with downEdges := x.downEdges + 1 }) s else s) s
  each allPorts (fun p s =>
    let c := (portOf s p).crossed
    if c = 0 then s
    else raise 0x0981 (le 1 p ++ zeros 3 ++ le 8 c.toNat) (updPort p (fun x => { x with crossed := 0 }) s)) s

/-! ## Frame port service commands -/

/-- The port block (R413, R414). -/
def portBlock (s : State) (p : Nat) : List Byte :=
  let x := portOf s p
  let c := plcaOf s p
  let g := x.gates
  let kind := if p < 2 then 0 else if p < 10 then 1 else 2
  let ctl := bit x.enabled + 2 * bit x.gatesOn + 4 * bit (p ≥ 10 && x.enabled && c.on)
    + 8 * bit (2 ≤ p && p < 10 && s.par.ports.sgmii.getLsbD p) + 16 * bit x.blocked + 32 * bit (x.enabled && silent s p)
  let link := bit x.up + 2 * x.speed + 16 * bit x.full + 32 * bit x.hdx + 64 * bit x.sigFail
  let plca := bit x.plcaOk + 2 * bit (p ≥ 10 && x.enabled && c.on && c.nodeId == 0) + 4 * bit (x.enabled && csma s p) + 8 * bit x.foreign
    + 256 * c.burstTimer
  let ap := match x.gateWait with | some y => y.apply | none => 0
  le 4 (p + 16 * kind) ++ le 4 ctl ++ le 4 link ++ le 4 (maxFrame s p)
    ++ le 4 (c.nodeId + 256 * c.nodeCount + 65536 * c.toTimer + 16777216 * c.burstCount) ++ le 4 plca
    ++ le 4 (g.n + 256 * g.q + 65536 * (g.entries.length % 128) + 8388608 * bit x.gateWait.isSome)
    ++ le 4 (x.gateNow.toNat + 256 * x.gateEntry) ++ le 8 ap ++ le 8 x.linkTide

def portBad (p : List Byte) : Bool := u8 p 0 > 13

/-- FP_PORT_STATUS (R413, R415). -/
def execFpPortStatus (w : Nat) (s : State) : Res :=
  answered s (onCmd w 0x0901 portBad (fun p s => ok w (portBlock s (u8 p 0)) s) s)

/-- FP_STATS (R411, R415). -/
def execFpStats (w : Nat) (s : State) : Res :=
  answered s (onCmd w 0x0902 portBad (fun p s => ok w (snapshot (16 + u8 p 0) 40 s) s) s)

/-- FP_COUNTERS (R415). -/
def portCounters (p : Nat) (s : State) : List Byte :=
  le 8 s.clk.tide ++ (List.range 40).flatMap fun i =>
    le (if i = 0 ∨ i = 19 then 8 else 4) (tget 0 (stat s (16 + p)).total i)

def execFpCounters (w : Nat) (s : State) : Res :=
  answered s (onCmd w 0x0903 portBad (fun p s => ok w (portCounters (u8 p 0) s) s) s)

/-- FP_GATE_LIST (R415). -/
def gateListBytes (g : GateList) : List Byte :=
  le 1 g.n ++ le 1 g.q ++ le 1 g.entries.length ++ le 1 0
    ++ g.entries.flatMap fun e => le 1 e.1.toNat ++ zeros 3 ++ le 4 e.2

def execFpGateList (w : Nat) (s : State) : Res :=
  answered s (onCmd w 0x0904 (fun p => portBad p || u8 p 1 > 1) (fun p s =>
    let x := portOf s (u8 p 0)
    ok w (gateListBytes (if u8 p 1 = 0 then x.gates else match x.gateWait with | some y => y.list | none => {})) s) s)

/-- FP_PORT_ENABLE (R60, R410, R415, R416). -/
def execFpPortEnable (w : Nat) (s : State) : Res :=
  doneIn [.host, .switches, .out] s (onCmd w 0x0940 (fun p => portBad p || u8 p 1 > 1) (fun p s =>
    if u8 p 1 == 1 && s.cfg.defaultedBit then refuse w stSTATE s
    else ok w (le 8 (nextTide s)) (switch (.port (u8 p 0)) (u8 p 1 == 1) s)) s)

/-- The gate list of FP_GATE_SET (R405, R415). -/
def gateListOf (p : List Byte) : GateList :=
  { n := u8 p 1, q := u8 p 2,
    entries := (entriesOf 8 (u8 p 3) (p.drop 12)).map fun e => (BitVec.ofNat 8 (u8 e 0), u32 e 4) }

def gateSetBad (p : List Byte) : Bool :=
  u8 p 0 > 9 || gateListBad (gateListOf p) || (entriesOf 8 (u8 p 3) (p.drop 12)).any fun e => leAt e 1 3 != 0

/-- The first cycle start edge at or after a tide (R408). -/
def cycleStart (g : GateList) (t : Nat) : Nat := t + (g.q + g.n - t % g.n) % g.n

/-- FP_GATE_SET (R408, R415, R416). -/
def fpGateSetF (w : Nat) (p : List Byte) (s : State) : State :=
  let g := gateListOf p
  let t := u64 p 4
  if t < s.clk.tide + 2 then refuse w stLATE s
  else
    let a := cycleStart g t
    let old := (portOf s (u8 p 0)).gateWait
    let j := jobOf w s
    let s := respond w stACCEPTED (le 8 a) (updPort (u8 p 0) (fun x => { x with
      gateWait := some { list := g, apply := a, job := j } }) s)
    match old with | some o => finish o.job stCANCELLED s | none => s

def execFpGateSet (w : Nat) (s : State) : Res := doneIn [.host, .ports, .log, .out] s (onCmd w 0x0941 gateSetBad (fpGateSetF w) s)

/-- FP_GATE_ENABLE (R409, R415, R416). -/
def execFpGateEnable (w : Nat) (s : State) : Res :=
  doneIn [.host, .switches, .out] s (onCmd w 0x0942 (fun p => u8 p 0 > 9 || u8 p 1 > 1) (fun p s =>
    if u8 p 1 == 1 && (portOf s (u8 p 0)).gates.n == 0 then refuse w stSTATE s
    else ok w (le 8 (nextTide s)) (switch (.gates (u8 p 0)) (u8 p 1 == 1) s)) s)

/-- FP_PLCA_SET (R396, R415, R416). -/
def plcaBad (p : List Byte) : Bool :=
  u8 p 0 < 10 || u8 p 0 > 13 || u8 p 1 > 1 || u8 p 2 > 254 || u8 p 3 == 0 || u8 p 4 == 0 || u8 p 6 == 0

def execFpPlcaSet (w : Nat) (s : State) : Res :=
  doneIn [.host, .changes, .out] s (onCmd w 0x0943 plcaBad (fun p s => change w (.plca (u8 p 0)
    { on := u8 p 1 == 1, nodeId := u8 p 2, nodeCount := u8 p 3, toTimer := u8 p 4, burstCount := u8 p 5,
      burstTimer := u8 p 6 }) s) s)

/-- FP_RULE_SET (R401, R415, R416). -/
def ruleOf (p : List Byte) : FpRule :=
  { enable := u8 p 2 == 1, action := u8 p 3, copy := u8 p 4, ports := BitVec.ofNat 14 (u16 p 6),
    flags := BitVec.ofNat 8 (u8 p 8), dstMac := beAt p 10 6, ethertype := u16 p 16, vid := u16 p 18, pcp := u8 p 20,
    dscp := u8 p 21, ipProto := u8 p 22, l4port := u16 p 24 }

def ruleBad (p : List Byte) : Bool :=
  u16 p 0 > 127 || u8 p 2 > 1 || (u8 p 3 > 7 && u8 p 3 != 0xFF) || (u8 p 4 > 15 && u8 p 4 != 0xFF) || u16 p 6 ≥ 16384
    || u8 p 9 != 0 || u16 p 18 > 4094 || u8 p 20 > 7 || u8 p 21 > 63

def fpRuleSetF (w : Nat) (p : List Byte) (s : State) : State :=
  if u8 p 4 != 0xFF && !winOwnsQwin s w (u8 p 4) then refuse w stDENIED s
  else change w (.fpRule (u16 p 0) (ruleOf p) (if u8 p 4 = 0xFF then none else some (w, callerSid s w))) s

def execFpRuleSet (w : Nat) (s : State) : Res := doneIn [.host, .changes, .out] s (onCmd w 0x0944 ruleBad (fpRuleSetF w) s)

/-- Takes a changed frame port setting (R102, R415). -/
def applyPortSetting (x : Setting) (s : State) : State :=
  match x with
  | .plca p v => showBeacons p (updPort p (fun y =>
      let z := { y with plca := some v }
      if y.foreign then { z with plcaOk := v.on && z.plcaOk, fellBack := v.on && z.fellBack } else plcaStart v z) s)
  | .fpRule i r o =>
    let par := { s.par with ports := { s.par.ports with rules := tput {} s.par.ports.rules i r } }
    updPorts (fun y => { y with ruleOwner := tput none y.ruleOwner i o }) { s with par }
  | _ => s

end Sys2Proof.Machine
end

