-- ==== Sys2Proof/Machine/QueueWin.lean ====
section
/-! DEFINITION. Sys2Proof/Machine/QueueWin.lean: host queue windows, host lighter channels, error correction and the pool
service (chapter 13). -/

namespace Sys2Proof.Machine

/-! ## Ownership and registers -/

def qwBase (w : Nat) : Nat := 0x20000 + w * 0x1000

/-- The accessing origin holds the session that owns a queue window or a lighter channel (R80, R432). -/
def holds (o : Origin) (owner : Option (Nat × Nat)) (s : State) : Bool :=
  match owner with
  | some (w, sid) => owns o w s && (win s w).sid == sid
  | none => false

/-- The channel runs: it is enabled, and the edge at which it starts has come (R62, R447). -/
def ltRuns (s : State) (n : Nat) : Bool := (ltOf s n).enable && (ltOf s n).runFrom ≤ s.clk.ran

/-- An enabled host lighter channel names the window (R439). -/
def ltServes (s : State) (w : Nat) : Bool :=
  [0, 1, 2, 3, 4, 5, 6, 7].any fun n => (ltOf s n).enable && (ltOf s n).cfgWin == w

def headOf (s : State) (w : Nat) : Option Entry := (poolQ s (128 + w)).entries.head?

/-- Releases the head record of a queue window. -/
def releaseRec (w : Nat) (s : State) : State := updQwin w (fun x => { x with pos := 0 }) (dropHead (128 + w) s)

/-- Releases head records with an uncorrected error on the register path (R431). -/
def purgeBad (w : Nat) : Nat → State → State
  | 0, s => s
  | k + 1, s =>
    match headOf s w with
    | some e => if isBad s e then purgeBad w k (qwDrop w (releaseRec w s)) else s
    | none => s

/-- Pops n bytes of the head record, which is released after its last ones (R436, R437). -/
def popBytes (w n : Nat) (s : State) : Option (List Byte × Bool) × State :=
  let s := purgeBad w (poolQ s (128 + w)).entries.length s
  match headOf s w with
  | none => (none, s)
  | some e =>
    let pos := (qwinOf s w).pos
    let b := slice e.bytes pos n
    let last := pos + n ≥ e.bytes.length
    (some (b, last), if last then releaseRec w s else updQwin w (fun x => { x with pos := pos + n }) s)

/-- A main-path read (R436, R439). -/
def popMain (w : Nat) (s : State) : Word × State :=
  if ltServes s w then (0, s)
  else
    let r := popBytes w 4 s
    match r.1 with
    | some (b, _) =>
      let v := BitVec.ofNat 32 (leAt b 0 4)
      (v, updQwin w (fun x => { x with last := v }) r.2)
    | none =>
      let s := updQwin w (fun x => { x with underrun := true, underruns := x.underruns + 1, unders := x.unders + 1 }) r.2
      ((qwinOf s w).last, count 30 10 s)

/-- A fallback-path read (R437, R439). -/
def popTagged (w : Nat) (s : State) : Word × State :=
  if ltServes s w then (0, s)
  else
    let r := popBytes w 3 s
    match r.1 with
    | some (b, last) =>
      (BitVec.ofNat 32 (leAt b 0 3 + 0x1000000 * b.length + 0x40000000 * bit last + 0x80000000), r.2)
    | none => (0, r.2)

/-- QW_POP written with SKIP (R434, R439). -/
def popSkip (w : Nat) (v : Word) (s : State) : State :=
  if v.getLsbD 0 && !ltServes s w && (headOf s w).isSome then releaseRec w s else s

/-- Berths left under the transmit queue's max (R434). -/
def txRoom (s : State) (w : Nat) : Nat := 512 - openBerths (qwinOf s w)

/-- The transmit queue of a window admits the berths that n more bytes of its open record need (R424, R432). -/
def txFits (s : State) (w n : Nat) : Bool :=
  let x := qwinOf s w
  let more := berths ((if x.txOpen then x.txBuf.length else 0) + n) - openBerths x
  more == 0 || admits (144 + w) attHost more s

/-- Appends bytes to the open transmit record (R424, R432, R438): what its queue does not admit is not held, and a berth refused
while there is room counts as a refusal (R428; log entry 105). -/
def txAppend (w : Nat) (b : List Byte) (s : State) : State :=
  let x := qwinOf s w
  let buf := if x.txOpen then x.txBuf ++ b else b
  let fits := txFits s w b.length
  let s := if fits || berths buf.length > 512 then s
    else count 30 1 (updQ (144 + w) (fun y => { y with refused := y.refused + 1 }) s)
  let s := updQwin w (fun x => { x with
    txOpen := true, txOver := (x.txOpen && x.txOver) || !fits
    txBuf := if fits then buf else if x.txOpen then x.txBuf else [] }) s
  notePressure (updQ (144 + w) (fun y => { y with high := max y.high (openBerths (qwinOf s w)) }) s)

/-- The reason for which a transmit record is refused before its admission, 0 for none (R438): the total is the named
one, and the bytes written are its whole words, or exactly it for a lighter. -/
def txReason (s : State) (w total : Nat) (exact : Bool) : Nat :=
  let x := qwinOf s w
  let b := x.txBuf
  let len := u16 b 0
  let port := u8 b 2
  let flags := u16 b 6
  let top := if port ≤ 13 then maxFrame s port else 9216
  if (if exact then total else (total + 3) / 4 * 4) != b.length || total != len + 16 then 1
  else if len < 60 || len + 4 > top then 2
  else if !(if port = 0xFF then x.txPorts.getLsbD 15 else port ≤ 13 && x.txPorts.getLsbD port) then 3
  else if flags > 1 || leAt b 10 6 != 0 || u8 b 3 > 7 || (port == 0xFF && flags == 1) || (port != 0xFF && u16 b 4 != 0) then 4
  else if x.txOver then 5
  else 0

/-- Sends the frame of a checked transmit record to its egress queues; answers how many hold it (R424, R438). -/
def txAdmit (w : Nat) (s : State) : Nat × State :=
  let b := (qwinOf s w).txBuf
  let frame := slice b 16 (u16 b 0)
  let port := u8 b 2
  let c := u8 b 3
  let n := berths (frame.length + 4)
  if port = 0xFF then
    let r := forward attHost n (targets s 99 (u16 b 4) frame) (u16 b 4) c none frame s
    (r.1, r.2.2)
  else if !(portOf s port).up || ((portOf s port).blocked && !isPtp frame) then (0, countP port 32 1 s)
  else admitAll [egressQ port c] attHost n n
    (fun _ => { bytes := frame, ts := if u16 b 6 = 1 then some (some w, u16 b 8) else none }) s { vid := u16 b 4, cls := c }

/-- Bytes of a pixel in a sign write's format (R527). -/
def pixelBytes (format : Nat) : Nat := match format with | 0 => 6 | 1 => 3 | _ => 2

/-- The 16-byte sign write header is in range, its rectangle within the port's geometry (R527). -/
def signHeaderOk (s : State) (b : List Byte) : Bool :=
  let g := tget {} s.par.lampSign.signs (u8 b 0)
  u8 b 0 ≤ 1 && u8 b 1 ≤ 2 && u16 b 2 == 0 && u32 b 12 == 0 && g.width != 0
    && u16 b 4 + u16 b 8 ≤ g.width && u16 b 6 + u16 b 10 ≤ g.height

/-- The reason for which a record of an attached window is refused before its admission (R527). -/
def signReason (s : State) (w total : Nat) (exact : Bool) : Nat :=
  let x := qwinOf s w
  let b := x.txBuf
  if (if exact then total else (total + 3) / 4 * 4) != b.length then 1
  else if u8 b 1 ≤ 2 && total != 16 + u16 b 8 * u16 b 10 * pixelBytes (u8 b 1) then 1
  else if !signHeaderOk s b then 4
  else if x.txOver then 5
  else 0

/-- Puts a sign write into its port's data queue (R527). -/
def signAdmit (att : Nat) (b : List Byte) (s : State) : Nat × State :=
  admitAll [214 + u8 b 0] att (berths b.length) (berths b.length) (fun _ => { bytes := b }) s

/-- Closes the open transmit record (R438, R445, R527); answers the reason of its refusal, 0 where it is accepted. -/
def txClose (w total : Nat) (exact : Bool) (s : State) : Nat × State :=
  let sign := s.lampSign.streams.contains w
  let r := if sign then signReason s w total exact else txReason s w total exact
  let a := if r != 0 then (0, s)
    else if sign then signAdmit attHost ((qwinOf s w).txBuf.take total) s else txAdmit w s
  let reason := if r != 0 then r else if a.1 = 0 then 6 else 0
  let s := updQwin w (fun x =>
    let y := { x with txOpen := false, txBuf := [], txOver := false }
    if reason = 0 then { y with accepted := y.accepted + 1 }
    else { y with result := reason, refused := y.refused + 1 }) a.2
  (reason, if reason = 0 then s else count 30 11 (if sign then count 35 11 s else s))

/-- QW_TX_DATA written (R438, R439). -/
def txData (w : Nat) (v : Word) (s : State) : State := if ltServes s w then s else txAppend w (le 4 v.toNat) s

/-- QW_TX_END written (R438, R439). -/
def txEnd (w : Nat) (v : Word) (s : State) : State :=
  if ltServes s w || !(qwinOf s w).txOpen then s else (txClose w (v.toNat % 65536) false s).2

/-- A read of a queue window register, and its side effect (R434, R435, R436, R437). -/
def qwRead (w off : Nat) (s : State) : Word × State :=
  let x := qwinOf s w
  let es := (poolQ s (128 + w)).entries
  let h := headOf s w
  let v (n : Nat) : Word × State := (BitVec.ofNat 32 n, s)
  if off = 0x000 then
    v (1 + 2 * bit es.isEmpty + 4 * bit x.underrun + 8 * bit x.lost + 16 * bit (ltServes s w) + 32 * bit x.txOpen
      + 65536 * min es.length 65535)
  else if off = 0x004 then v (match h with | some e => e.bytes.length % 65536 + 65536 * e.kind | none => 0)
  else if off = 0x008 then v (match h with | some e => (e.bytes.length - x.pos) % 65536 | none => 0)
  else if off = 0x010 || off ≥ 0x800 then popMain w s
  else if off = 0x014 || (0x400 ≤ off && off < 0x800) then popTagged w s
  else if off = 0x018 then (x.last, s)
  else if off = 0x01C then (x.underruns, updQwin w (fun x => { x with underruns := 0 }) s)
  else if off = 0x020 then (x.rxDropped, updQwin w (fun x => { x with rxDropped := 0 }) s)
  else if off = 0x024 then v (used s (128 + w))
  else if off = 0x028 then v x.rxLimit
  else if off = 0x040 then v (txRoom s w)
  else if off = 0x04C then v (x.result + 65536 * x.accepted.toNat)
  else if off = 0x050 then (x.refused, updQwin w (fun x => { x with refused := 0 }) s)
  else v 0

/-- A full-word write of a queue window register (R434, R435, R438). -/
def qwWrite (w off : Nat) (v : Word) (s : State) : State :=
  if off = 0x000 then updQwin w (fun x => { x with underrun := x.underrun && !v.getLsbD 2, lost := x.lost && !v.getLsbD 3 }) s
  else if off = 0x00C then popSkip w v s
  else if off = 0x044 then txData w v s
  else if off = 0x048 then txEnd w v s
  else s

/-- The offsets of a queue window that hold a register (R434). -/
def qwDefined (off : Nat) : Bool := off < 0x2C || (0x40 ≤ off && off < 0x54) || 0x400 ≤ off

/-- A queue window access by an origin: proper where it holds the owning session (R80, R432). -/
def qwProper (o : Origin) (w : Nat) (s : State) : Bool := w < 16 && holds o (qwinOf s w).owner s

/-- A read answered to an origin: zero for an improper access (R19). -/
def readAt (o : Origin) (addr : Nat) (proper : Bool) (f : State → Word × State) (s : State) : State :=
  if proper then
    let r := f s
    emit (.read o addr r.1) r.2
  else emit (.read o addr 0) s

/-- QW_DATA_READ (R436). -/
def execQwDataRead (o : Origin) (w : Nat) (s : State) : Res :=
  doneIn [.host, .stats, .pool, .out] s (readAt o (qwBase w + 0x10) (qwProper o w s) (popMain w) s)

/-- QW_TAGGED_READ (R437). -/
def execQwTaggedRead (o : Origin) (w : Nat) (s : State) : Res :=
  doneIn [.host, .stats, .pool, .out] s (readAt o (qwBase w + 0x14) (qwProper o w s) (popTagged w) s)

/-- QW_POP_SKIP (R434). -/
def execQwPopSkip (o : Origin) (w : Nat) (v : Word) (s : State) : Res :=
  doneIn [.host, .pool, .out] s (if qwProper o w s then popSkip w v s else s)

/-- QW_TX_DATA (R438). -/
def execQwTxData (o : Origin) (w : Nat) (v : Word) (s : State) : Res :=
  doneIn [.host, .stats, .pool, .out] s (if qwProper o w s then txData w v s else s)

/-- QW_TX_END (R438). -/
def execQwTxEnd (o : Origin) (w : Nat) (v : Word) (s : State) : Res := doneIn [.host, .stats, .pool, .ports, .out] s (if qwProper o w s then txEnd w v s else s)

/-! ## Host lighter channels -/

/-- Interrupt of a channel (R447). -/
def ltIrq (n : Nat) (s : State) : State :=
  let c := ltOf s n
  match c.owner with
  | some (w, _) => if c.irqEn && (c.done || c.error) then msix (8 * w + c.cfgVec) s else s
  | none => s

/-- Writes bytes 12 to 31 of a descriptor and closes it (R440, R447): the code, the SOR, EOR and TRUNCATED bits and the
record's kind. -/
def endDesc (n : Nat) (d : Desc) (code : Nat) (sor eor trunc : Bool) (kind : Nat) (s : State) : State :=
  let c := ltOf s n
  let status := 1 + 2 * bit (code != 0) + 4 * bit sor + 8 * bit eor + 16 * bit trunc + 256 * code + 4096 * kind
  let ctl := d.control.toNat / 2 * 2
  let s := emit (.hostMem n (c.base + 32 * d.idx + 12) (le 2 ctl ++ le 2 0 ++ le 8 d.cookie ++ le 4 status ++ le 4 d.moved)) s
  let fire := d.control.getLsbD 2 || code != 0
  let s := updLt n (fun c => { c with desc := none, lastAddr := some (c.base + 32 * d.idx + 12), descDone := c.descDone + 1, done := c.done || d.control.getLsbD 2,
                                      error := c.error || code != 0, code := if code != 0 then code else c.code }) s
  let s := if code = 0 then s else raise 0x0A82 (le 1 n ++ le 1 code ++ le 2 d.idx) (count 30 14 s)
  if fire then ltIrq n s else s

/-- Truncates the receive record in progress (R444). -/
def truncateRec (n : Nat) (s : State) : State :=
  let w := (ltOf s n).cfgWin
  let s := updLt n (fun c => { c with rxOpen := false, trunc := true, truncated := c.truncated + 1 }) (releaseRec w s)
  count 30 12 (updQwin w (fun x => { x with truncs := x.truncs + 1 }) s)

/-- What a descriptor moved goes back: it starts again from its beginning (R440). -/
def rewind (n : Nat) (d : Desc) (s : State) : State :=
  let w := (ltOf s n).cfgWin
  if d.control.getLsbD 3 then updQwin w (fun x => { x with pos := x.pos - d.moved }) s
  else updQwin w (fun x =>
    if d.control.getLsbD 4 then { x with txOpen := false, txBuf := [], txOver := false }
    else { x with txBuf := x.txBuf.take (x.txBuf.length - d.moved) }) s

/-- Writes the status of a descriptor that stopped its channel: bytes 12 to 31, or 24 to 31 of one that was never read; one that
host memory cannot take is owed until it can be reached (R440, R442). -/
def writeStop (n code idx : Nat) (d : Option Desc) (s : State) : State :=
  let base := (ltOf s n).base + 32 * idx
  let st := le 4 (3 + 256 * code) ++ le 4 ((d.map (·.moved)).getD 0)
  let x : Nat × List Byte := match d with
    | some d => (base + 12, le 2 (d.control.toNat / 2 * 2) ++ le 2 0 ++ le 8 d.cookie ++ st)
    | none => (base + 24, st)
  if code = 3 then updLt n (fun c => { c with owed := some x }) s
  else emit (.hostMem n x.1 x.2) (updLt n (fun c => { c with lastAddr := some x.1 }) s)

/-- Writes an owed status once host memory can be reached (R440). -/
def payOwed (n : Nat) (s : State) : State :=
  match (ltOf s n).owed with
  | some x => emit (.hostMem n x.1 x.2) (updLt n (fun c => { c with owed := none, lastAddr := some x.1 }) s)
  | none => s

/-- Stops a channel on a code (R440): HEAD stays on the descriptor, which is d where it was read. -/
def stopOn (n code idx : Nat) (d : Option Desc) (s : State) : State :=
  let s := match (ltOf s n).desc with | some x => rewind n x s | none => s
  let s := updLt n (fun c => { c with enable := false, stopped := true, desc := none, head := idx, error := true, code,
                                      errIndex := idx }) (writeStop n code idx d s)
  ltIrq n (raise 0x0A82 (le 1 n ++ le 1 code ++ le 2 idx) (count 30 14 s))

/-- Disables a channel (R449). -/
def disableLt (n : Nat) (s : State) : State :=
  let c := ltOf s n
  let rx := c.rxOpen || (match c.desc with | some d => d.control.getLsbD 3 && d.moved != 0 | none => false)
  let s := match c.desc with
    | some d => endDesc n d 4 d.sor rx rx (match headOf s c.cfgWin with | some e => if rx then e.kind else 0 | none => 0) s
    | none => s
  let s := if rx then truncateRec n s else s
  markAll [30] flPartial (updLt n (fun c => { c with enable := false }) s)

/-- LT_CTRL written (R62, R447, R448, R449): a channel that is enabled starts at the next edge. -/
def ltCtrl (n : Nat) (v : Word) (s : State) : State :=
  let c := ltOf s n
  let on := v.getLsbD 0
  let pace := v.toNat / 4 % 4
  let s := updLt n (fun c => { c with irqEn := v.getLsbD 1, pace := if c.enable || pace == 3 then c.pace else pace }) s
  if c.enable && !on then disableLt n s
  else if !c.enable && on && !ltServes s c.cfgWin then
    markAll [30] flPartial (updLt n (fun c => { c with enable := true, runFrom := s.clk.ran + 1, stopped := false }) s)
  else s

/-- LT_TAIL written (R448). -/
def ltTail (n : Nat) (v : Word) (s : State) : State :=
  let t := v.toNat % 4096
  if t < (ltOf s n).count then updLt n (fun c => { c with tail := t }) s else s

/-- LT_BASE_LO, LT_BASE_HI, LT_COUNT and LT_CFG written (R446, R448). -/
def ltConfig (n off : Nat) (v : Word) (s : State) : State :=
  if (ltOf s n).enable then s
  else if off = 0x008 then
    updLt n (fun c => { c with base := c.base / 2 ^ 32 * 2 ^ 32 + v.toNat / 32 * 32, head := 0, tail := 0 }) s
  else if off = 0x00C then updLt n (fun c => { c with base := v.toNat * 2 ^ 32 + c.base % 2 ^ 32, head := 0, tail := 0 }) s
  else if off = 0x010 then
    let k := v.toNat % 8192
    if [2, 4, 8, 16, 32, 64, 128, 256, 512, 1024, 2048, 4096].contains k then
      updLt n (fun c => { c with count := k, head := 0, tail := 0 }) s
    else s
  else if off = 0x01C then
    updLt n (fun c => { c with cfgWin := v.toNat % 16, cfgVec := v.toNat / 16 % 8, cfgWait := v.toNat / 256 % 1024 }) s
  else s

def ltProper (o : Origin) (n : Nat) (s : State) : Bool := n < 8 && holds o (ltOf s n).owner s

def execLtCtrlWrite (o : Origin) (n : Nat) (v : Word) (s : State) : Res := doneIn [.host, .stats, .pool, .out] s (if ltProper o n s then ltCtrl n v s else s)

def execLtTailWrite (o : Origin) (n : Nat) (v : Word) (s : State) : Res := doneIn [.pool] s (if ltProper o n s then ltTail n v s else s)

def execLtRingConfigWrite (o : Origin) (n off : Nat) (v : Word) (s : State) : Res :=
  doneIn [.pool] s (if ltProper o n s then ltConfig n off v s else s)

/-- The offsets of a host lighter channel that hold a register (R446). -/
def ltDefined (off : Nat) : Bool := off < 0x34

/-- A read of a host lighter channel register (R446, R447). -/
def ltRead (n off : Nat) (s : State) : Word × State :=
  let c := ltOf s n
  let v (k : Nat) : Word × State := (BitVec.ofNat 32 k, s)
  if off = 0x000 then v (bit c.enable + 2 * bit c.irqEn + 4 * c.pace)
  else if off = 0x004 then
    v (2 * bit c.desc.isNone + 4 * bit c.done + 8 * bit c.error + 16 * c.code + 256 * bit c.trunc)
  else if off = 0x008 then v (c.base % 2 ^ 32)
  else if off = 0x00C then v (c.base / 2 ^ 32)
  else if off = 0x010 then v c.count
  else if off = 0x014 then v c.tail
  else if off = 0x018 then v c.head
  else if off = 0x01C then v (c.cfgWin + 16 * c.cfgVec + 256 * c.cfgWait)
  else if off = 0x020 then v (c.bytes % 2 ^ 32)
  else if off = 0x024 then v (c.bytes / 2 ^ 32)
  else if off = 0x028 then (c.descDone, s)
  else if off = 0x02C then (c.truncated, updLt n (fun c => { c with truncated := 0 }) s)
  else if off = 0x030 then v c.errIndex
  else v 0

/-- A full-word write of a host lighter channel register (R446 to R448). -/
def ltWrite (n off : Nat) (v : Word) (s : State) : State :=
  if off = 0x000 then ltCtrl n v s
  else if off = 0x004 then
    updLt n (fun c => { c with done := c.done && !v.getLsbD 2, error := c.error && !v.getLsbD 3,
                               trunc := c.trunc && !v.getLsbD 8 }) s
  else if off = 0x014 then ltTail n v s
  else ltConfig n off v s

/-- The descriptor read at HEAD (R440). -/
def descOf (idx : Nat) (b : List Byte) : Desc :=
  { idx, addr := u64 b 0, len := u32 b 8, control := BitVec.ofNat 16 (u16 b 12), cookie := u64 b 16 }

/-- A field of the descriptor is out of range, a reserved field is not zero, or SOR and EOR do not match the record
state (R440 code 2, R445). -/
def descBad (b : List Byte) (txOpen : Bool) : Bool :=
  let c : BitVec 16 := BitVec.ofNat 16 (u16 b 12)
  u32 b 8 == 0 || u32 b 8 > 16777216 || u16 b 12 ≥ 64 || u16 b 14 != 0
    || (if c.getLsbD 3 then c.getLsbD 4 || c.getLsbD 5 else c.getLsbD 4 == txOpen)

/-- The channel's request (R443): PACE 1 asks for a complete record, PACE 2 for room of 256 bytes. -/
def ltRequest (s : State) (c : Lighter) : Bool :=
  match c.pace with
  | 1 => (headOf s c.cfgWin).isSome
  | 2 => txFits s c.cfgWin 256
  | _ => true

/-- Bytes of the next burst: up to the next host address that is a multiple of 256, or the range end (R441). -/
def burstLen (d : Desc) : Nat := min (d.len - d.moved) (256 - (d.addr + d.moved) % 256)

/-- One burst of a receive descriptor (R441, R444). -/
def rxBurst (n : Nat) (d : Desc) (s : State) : State :=
  let c := ltOf s n
  match headOf s c.cfgWin with
  | none => s
  | some e =>
    if isBad s e then endDesc n d 6 d.sor true false e.kind (updLt n (fun c => { c with rxOpen := false })
      (releaseRec c.cfgWin s))
    else
      let pos := (qwinOf s c.cfgWin).pos
      let k := min (burstLen d) (e.bytes.length - pos)
      let d := { d with moved := d.moved + k, sor := d.sor || pos == 0 }
      let a := d.addr + d.moved - k
      let s := countBurst n k (emit (.hostMem n a (slice e.bytes pos k)) (updLt n (fun c => { c with lastAddr := some a }) s))
      if pos + k ≥ e.bytes.length then
        endDesc n d 0 d.sor true false e.kind (updLt n (fun c => { c with rxOpen := false }) (releaseRec c.cfgWin s))
      else
        let s := updQwin c.cfgWin (fun x => { x with pos := pos + k }) s
        let s := updLt n (fun c => { c with desc := some d, rxOpen := true }) s
        if d.moved == d.len && c.head != c.tail then endDesc n d 0 d.sor false false e.kind s else s

/-- One burst of a transmit descriptor (R441, R445): what host memory answers is the whole 4-byte-aligned span, of which the bytes
before the range are discarded. -/
def txBurst (n : Nat) (d : Desc) (data : List Byte) (s : State) : State :=
  let w := (ltOf s n).cfgWin
  let k := burstLen d
  let a := d.addr + d.moved
  let s := txAppend w ((data.drop (a % 4) ++ zeros k).take k) (emit (.hostRead n (a / 4 * 4) ((a + k + 3) / 4 * 4 - a / 4 * 4)) s)
  let d := { d with moved := d.moved + k }
  let s := countBurst n k (updLt n (fun c => { c with desc := some d }) s)
  if d.moved < d.len then s
  else if d.control.getLsbD 5 then
    let r := txClose w (qwinOf s w).txBuf.length true s
    endDesc n d (if r.1 = 0 then 0 else 7) (d.control.getLsbD 4) true false 0 r.2
  else endDesc n d 0 (d.control.getLsbD 4) false false 0 s

/-- The window that a channel names is bound to the channel's session (R440 code 5). -/
def ltOwnWin (s : State) (n : Nat) : Bool :=
  match (ltOf s n).owner, (qwinOf s (ltOf s n).cfgWin).owner with
  | some a, some b => a == b
  | _, _ => false

/-- Starts the descriptor at HEAD (R440, R442): the checks in the order of the codes. -/
def startDesc (n : Nat) (m : HostMem) (s : State) : State :=
  let c := ltOf s n
  let d := descOf c.head m.desc
  let s := updLt n (fun c => { c with waitRx := false }) s
  if !m.ok then stopOn n 3 c.head none s
  else if u16 m.desc 12 % 2 = 0 then stopOn n 1 c.head (some d) s
  else if descBad m.desc (qwinOf s c.cfgWin).txOpen then stopOn n 2 c.head (some d) s
  else if !ltOwnWin s n then stopOn n 5 c.head (some d) s
  else if d.control.getLsbD 3 && (headOf s c.cfgWin).isNone then updLt n (fun c => { c with waitRx := true }) s
  else
    (fun s =>
      let s := match c.lastAddr with
        | some a => if d.control.getLsbD 1 then emit (.hostRead n a 0) s else s
        | none => s
      updLt n (fun c => { c with desc := some d, head := (c.head + 1) % c.count }) s) s

/-- One burst of a host channel (R443): what host memory answers comes with the command. -/
def hostBurst (n : Nat) (m : HostMem) (s : State) : State :=
  let s := if m.ok then payOwed n s else s
  let c := ltOf s n
  if !ltRuns s n then s
  else
    let s := match c.desc with
      | some d => if d.moved == d.len && c.head != c.tail then
          endDesc n d 0 d.sor false false (match headOf s c.cfgWin with | some e => e.kind | none => 0) s else s
      | none => s
    let c := ltOf s n
    if !ltRequest s c then s
    else
      let s := match c.desc with
        | some _ => s
        | none => if c.head == c.tail then s else startDesc n m s
      match (ltOf s n).desc with
      | none => s
      | some d =>
        if d.moved == d.len then s
        else if !m.ok then stopOn n 3 d.idx (some d) s
        else if !ltOwnWin s n then stopOn n 5 d.idx (some d) s
        else if d.control.getLsbD 3 then rxBurst n d s
        else txBurst n d m.data s

/-- RING_WAIT_EXPIRY (R444): the next buffer of a record was not there for longer than the ring wait. -/
def execRingWaitExpiry (n : Nat) (s : State) : Res :=
  let c := ltOf s n
  doneIn [.host, .stats, .pool, .out] s (match c.desc with
    | some d =>
      if n < 8 && ltRuns s n && c.rxOpen && d.moved == d.len && c.head == c.tail then
        truncateRec n (endDesc n d 0 d.sor true true (match headOf s c.cfgWin with | some e => e.kind | none => 0) s)
      else s
    | none => s)

/-- HOST_MEMORY_TIMEOUT (R440): no completion within 50 ms. -/
def execHostMemoryTimeout (n : Nat) (s : State) : Res :=
  let c := ltOf s n
  doneIn [.host, .stats, .pool, .out] s (if n < 8 && ltRuns s n then
      match c.desc with
      | some d => stopOn n 3 d.idx (some d) s
      | none => if c.head == c.tail then s else stopOn n 3 c.head none s
    else s)

/-! ## Error correction -/

/-- Marks what an uncorrected error hit (R431): a control queue's entry is discarded at once. -/
def markBad (id : Nat) (s : State) : State :=
  let x := tget ({} : Stored) s.pool.store id
  if x.refs = 0 then s
  else
    let ctl := ((List.range 16).map (· + 112)).filter fun q => (poolQ s q).entries.any fun e => e.id == id
    match ctl with
    | q :: _ =>
      match (poolQ s q).entries.find? fun e => e.id == id with
      | some e => logIt 0x0A 21 5 0 [q] (free e (updQ q (fun x => { x with entries := x.entries.erase e }) s))
      | none => s
    | [] => updPool (fun p => { p with store := tput {} p.store id { x with bad := true } }) s

def countEcc (corrected uncorrected : Nat) (s : State) : State :=
  countN 30 5 uncorrected (countN 30 4 corrected (updPool (fun p => { p with
    eccCorrected := p.eccCorrected + BitVec.ofNat 32 corrected, eccSoft := p.eccSoft || corrected != 0
    eccUncorrected := p.eccUncorrected + BitVec.ofNat 32 uncorrected, eccNow := p.eccNow || uncorrected != 0 }) s))

/-- A corrected error that a scrub found at a bit of a berth, which the two scrubs before found there too, retires it (R431). -/
def scrubCorrected (b k : Nat) (s : State) : State :=
  let was := ((s.pool.corrected.find? fun x => x.1 == (b, k)).map (·.2)).getD 0
  if was ≥ 2 then retire b s else s

/-- An uncorrected error in a berth, and what the berth's stored frame has of it (R431). -/
def shownUncorrected (b : Nat) (s : State) : State :=
  match storedAt s b with | some i => markBad i (showBad b s) | none => showBad b s

/-- ECC_SCRUB (R418, R431): what SECDED found in a pass of the scrubber, or, scrub clear, in an ordinary read: corrected errors by
berth and bit, uncorrected ones by berth, and those of the link table, which only count. -/
def execEccScrub (e : EccReport) (s : State) : Res :=
  doneIn [.host, .stats, .pool, .log, .out] s (
    let old := s.pool.corrected
    let s := countEcc (e.corrected.length + e.linkCorrected) e.linkUncorrected s
    let t := if e.scrub then e.corrected.foldl (fun s x => scrubCorrected x.1 x.2 s) s else s
    let runs := e.corrected.map fun x => (x, ((old.find? fun y => y.1 == x).map (·.2)).getD 0 + 1)
    e.uncorrected.foldl (fun s b => shownUncorrected b s)
      (if e.scrub then updPool (fun p => { p with corrected := runs }) t else t))

/-- What the pool does at a tide edge: POOL_ECC and QW_LOSS of the ended tide (R454). -/
def poolAtEdge (s : State) : State :=
  let p := s.pool
  let soft := p.eccSoft && (match p.eccTold with | some n => n + 6000 ≤ s.clk.ran | none => true)
  let s := if p.eccNow || soft then
      raise 0x0A80 (le 4 p.eccCorrected.toNat ++ le 4 p.eccUncorrected.toNat ++ le 2 p.retired.length ++ le 2 0)
        (updPool (fun p => { p with eccTold := if p.eccNow then p.eccTold else some s.clk.ran }) s)
    else s
  let s := updPool (fun p => { p with eccNow := false, eccSoft := p.eccSoft && !(p.eccNow || soft) }) s
  each (List.range 16) (fun w s =>
    let x := qwinOf s w
    let ev (k n : Nat) (s : State) := if n = 0 then s else raise 0x0A83 (le 1 w ++ le 1 k ++ le 2 n) s
    if x.drops + x.unders + x.truncs = 0 then s
    else updQwin w (fun x => { x with drops := 0, unders := 0, truncs := 0 })
      (ev 3 x.truncs (ev 2 x.unders (ev 1 x.drops s)))) s

/-! ## Pool service commands -/

/-- POOL_STATUS (R453). -/
def poolStatusBytes (s : State) : List Byte :=
  let p := s.pool
  le 4 (131072 - p.retired.length - sumOf (fun x => x.2.n) p.store - sumOf (fun x => openBerths x.2) p.qwins) ++ le 4 (sharedFree s) ++ le 4 (sharedSize s)
    ++ le 2 (ctrlUsed s) ++ le 2 p.retired.length ++ le 4 p.eccCorrected.toNat ++ le 4 p.eccUncorrected.toNat
    ++ le 1 s.par.pool.alpha ++ le 1 (bit p.pressure) ++ zeros 6

def execPoolStatus (w : Nat) (s : State) : Res :=
  answered s (onCmd w 0x0A01 anyPayload (fun _ s => ok w (poolStatusBytes s) s) s)

/-- QUEUE_STATUS (R451). -/
def queueStatusBytes (s : State) (q : Nat) : List Byte :=
  let x := poolQ s q
  le 2 q ++ le 1 (queueKind q) ++ le 1 0 ++ le 4 (used s q) ++ le 4 (qMin s q) ++ le 4 (qMax s q) ++ le 4 x.high
    ++ le 4 x.refused.toNat

def execQueueStatus (w : Nat) (s : State) : Res :=
  answered s (onCmd w 0x0A02 (fun p => u16 p 0 > 255) (fun p s => ok w (queueStatusBytes s (u16 p 0)) s) s)

/-- POOL_STATS (R450, R451). -/
def execPoolStats (w : Nat) (s : State) : Res :=
  answered s (onCmd w 0x0A03 anyPayload (fun _ s => ok w (snapshot 30 15 s) s) s)

/-- The owner of a window or channel is another session than the one in a window (R452). -/
def heldByOther (owner : Option (Nat × Nat)) (w : Nat) (s : State) : Bool :=
  match owner with | some x => x.2 != callerSid s w | none => false

/-- QW_BIND (R432, R451, R452). -/
def qwBindF (w : Nat) (p : List Byte) (s : State) : State :=
  let q := u8 p 0
  let o := (qwinOf s q).owner
  let me := some (w, callerSid s w)
  if u8 p 1 = 1 then
    if heldByOther o w s then refuse w stBUSY s
    else
      let new (x : QWin) : QWin := { x with owner := me, rxLimit := u16 p 2, txPorts := BitVec.ofNat 16 (u16 p 4) }
      ok w (le 8 0) (updQwin q new s)
  else if o != me then refuse w stSTATE s
  else ok w (le 8 (nextTide s)) (switch (.queueWindow q) false s)

def qwBindBad (p : List Byte) : Bool :=
  u8 p 0 > 15 || u8 p 1 > 1 || u16 p 2 < 64 || u16 p 2 > 16384 || (u16 p 4).testBit 14

def execQwBind (w : Nat) (s : State) : Res := doneIn [.host, .pool, .switches, .out] s (onCmd w 0x0A40 qwBindBad (qwBindF w) s)

/-- LT_BIND (R451, R452). -/
def ltBindF (w : Nat) (p : List Byte) (s : State) : State :=
  let n := u8 p 0
  let o := (ltOf s n).owner
  let me := some (w, callerSid s w)
  if u8 p 1 = 1 then
    if heldByOther o w s then refuse w stBUSY s
    else if callerOrigin s w != 1 then refuse w stSTATE s
    else ok w (le 8 0) (updLt n (fun c => { c with owner := me }) s)
  else if o != me then refuse w stSTATE s
  else ok w (le 8 (nextTide s)) (switch (.lighter n) false s)

def execLtBind (w : Nat) (s : State) : Res :=
  doneIn [.host, .pool, .switches, .out] s (onCmd w 0x0A41 (fun p => u8 p 0 > 7 || u8 p 1 > 1) (ltBindF w) s)

/-- Releases a host lighter channel at its edge (R449): every register returns to its reset value. -/
def releaseLt (n : Nat) (s : State) : State := updLt n (fun _ => {}) (if (ltOf s n).enable then disableLt n s else s)

/-- Releases a queue window at its edge (R151, R449): its records are discarded and counted, and timestamps that wait for
it are dropped. -/
def releaseQwin (q : Nat) (s : State) : State :=
  let k := (poolQ s (128 + q)).entries.length
  let s := countN 30 9 k (clearQ (128 + q) s)
  let s := updQwin q (fun _ => {}) s
  each allPorts (fun p s => updPtp p (fun x =>
    { x with txq := x.txq.filter (fun e => e.owner != some q), asked := x.asked.filter (fun e => e.owner != some q) }) s) s

/-- A TIME_TX_STAMP of up to six entries, and the ones that follow (R151, R173); the fuel is the number of entries. -/
def stampEvents (w p : Nat) : Nat → List TxEntry → State → State
  | 0, _, s => s
  | k + 1, es, s =>
    if es.isEmpty then s
    else
      let now := es.take 6
      let body := now.flatMap fun e => le 2 e.id ++ le 1 p ++ le 1 0 ++ le 6 e.stamp.sec ++ le 4 e.stamp.ns ++ le 2 0
      stampEvents w p k (es.drop 6)
        (deliverTo { code := 0x0386, tide := s.clk.tide, payload := le 1 now.length ++ zeros 3 ++ body } w s)

/-- An entry of the module's own PTP instance (R139, R140, R145): the follow-up of a Sync or of a Pdelay_Resp leaves, and a
request keeps its timestamp for its answer. -/
def ownStamp (p : Nat) (e : TxEntry) (s : State) : State :=
  match e.kind with
  | 0 => ptpSend p 8 e.id (logSyncOf s p) [e.stamp.sec, e.stamp.ns] s
  | 3 => ptpSend p 10 e.id 0x7F ([e.stamp.sec, e.stamp.ns] ++ e.req) s
  | _ => updPtp p (fun x => if x.reqSeq == e.id then { x with reqStamp := some e.stamp } else x) s

/-- The session that owns the queue window of an entry (R151). -/
def stampSession (s : State) (e : TxEntry) : Option (Nat × Nat) :=
  match e.owner.bind fun q => (qwinOf s q).owner with
  | some (w, sid) => if (win s w).sid == sid then some (w, sid) else none
  | none => none

/-- Empties the timestamp queue of a port (R148, R151): host entries go in egress order to the session that owns the sending
window, the module's own entries to its messages. -/
def drainPort (p : Nat) (s : State) : State :=
  let es := (ptpOf s p).txq
  let s := updPtp p (fun x => { x with txq := [] }) s
  let s := (es.filter fun e => e.owner.isNone).foldl (fun s e => ownStamp p e s) s
  each windows (fun w s =>
    let mine := es.filter fun e => (stampSession s e).any fun x => x.1 == w
    stampEvents w p mine.length mine s) s

/-- TX_TIMESTAMP_DRAIN (R151). -/
def execTxTimestampDrain (s : State) : Res := doneIn [.host, .stats, .time, .pool, .ports, .out] s (each allPorts drainPort s)

end Sys2Proof.Machine
end

