-- ==== Sys2Proof/Machine/Engine.lean ====
section
/-! DEFINITION. Sys2Proof/Machine/Engine.lean: the reservation engine (chapter 11): conflicts, the batch check, what takes
effect at an edge, horizons and the halt hold. -/

namespace Sys2Proof.Machine

def updFleet (f : Fleet → Fleet) (s : State) : State := { s with fleet := f s.fleet }

def veh (s : State) (v : Nat) : Vehicle := tget {} s.fleet.vehicles v

def updVeh (v : Nat) (f : Vehicle → Vehicle) (s : State) : State :=
  updFleet (fun x => { x with vehicles := tput {} x.vehicles v (f (veh s v)) }) s

/-- The vehicle is configured (R358, R385). -/
def vehicleCfg (s : State) (v : Nat) : Bool := (tget ({} : VehicleCfg) s.par.fleet.vehicles v).present

/-- The configured vehicles, ascending. -/
def fleetVehicles (s : State) : List Nat := (s.par.fleet.vehicles.filter fun x => x.2.present).map (·.1)

def heldOf (t : Tbl (List Held)) (v : Nat) : List Held := tget [] t v

/-! ## Intervals -/

/-- Tide t lies in the interval. -/
def Held.covers (h : Held) (t : Nat) : Bool := h.enter ≤ t && (match h.leave with | some b => t < b | none => true)

/-- a < b + g, always true of a standing interval (R347). -/
def before (a : Nat) (b : Option Nat) (g : Nat) : Bool := match b with | some b => a < b + g | none => true

/-- Conflict set of a cell, which always includes the cell itself (R346). -/
def conflictSet (s : State) (c : Nat) : List Nat :=
  let l := (tget ({} : CellCfg) s.par.fleet.cells c).conflicts
  if l.contains c then l else c :: l

/-- Two intervals of different vehicles conflict (R347). -/
def conflict (s : State) (g : Nat) (x y : Held) : Bool :=
  (conflictSet s x.cell).contains y.cell && before x.enter y.leave g && before y.enter x.leave g

def ofInterval (spec : Bool) (i : Interval) : Held := { cell := i.cell, enter := i.enter, leave := i.leave, spec }

/-- The interval and a held one are the same grant. -/
def sameGrant (i : Interval) (h : Held) : Bool := h.cell == i.cell && h.enter == i.enter && h.leave == i.leave

/-! ## Answer plans (R205) and the gap in use (R354) -/

def liveNow (s : State) : List Nat := (List.range 4).filter s.fleet.live.getLsbD

/-- The plan pair of the two-transceiver plan (R205). -/
def planPair (l : List Nat) : List Nat :=
  if l.contains 2 && l.contains 3 then [2, 3] else if l.contains 0 && l.contains 1 then [0, 1] else l.take 2

/-- Answer cell of a vehicle in a tide: HB transceiver and slot; none in a tide in which it does not answer (R205). -/
def answerCell (s : State) (v k : Nat) : Option (Nat × Nat) :=
  let l := liveNow s
  match l.length with
  | 0 => none
  | 1 => if k % 128 = v % 128 then some (l.headD 0, 1 + v / 128) else none
  | 2 | 3 => if k % 64 = v % 64 then some ((planPair l).getD ((v / 64) % 2) 0, 1 + v / 128) else none
  | _ => if k % 32 = v % 32 then some ((v / 32) % 4, 1 + (v / 32) / 4) else none

/-- The answer transceiver of a vehicle as an HB number (R205). -/
def answerX (s : State) (v : Nat) : Option Nat :=
  let l := liveNow s
  match l.length with
  | 0 => none
  | 1 => l.head?
  | 2 | 3 => (planPair l)[(v / 64) % 2]?
  | _ => some ((v / 32) % 4)

/-- The vehicle table (R205, R213; log entry 107): a configured vehicle has an entry on its answer transceiver, made with the ASN of
this tide's first slot less one, and no other vehicle has one. -/
def syncVehicles (s : State) : State :=
  let ls := s.radio.links.filter fun l => l.1 < 0x1000 || vehicleCfg s (l.1 - 0x1000)
  let s : State := { s with radio := { s.radio with links := ls } }
  (fleetVehicles s).foldl (fun s v =>
    let l := link s (0x1000 + v)
    match answerX s v with
    | none => s
    | some j =>
      if l.st = 0 then
        let a := asnBefore (8 + j) s.clk.tide
        setLink (0x1000 + v) { st := 2, x := 8 + j, lastAsn := a, shAsn := a } s
      else if l.x = 8 + j then s
      else setLink (0x1000 + v) { l with x := 8 + j } s) s

/-- The clearance gap in use (R354). -/
def gapNow (s : State) : Nat :=
  let m := s.par.fleet.misses
  match (liveNow s).length with
  | 2 | 3 => max s.par.fleet.gap (64 * m + 1)
  | 1 => max s.par.fleet.gap (128 * m + 1)
  | _ => s.par.fleet.gap

/-! ## Classes -/

def task (s : State) (t : Nat) : Task := tget {} s.fleet.tasks t

/-- Class of a vehicle: the priority of its task while that is ACTIVE or LOADED, else 3 (R362). -/
def classOf (s : State) (v : Nat) : Nat :=
  (s.fleet.tasks.filter fun x => x.2.used && x.2.vehicle == v && (x.2.st == 2 || x.2.st == 3)).foldl
    (fun a x => min a x.2.prio) 3

/-! ## The batch check (R351) -/

/-- Applies what a checked request does (R350, R351). -/
def applyOp (o : ResOp) (t : Tbl (List Held)) : Tbl (List Held) :=
  match o with
  | .commit v adds removes =>
    let h := (heldOf t v).map fun x => if !x.spec && removes.any (sameGrant · x) then { x with removing := true } else x
    tput [] t v (h.filter (fun x => !x.spec) ++ adds.map (ofInterval false) ++ h.filter (fun x => x.spec))
  | .spec v set => tput [] t v ((heldOf t v).filter (fun x => !x.spec) ++ set.map (ofInterval true))
  | .drop v n =>
    let h := heldOf t v
    tput [] t v (h.filter (fun x => !x.spec) ++ (h.filter (fun x => x.spec)).take n)

/-- Removals that R350 releases leave the engine. -/
def dropReleased (t : Tbl (List Held)) : Tbl (List Held) :=
  t.foldl (fun r x => tput [] r x.1 (x.2.filter fun h => !h.released)) []

/-- The addition is what stays of a held committed interval that the request shortens (R348, R350). -/
def shortens (held : List Held) (removes : List Interval) (i : Interval) : Bool :=
  held.any fun x => !x.spec && !x.removing && removes.any (sameGrant · x) && x.cell == i.cell && x.enter == i.enter
    && (match i.leave with | some b => before b x.leave 0 | none => false)

/-- A committed addition within R348 for a vehicle with these intervals: the shortening of one keeps its enter tide. -/
def addOk (s : State) (held : List Held) (removes : List Interval) (i : Interval) : Bool :=
  let k := s.clk.tide
  i.cell < 65536 && (i.enter ≥ k + 1 + s.par.fleet.pathLead || shortens held removes i)
    && (match i.leave with | some b => i.enter < b && b ≤ k + 3000 | none => true)

/-- A speculative interval within R348. -/
def specOk (s : State) (i : Interval) : Bool :=
  let k := s.clk.tide
  i.cell < 65536 && i.enter ≥ k + 1 && (match i.leave with | some b => i.enter < b && b ≤ k + 6000 | none => false)

/-- Interval entries of a request (R349). -/
def reqSize (r : ResRequest) : Nat := r.adds.length + r.removes.length + (r.spec.getD []).length

/-- The request is within R349 and names a vehicle of the fleet. -/
def requestOk (s : State) (r : ResRequest) : Bool := vehicleCfg s r.vehicle && reqSize r ≤ 256

/-- The first request of each vehicle in a batch; a vehicle asks once in a tide (R349). -/
def firstRequests (l : List ResRequest) : List ResRequest :=
  l.foldl (fun a r => if a.any fun x => x.vehicle == r.vehicle then a else a ++ [r]) []

/-- Intervals in the engine. -/
def engineSize (t : Tbl (List Held)) : Nat := t.foldl (fun a x => a + x.2.length) 0

/-- The limits of 1,024 intervals of a vehicle and 262,144 in all (R348). -/
def capOk (t : Tbl (List Held)) (v : Nat) : Bool := (heldOf t v).length ≤ 1024 && engineSize t ≤ 262144

/-- pairs(r) (R351): over each interval, each cell of its conflict set, each interval held there. -/
def pairsOf (s : State) (t : Tbl (List Held)) (l : List Interval) : Nat :=
  l.foldl (fun a i => (conflictSet s i.cell).foldl (fun a c =>
    t.foldl (fun a x => a + (x.2.filter fun h => h.cell == c).length) a) a) 0

/-- Conflicts of an interval with intervals of other vehicles that a test selects. -/
def hits (s : State) (g v : Nat) (t : Tbl (List Held)) (sel : Held → Bool) (h : Held) : Bool :=
  t.any fun x => x.1 != v && x.2.any fun y => sel y && conflict s g h y

/-- What the check of a batch has come to (R351). -/
structure Check where
  held : Tbl (List Held) := []
  ops : List ResOp := []
  budget : Nat := 2000000
  /-- The budget ended: every later request is deferred. -/
  stop : Bool := false
  committed : Nat := 0
  refused : Nat := 0
  cut : Nat := 0
  deferred : Nat := 0
  dropped : Nat := 0
  returned : List (Nat × Nat) := []
  /-- Vehicles whose request did not pass (R262). -/
  failed : List Nat := []
  survive : List (Nat × Nat) := []
  deriving DecidableEq, Repr, Inhabited

def Check.refuse (v status : Nat) (c : Check) : Check :=
  { c with refused := c.refused + 1, returned := (v, status) :: c.returned, failed := v :: c.failed }

def Check.defer (v : Nat) (c : Check) : Check :=
  { c with stop := true, deferred := c.deferred + 1, returned := (v, stBUSY) :: c.returned, failed := v :: c.failed }

/-- A further request of a vehicle in one tide breaks R349. -/
def Check.refuseFurther (rs : List ResRequest) (c : Check) : Check :=
  { c with refused := c.refused + rs.length, returned := rs.map (fun r => (r.vehicle, stFIELD)) ++ c.returned }

def Check.apply (o : ResOp) (c : Check) : Check := { c with held := applyOp o c.held, ops := c.ops ++ [o] }

/-- The surviving end tide of a speculative set of which the first n intervals stay: 0 when none do. -/
def endTide (set : List Held) : Nat := match set.getLast? with | some h => h.leave.getD 0 | none => 0

/-- Drops, of each other vehicle, its first speculative interval that conflicts with the additions and every later one
(R351). -/
def dropSpecs (s : State) (g v : Nat) (adds : List Held) (c : Check) : Check :=
  (c.held.filter fun x => x.1 != v).foldl (fun c x =>
    let sp := x.2.filter fun h => h.spec
    let n := sp.findIdx fun h => adds.any fun a => conflict s g a h
    if n < sp.length then
      { (c.apply (.drop x.1 n)) with dropped := c.dropped + (sp.length - n),
                                     survive := (x.1, endTide (sp.take n)) :: c.survive }
    else c) c

/-- A vehicle's committed additions and removals (R351). -/
def checkCommit (s : State) (g : Nat) (r : ResRequest) (c : Check) : Check :=
  let v := r.vehicle
  let adds := r.adds.map (ofInterval false)
  let after := applyOp (.commit v r.adds r.removes) c.held
  if c.stop then c.defer v
  else if !requestOk s r || !r.adds.all (addOk s (heldOf c.held v) r.removes) || !capOk after v then c.refuse v stFIELD
  else
    let p := pairsOf s c.held r.adds
    if p > c.budget then c.defer v
    else
      let c := { c with budget := c.budget - p }
      if adds.any (hits s g v c.held fun h => !h.spec) then c.refuse v stSTATE
      else
        let c := c.apply (.commit v r.adds r.removes)
        { (dropSpecs s g v adds c) with committed := c.committed + 1 }

/-- A vehicle's speculative set (R351). -/
def checkSpec (s : State) (g v : Nat) (r : ResRequest) (set : List Interval) (c : Check) : Check :=
  if c.stop then c.defer v
  else if !requestOk s r || !set.all (specOk s) || !capOk (applyOp (.spec v set) c.held) v then c.refuse v stFIELD
  else
    let p := pairsOf s c.held set
    if p > c.budget then c.defer v
    else
      let kept := set.takeWhile fun i => !hits s g v c.held (fun _ => true) (ofInterval true i)
      let c := { c with budget := c.budget - p }
      let c := if kept.length < set.length then
        { c with cut := c.cut + 1, survive := (v, endTide (kept.map (ofInterval true))) :: c.survive } else c
      c.apply (.spec v kept)

/-- Inserts a request by class and vehicle ID, ascending (R351). -/
def insertReq (cls : Nat → Nat) (r : ResRequest) : List ResRequest → List ResRequest
  | [] => [r]
  | x :: t =>
    if cls r.vehicle < cls x.vehicle ∨ (cls r.vehicle = cls x.vehicle ∧ r.vehicle < x.vehicle) then r :: x :: t
    else x :: insertReq cls r t

/-- check(batch of tide k) (R351). -/
def checkBatch (s : State) : Check :=
  let g := gapNow s
  let first := firstRequests s.fleet.batch
  let rs := first.foldl (fun l r => insertReq (classOf s) r l) []
  let c : Check := { held := dropReleased s.fleet.held }
  let c := c.refuseFurther (first.foldl (fun l r => l.erase r) s.fleet.batch)
  let c := (rs.filter fun r => !r.adds.isEmpty || !r.removes.isEmpty).foldl (fun c r => checkCommit s g r c) c
  rs.foldl (fun c r => match r.spec with | some set => checkSpec s g r.vehicle r set c | none => c) c

/-- Requests of the batch: commitments and speculative sets, each counted (R381). -/
def batchSize (l : List ResRequest) : Nat :=
  l.foldl (fun a r => a + bit (!r.adds.isEmpty || !r.removes.isEmpty) + bit r.spec.isSome) 0

/-- RESERVATION_BATCH_CHECK (R351, R381). -/
def execReservationBatchCheck (s : State) : Res :=
  doneIn [.stats, .fleet] s (
    if !s.fleet.on || clusterOff s || s.fleet.shadow.isSome then s
    else
      let c := checkBatch s
      let p := s.fleet.pairs + (2000000 - c.budget)
      let s := countN 15 0 (batchSize s.fleet.batch) (countN 15 2 c.refused (countN 15 3 c.cut (countN 15 4 c.deferred
        (countN 15 6 (p / 1000) s))))
      let sh : Shadow := { ops := c.ops, committed := c.committed, dropped := c.dropped, failed := c.failed }
      updFleet (fun x => { x with shadow := some sh, pairs := p % 1000, batch := [], returned := c.returned ++ x.returned,
                                  survive := c.survive ++ x.survive }) s)

/-- The nodes that a conditional frame names; a RECALL that names none is for every node of its transceiver (R241, R261). -/
def condNodes (s : State) (f : CondFrame) : List Nat :=
  if !f.clear then (entriesOf 6 (u8 f.body 6) (f.body.drop 7)).map fun e => u16 e 0
  else if u8 f.body 3 = 0 then (s.radio.links.filter fun l => l.1 < 0x1000 && l.2.x == f.x).map (·.1)
  else (List.range (u8 f.body 3)).map fun i => u16 f.body (4 + 2 * i)

/-- A released frame waits for three cells of its transceiver (R260, R262). -/
def releaseFrame (f : CondFrame) (s : State) : State :=
  let l := s.lantern
  let m : NnpMsg := { node := 0xFFFF, x := f.x, kind := if f.clear then 0x19 else 0x18, body := f.body, left := 3, dsn := l.dsn + 1 }
  { s with lantern := { l with
      recalls := l.recalls ++ [m], dsn := l.dsn + 1, parked := insertAscending f.x l.parked, condOut := true
      condSet := l.condSet ++ condNodes s f } }

/-- The conditional frames of the requests that passed are released; those of the others are dropped (R262). -/
def releaseCond (failed : List Nat) (s : State) : State :=
  let s' : State := { s with lantern := { s.lantern with cond := [] } }
  (s.lantern.cond.filter fun c => !failed.contains c.1).foldl (fun s c => releaseFrame c.2 s) s'

/-- RESERVATION_DEADLINE (R262, R351, R352). -/
def execReservationDeadline (complete : Bool) (s : State) : Res :=
  doneIn [.clk, .host, .stats, .radio, .lantern, .fleet, .out] s (
    let late (s : State) : State := lateArrival 2 1 (updFleet (fun x => { x with shadow := none, batch := [], discarded := true })
        { s with lantern := { s.lantern with cond := [] } })
    match s.fleet.shadow with
    | none => if s.fleet.batch.isEmpty then s else late s
    | some sh =>
      if complete then
        let s := countN 15 1 sh.committed (countN 15 5 sh.dropped s)
        updFleet (fun x => { x with accepted := sh.ops, shadow := none }) (releaseCond sh.failed s)
      else late s)

/-! ## Horizons (R353) -/

/-- Committed intervals that count: held, and carried in the newest PATH acknowledged (R353, R360). -/
def ackedHeld (s : State) (v : Nat) : List Held :=
  (veh s v).ackedSet.filter fun a => (heldOf s.fleet.held v).any fun h => !h.spec && h.cell == a.cell && h.enter == a.enter

/-- End of the unbroken run of intervals from tide t; none is unbounded. The fuel bounds the intervals used. -/
def runEnd (l : List Held) : Nat → Nat → Option Nat
  | 0, t => some t
  | n + 1, t =>
    match l.filter (·.covers t) with
    | [] => some t
    | h :: r => if (h :: r).any fun x => x.leave.isNone then none
                else runEnd l n ((h :: r).foldl (fun a x => max a (x.leave.getD 0)) t)

/-- Committed horizon of a vehicle at a tide; none is unbounded (R353). -/
def horizon (s : State) (v k : Nat) : Option Nat :=
  let l := ackedHeld s v
  (runEnd l (l.length + 1) k).map (· - k)

/-- An acknowledged committed interval grants the vehicle the cell at the tide (R355, R357). -/
def grants (s : State) (v c t : Nat) : Bool := c != 0xFFFF && (ackedHeld s v).any fun h => h.cell == c && h.covers t

def lowHorizon (s : State) (v k : Nat) : Bool := match horizon s v k with | some n => n < s.par.fleet.hMin | none => false

/-! ## HELD (R355 to R357) -/

/-- FLEET_VEHICLE_STATE, for at most 16 changes in a tide (R386). -/
def vehicleEvent (v old new : Nat) (s : State) : State :=
  if s.fleet.events < 16 then
    raise 0x0882 (le 1 v ++ le 1 old ++ le 1 new ++ le 1 (veh s v).causes.toNat)
      (updFleet (fun x => { x with events := x.events + 1 }) s)
  else updFleet (fun x => { x with unreported := x.unreported + 1, toHeld := x.toHeld + bit (new == 2),
                                   toActive := x.toActive + bit (new == 1) }) s

/-- The changes of the ended tide that no event of their own reported (R386). -/
def fleetSummary (s : State) : State :=
  let x := s.fleet
  let t := updFleet (fun x => { x with events := 0, unreported := 0, toHeld := 0, toActive := 0 }) s
  if x.unreported = 0 then t
  else raise 0x0886 (le 2 x.unreported ++ le 2 x.toHeld ++ le 2 x.toActive ++ le 2 0) t

/-- brake_tides of a vehicle's class (R354). -/
def brakeTides (s : State) (v : Nat) : Nat := tget 40 s.par.fleet.brake (classOf s v)

/-- The halt hold (R356): intervals over the span from the last acknowledgement to k + brake_tides become standing, and
the speculative set is dropped. -/
def haltHold (v : Nat) (s : State) : State :=
  let a := (veh s v).lastAck
  let z := s.clk.tide + brakeTides s v
  let h := ((heldOf s.fleet.held v).filter fun h => !h.spec).map fun h =>
    if h.enter ≤ z && before a h.leave 0 then { h with leave := none, removing := false, removedAt := none, released := false, hold := true }
    else h
  updVeh v (fun x => { x with pathDue := x.pathDue || h != heldOf s.fleet.held v })
    (updFleet (fun x => { x with held := tput [] x.held v h }) s)

/-- A vehicle enters HELD (R356). -/
def enterHeld (v : Nat) (s : State) : State :=
  if (veh s v).held then s
  else haltHold v (vehicleEvent v 1 2 (count 15 11
    (updVeh v (fun x => { x with held := true, since := s.clk.tide, exit := 0, exitSeq := none }) s)))

/-- A vehicle that is HELD already enters it again: it needs a fresh commit, and the halt hold applies (R371, R380). -/
def holdAnew (v : Nat) (s : State) : State :=
  haltHold v (updVeh v (fun x => { x with since := s.clk.tide, exit := 0, exitSeq := none }) s)

/-- Every vehicle enters HELD under cause 5, and the halt hold applies to each (R68, R355, R371, R380). -/
def holdAll (s : State) : State :=
  (fleetVehicles s).foldl (fun s v =>
    let s := updVeh v (fun x => { x with causes := x.causes ||| 0x20 }) s
    if (veh s v).held then holdAnew v s else enterHeld v s) s

/-- Conditions of R357. -/
def mayLeave (s : State) (v : Nat) : Bool := (veh s v).held && (veh s v).causes == 0 && (veh s v).exit == 3

/-- VEHICLE_HELD_ENTRY (R355, R356): a cause held at this edge. -/
def execVehicleHeldEntry (v : Nat) (s : State) : Res :=
  doneIn [.host, .stats, .fleet, .out] s (if vehicleCfg s v && s.fleet.on && (veh s v).causes != 0 then enterHeld v s else s)

/-- VEHICLE_HELD_EXIT (R357). -/
def execVehicleHeldExit (v : Nat) (s : State) : Res :=
  doneIn [.host, .fleet, .out] s (if vehicleCfg s v && s.fleet.on && mayLeave s v then
    vehicleEvent v 2 1 (updVeh v (fun x => { x with held := false, since := 0, exit := 0, exitSeq := none }) s) else s)

/-- HORIZON_FLOOR (R52, R355): the horizon fell below H_min; the vehicle is held, and its zones are halted (R356). -/
def execHorizonFloor (v : Nat) (s : State) : Res :=
  doneIn [.host, .stats, .fleet, .out] s (if vehicleCfg s v && s.fleet.on && lowHorizon s v s.clk.tide then
    enterHeld v (updVeh v (fun x => { x with causes := x.causes ||| 1 }) s) else s)

/-- ANSWER_OPPORTUNITY_MISSED (R355): the answer cell of this tide passed without a valid acknowledgement. -/
def execAnswerOpportunityMissed (v : Nat) (s : State) : Res :=
  doneIn [.stats, .fleet] s (if vehicleCfg s v && s.fleet.on && (answerCell s v s.clk.tide).isSome && !(veh s v).answered then
    count 15 10 (updVeh v (fun x => { x with missed := min 255 (x.missed + 1), answered := true }) s) else s)

/-! ## What takes effect at a tide edge -/

/-- The takeover-in-progress source (R555, R558). -/
def takeoverOn (s : State) : Bool := s.pr.takeover || s.pr.termHalt.isSome

/-- The all-zones sources of R369 that are active, as the bits of R384. -/
def allZones (s : State) : Nat :=
  bit (clusterDown s) + 2 * bit (takeoverOn s) + 4 * bit s.time.prov + 8 * bit s.clk.preHalted + 16 * bit (!s.fleet.on)
    + 32 * bit s.cfg.defaultedBit

/-- Cause 6 of R355: another vehicle's halt hold conflicts with a committed interval of the vehicle. -/
def holdConflict (s : State) (v : Nat) : Bool :=
  ((heldOf s.fleet.held v).filter fun h => !h.spec).any fun h => hits s (gapNow s) v s.fleet.held (·.hold) h

/-- The causes of R355 at this edge. -/
def causesOf (s : State) (v : Nat) : BitVec 7 :=
  let x := veh s v
  BitVec.ofNat 7 (bit (lowHorizon s v s.clk.tide) + 2 * bit (x.missed ≥ s.par.fleet.misses) + 4 * bit x.misplaced
    + 8 * bit (x.ackState == 3 || x.ackState == 4) + 16 * bit x.hostHold + 32 * bit (allZones s != 0)
    + 64 * bit (holdConflict s v))

/-- The vehicle whose held set an operation changes, and whether it is a commit. -/
def opVehicle : ResOp → Nat × Bool
  | .commit v _ _ => (v, true)
  | .spec v _ => (v, false)
  | .drop v _ => (v, false)

/-- An accepted operation takes effect (R348, R350, R351, R357). -/
def takeOp (s : State) (o : ResOp) : State :=
  let v := (opVehicle o).1
  let gen : BitVec 16 := match o with | .spec _ _ => 1 | _ => 0
  let now := applyOp o s.fleet.held
  let mark (h : Held) : Held := if h.removing && h.removedAt.isNone then { h with removedAt := some (veh s v).pathSent.toNat } else h
  updVeh v (fun x => { x with pathDue := true, specGen := x.specGen + gen,
                              exit := if (opVehicle o).2 && x.held && x.exit == 0 then 1 else x.exit })
    (updFleet (fun x => { x with held := tput [] now v ((heldOf now v).map mark) }) s)

/-- Intervals whose leave tide and gap have passed conflict with nothing and leave the engine, which changes the held set; the bow
waves of their trails go on (R257, R258, R360; DESIGN CHOICE, log entry 113: the spec does not say when a past interval leaves). -/
def dropPast (s : State) : State :=
  let for_ (g : Nat) (h : Held) : Bool := match h.leave with | some b => b + g > s.clk.tide | none => true
  let g := gapNow s
  let vs := (s.fleet.held.filter fun x => !x.2.all (for_ g)).map (·.1)
  let s := vs.foldl (fun s v => updVeh v (fun x => { x with pathDue := true }) s) s
  updFleet (fun x =>
    let gone := x.held.map fun y => (y.1, (tget [] x.passed y.1 ++ y.2.filter fun h => !for_ g h).filter (for_ 1000))
    { x with held := x.held.foldl (fun r y => tput [] r y.1 (y.2.filter (for_ g))) []
             passed := gone.foldl (fun r y => tput [] r y.1 y.2)
               (x.passed.foldl (fun r y => tput [] r y.1 (y.2.filter (for_ 1000))) []) }) s

/-- Released removals leave the engine at the edge: the held set changes (R350, R360). -/
def takeReleased (s : State) : State :=
  let vs := (s.fleet.held.filter fun x => x.2.any fun h => h.released).map (·.1)
  vs.foldl (fun s v => updVeh v (fun x => { x with pathDue := true }) s) (updFleet (fun x => { x with held := dropReleased x.held }) s)

/-- After an all-zones halt a vehicle that is HELD already needs a fresh commit too (R371). -/
def freshHold (was : Bool) (x : Vehicle) : Vehicle :=
  if x.held && x.causes.getLsbD 5 && !was then { x with exit := 0, exitSeq := none } else x

/-- What the fleet service does at a tide edge, after the tide number is set (R205, R350, R351, R355, R370). -/
def fleetAtEdge (s : State) : State :=
  let s := if s.fleet.discarded then s else takeReleased s
  let s := s.fleet.accepted.foldl takeOp s
  let s := updFleet (fun x => { x with
    accepted := [], batch := [], shadow := none, discarded := false, requestNow := x.request, request := 0, ootSeq := 0, ootAt := [], lost := []
    live := (liveHb s).foldl (fun a j => a ||| ((1 : BitVec 4) <<< j)) 0 }) s
  let s := dropPast (syncVehicles s)
  if !s.fleet.on then s
  else
    let cs := (fleetVehicles s).map fun v => (v, causesOf s v)
    cs.foldl (fun s x => updVeh x.1 (fun y => freshHold (y.causes.getLsbD 5) { y with causes := x.2, answered := false }) s) s

/-- Intervals wholly within the skipped numbers and not standing are removed (R72, R380): numbers from a to b - 1. -/
def dropSkipped (a b : Nat) (s : State) : State :=
  let gone (h : Held) : Bool := match h.leave with | some z => a ≤ h.enter && z ≤ b | none => false
  let vs := (s.fleet.held.filter fun x => x.2.any gone).map (·.1)
  vs.foldl (fun s v => updVeh v (fun x => { x with pathDue := true }) s)
    (updFleet (fun x => { x with held := x.held.foldl (fun r y => tput [] r y.1 (y.2.filter fun h => !gone h)) [] }) s)

end Sys2Proof.Machine
end

