-- ==== Sys2Proof/Machine/Fleet.lean ====
section
/-! DEFINITION. Sys2Proof/Machine/Fleet.lean: the halt path, the horn's content, fleet link messages, tasks and the fleet
service commands (chapter 11). -/

namespace Sys2Proof.Machine

/-! ## Claim and flags (R367, R541) -/

/-- The module's unit number: 0 under factory defaults and in single mode unless configuration gives one (R541, R544). -/
def unitNo (s : State) : Nat := if s.cfg.defaultedBit then 0 else s.par.pr.unit

/-- The module's claim (R541): claim 0 is the factory-default claim. -/
def claim (s : State) : Nat :=
  if s.cfg.defaultedBit then 0 else 4 * s.pr.term + (if s.sys.tender then 0 else unitNo s)

/-- Flags [4:0] of R367 with all zones halted as given (R543). -/
def claimFlags (s : State) (all : Bool) : Nat :=
  bit (!s.sys.tender) + 2 * bit (takeoverOn s) + 4 * bit (clusterDown s) + 8 * bit s.time.prov + 16 * bit all

def allHalted : BitVec 64 := 0xFFFFFFFFFFFFFFFF

/-! ## Relays (R374) -/

/-- The conditions of R374; on a tender the outputs stay de-energised (R540), and the power-fail signal opens them
(R537). -/
def relayOk (s : State) : Bool :=
  s.sys.hmRuns && !s.fleet.input.active && s.fleet.hostRelay == 0 && s.fleet.on && !s.cfg.defaultedBit && !s.sys.tender
    && !s.pr.powerFail

def setRelays (on : Bool) (s : State) : State :=
  let v : BitVec 2 := if on then 3 else 0
  if s.fleet.relays == v then s
  else emitAll [.pin pinRelay on, .pin (pinRelay + 1) on] (updFleet (fun x => { x with relays := v }) s)

/-- The outputs are de-energised as soon as a condition fails (R374). -/
def checkRelays (s : State) : State := if relayOk s then s else setRelays false s

/-- RELAY_ENERGISE (R374): at the first tide edge after the last condition holds. -/
def execRelayEnergise (s : State) : Res := doneIn [.fleet, .out] s (if relayOk s then setRelays true s else s)

/-- RELAY_READBACK_FAULT (R374, R635): a read-back that differs three times in a row from the commanded state. -/
def execRelayReadbackFault (output : Nat) (read : Bool) (s : State) : Res :=
  doneIn [.host, .log, .out] s (
    let c := s.fleet.relays.getLsbD output
    if output > 1 || read == c then s
    else logIt 0x08 1 6 0 [output, bit c, bit read] (raise 0x0885 (le 1 output ++ le 1 (bit c) ++ le 1 (bit read) ++ le 1 0) s))

/-! ## Zones (R346, R369, R370) -/

/-- The zone of a cell, as a bit. -/
def zoneBit (s : State) (c : Nat) : BitVec 64 := (1 : BitVec 64) <<< (tget ({} : CellCfg) s.par.fleet.cells c).zone

/-- Zones of a vehicle's committed intervals (R356). -/
def zonesOf (s : State) (v : Nat) : BitVec 64 :=
  ((heldOf s.fleet.held v).filter fun h => !h.spec).foldl (fun a h => a ||| zoneBit s h.cell) 0

def byFloor (s : State) : BitVec 64 :=
  (fleetVehicles s).foldl (fun a v => if (veh s v).held then a ||| zonesOf s v else a) 0

def byInput (s : State) : BitVec 64 := if s.fleet.input.active then s.par.fleet.inputMask else 0

/-- Zones whose release the fleet service may request: no vehicle with a committed interval there is HELD, and the latest
acknowledgement of each reports the module's claim c (R371). -/
def mayRequest (s : State) (c : Nat) : BitVec 64 :=
  ~~~ (fleetVehicles s).foldl (fun a v => if (veh s v).held || (veh s v).hornClaim != c then a ||| zonesOf s v else a) 0

/-- The zone halt bitmap from the sources of R369. -/
def haltSources (s : State) : BitVec 64 :=
  if allZones s != 0 then allHalted else byInput s ||| s.fleet.host ||| byFloor s

/-! ## The horn's content (R366, R370) -/

/-- The horn before an edge at which a correction of 10 ms or more applies halts every zone (R68). -/
def preHalt (s : State) : Bool :=
  match s.clk.correction with
  | some c => c.tide ≤ nextTide s && (c.d ≥ 10000000 || c.d ≤ -10000000)
  | none => false

/-- The horn before the edge of an activation halts every zone: in single mode (R577). -/
def actHalt (s : State) : Bool :=
  match s.upd.sched with
  | some a => !s.par.pr.pair && a.tide ≤ nextTide s
  | none => false

/-- The content of a horn frozen now (R366, R367, R375). -/
def hornContent (s : State) (halt : BitVec 64) (seq us : Nat) : Horn :=
  { tide := s.clk.tide, claim := claim s, live := s.fleet.live, ootSeq := seq, frozenUs := us, halt,
    flags := BitVec.ofNat 8 (claimFlags s (halt == allHalted) + 32 * bit s.fleet.input.active) }

/-- HORN_FREEZE (R35, R68, R366, R369, R370, R386): content enters the radio control queues with priority 255 (R421). -/
def execHornFreeze (s : State) : Res :=
  doneIn [.clk, .host, .stats, .pool, .fleet, .out] s (
    let s : State := { s with clk := { s.clk with preHalted := preHalt s } }
    let src := if actHalt s then allHalted else haltSources s
    let rel := (s.fleet.released ||| s.fleet.requestNow) &&& ~~~src
    let h := hornContent s (~~~rel) 0 100
    let chg := rel ^^^ s.fleet.released
    let s := updFleet (fun x => { x with released := rel, horn := h, lastHalt := h.halt, requestNow := 0 }) s
    let s := if chg = 0 then s else raise 0x0880 (le 8 s.clk.tide ++ le 8 h.halt.toNat ++ le 8 chg.toNat) s
    let b := le 8 h.tide ++ le 2 h.claim ++ le 1 h.flags.toNat ++ le 8 h.halt.toNat
    (enqueueCtrl 113 255 b (enqueueCtrl 112 255 b s).2).2)

/-- A request for an out-of-tide horn that halts more zones (R208, R375). -/
def requestOot (new : BitVec 64) (us : Nat) (s : State) : State :=
  if new &&& ~~~s.fleet.lastHalt == 0 then s
  else if s.sys.tender || !s.sys.hmRuns || s.pr.powerFail || s.clk.stretched then s
  else if us ≥ 9700 || us ≤ 100 || s.fleet.ootSeq ≥ 255 || s.fleet.live == 0 then s
  else
    let h := hornContent s (s.fleet.lastHalt ||| new) (s.fleet.ootSeq + 1) us
    let chg := s.fleet.released &&& h.halt
    let s := updFleet (fun x => { x with oot := h, ootWait := x.live, ootSent := false, ootSeq := x.ootSeq + 1, lastHalt := h.halt, ootAt := us :: x.ootAt
                                         released := x.released &&& ~~~h.halt }) s
    if chg = 0 then s else raise 0x0880 (le 8 s.clk.tide ++ le 8 h.halt.toNat ++ le 8 chg.toNat) s

/-- Zones that new halts hold become HALTED in the next horn; they leave RELEASED at once when an out-of-tide horn halts
them (R370, R375). -/
def haltNow (new : BitVec 64) (us : Nat) (s : State) : State := checkRelays (requestOot new us s)

/-! ## Halt input (R372, R373) -/

/-- FLEET_HALT_INPUT (R386). -/
def inputEvent (kind us : Nat) (s : State) : State :=
  raise 0x0881 (le 1 kind ++ le 1 s.fleet.input.chan.toNat ++ le 2 0 ++ le 4 us) s

def updInput (f : HaltIn → HaltIn) (s : State) : State := updFleet (fun x => { x with input := f x.input }) s

/-- The source clears (R372). -/
def clearInput (us : Nat) (s : State) : State := inputEvent 2 us (updInput (fun i => { i with active := false }) s)

/-- A channel's accepted level (R372, R373). -/
def chanLevel (b : Bool) (run : Bool) (us ran : Nat) (i : HaltIn) : HaltIn :=
  let m : BitVec 2 := if b then 2 else 1
  let c := if run then i.chan &&& ~~~m else i.chan ||| m
  let same := c == 0 || c == 3
  { i with
    chan := c
    differ := if same then none else some (i.differ.getD (ran, us))
    discStep := if c == 3 then 1 else if c == 0 && i.discStep ≥ 1 then 2 else i.discStep
    runFrom := if c == 0 then ran else i.runFrom }

/-- HALT_INPUT_CHANGE (R372, R373, R374, R375, R634). -/
def execHaltInputChange (b run : Bool) (us : Nat) (s : State) : Res :=
  doneIn [.host, .fleet, .out] s (
    let s := updInput (chanLevel b run us s.clk.ran) s
    if run || s.fleet.input.active then s
    else haltNow s.par.fleet.inputMask us (inputEvent 1 us (updInput (fun i => { i with active := true }) s)))

/-- HALT_DISCREPANCY_LATCH (R373): the channels differ for longer than the discrepancy time. -/
def execHaltDiscrepancyLatch (us : Nat) (s : State) : Res :=
  doneIn [.host, .fleet, .out] s (
    match s.fleet.input.differ with
    | none => s
    | some (t, u) =>
      if s.fleet.input.disc || (s.clk.ran - t) * 10000 + us < u + s.par.fleet.discrepancyMs * 1000 then s
      else inputEvent 3 us (updInput (fun i => { i with disc := true, discStep := 0 }) s))

/-- HALT_INPUT_AUTO_CLEAR (R372): in unlatched mode, after both channels have been in run for 100 tides. -/
def execHaltInputAutoClear (us : Nat) (s : State) : Res :=
  doneIn [.host, .fleet, .out] s (
    let i := s.fleet.input
    if i.active && !s.par.fleet.latched && !i.disc && i.chan == 0 && s.clk.ran ≥ i.runFrom + 100 then clearInput us s else s)

/-! ## Fleet link (R358 to R361) -/

/-- The link key of a vehicle, and the nonce of a datagram to it (2) or from it (3), from its tide and seq fields (R335,
R358). -/
def linkKeyOf (s : State) (v : Nat) : List Byte := key16 (tget ({} : VehicleCfg) s.par.fleet.vehicles v).linkKey

def linkNonce (v dir : Nat) (tide seq : List Byte) : List Byte := le 1 v ++ le 1 dir ++ le 2 0 ++ tide ++ seq ++ le 2 0

/-- Sends a datagram to a vehicle (R358): tag under its link key. -/
def sendLink (v kind : Nat) (body : List Byte) (s : State) : State :=
  let c := tget ({} : VehicleCfg) s.par.fleet.vehicles v
  let q := (veh s v).seqOut + 1
  let h := le 2 0x9E52 ++ le 1 1 ++ le 1 v ++ le 4 s.clk.tide ++ le 2 q.toNat ++ le 1 kind ++ le 1 0 ++ le 2 body.length ++ le 2 0
    ++ body
  sendDatagram v c.fieldPort c.addr s.par.fleet.txPort
    (h ++ gcmTag (linkKeyOf s v) (linkNonce v 2 (le 4 s.clk.tide) (le 2 q.toNat)) h)
    (updVeh v (fun x => { x with seqOut := q }) s)

/-- Newer under the rule of R336. -/
def newerSeq (seq : Nat) (last : Option Nat) : Bool :=
  match last with
  | none => true
  | some l => let x := (seq + 65536 - l) % 65536
    1 ≤ x && x ≤ 32767

/-- A datagram has the layout of R358, of the type given and from a vehicle. -/
def linkForm (kind : Nat) (d : List Byte) : Bool :=
  u16 d 0 == 0x9E53 && u8 d 2 == 1 && u8 d 10 == kind && 8 ≤ u16 d 12 && u16 d 12 ≤ 1392 && d.length == 32 + u16 d 12

/-- The tag of a vehicle's datagram verifies (R358). -/
def linkTagOk (s : State) (d : List Byte) : Bool :=
  let n := 16 + u16 d 12
  gcmTag (linkKeyOf s (u8 d 3)) (linkNonce (u8 d 3) 3 ((d.drop 4).take 4) ((d.drop 8).take 2)) (d.take n) == (d.drop n).take 16

/-- The body of a datagram (R358). -/
def linkBody (d : List Byte) : List Byte := (d.drop 16).take (u16 d 12)

/-- A datagram from a vehicle passes when its tag verifies and its seq is newer; others count in LINK_REJECTED (R358). -/
def linkRx (kind : Nat) (d : List Byte) (f : Nat → List Byte → State → State) (s : State) : State :=
  let v := u8 d 3
  if !linkForm kind d then s
  else if linkTagOk s d && vehicleCfg s v && newerSeq (u16 d 8) (veh s v).seqIn then
    f v (linkBody d) (updVeh v (fun x => { x with seqIn := some (u16 d 8) }) s)
  else count 15 14 s

/-- Orders entries by enter tide, then cell. -/
def insertHeld (h : Held) : List Held → List Held
  | [] => [h]
  | x :: t => if h.enter < x.enter ∨ (h.enter = x.enter ∧ h.cell < x.cell) then h :: x :: t else x :: insertHeld h t

def sortHeld (l : List Held) : List Held := l.foldl (fun r h => insertHeld h r) []

/-- The intervals that a PATH carries (R350, R359): held, not removed, leaving after base_tide. -/
def pathEntries (s : State) (v : Nat) : List Held :=
  sortHeld ((heldOf s.fleet.held v).filter fun h => !h.removing && before s.clk.tide h.leave 0)

def spanOf (h : Held) : Nat := (match h.leave with | some b => b - h.enter | none => 0x7FFF) + 0x8000 * bit h.spec

/-- One part of a PATH (R359). -/
def pathPart (seq gen base i n : Nat) (es : List Held) : List Byte :=
  le 2 seq ++ le 2 gen ++ le 4 base ++ le 1 (i + 16 * n) ++ le 1 es.length ++ le 2 0
    ++ es.flatMap fun h => le 2 h.cell ++ le 4 h.enter ++ le 2 (spanOf h)

/-- Sends a PATH in its parts of up to 160 entries (R359). -/
def sendPath (v : Nat) (p : SentPath) (base : Nat) (s : State) : State :=
  let n := max 1 ((p.entries.length + 159) / 160)
  each (List.range n) (fun i s =>
    sendLink v 1 (pathPart p.seq (veh s v).specGen.toNat base i n (slice' p.entries (160 * i) 160)) s) s
where
  slice' (l : List Held) (i n : Nat) : List Held := (l.drop i).take n

/-- PATH_SEND (R357, R359, R360). -/
def execPathSend (v : Nat) (s : State) : Res :=
  doneIn [.host, .stats, .pool, .ports, .fleet, .out] s (
    if !s.fleet.on || !vehicleCfg s v || !(veh s v).pathDue then s
    else
      let q := (veh s v).pathSent + 1
      let p : SentPath := { seq := q.toNat, entries := pathEntries s v }
      sendPath v p s.clk.tide (updVeh v (fun x => { x with
        pathDue := false, pathSent := q, pathTide := s.clk.tide, sent := p :: x.sent
        exitSeq := if x.exit == 1 && x.exitSeq.isNone then some q.toNat else x.exitSeq }) s))

/-- PATH_RESEND (R360): every 5 tides until the newest PATH is acknowledged. -/
def execPathResend (v : Nat) (s : State) : Res :=
  doneIn [.host, .stats, .pool, .ports, .fleet, .out] s (
    let x := veh s v
    match x.sent with
    | [] => s
    | p :: _ =>
      if !s.fleet.on || x.acked == some p.seq || s.clk.tide ≤ x.pathTide || (s.clk.tide - x.pathTide) % 5 != 0 then s
      else sendPath v p x.pathTide s)

/-- A PATH still carries time of a removed interval: an entry of its cell overlaps it that is no longer held (R350). -/
def carries (p : SentPath) (now : List Held) (h : Held) : Bool :=
  p.entries.any fun e => e.cell == h.cell && before e.enter h.leave 0 && before h.enter e.leave 0
    && !now.any fun x => !x.removing && x.cell == e.cell && x.enter == e.enter && x.leave == e.leave

/-- The acknowledgement of a PATH (R350, R357, R360). -/
def pathAcked (v : Nat) (p : SentPath) (s : State) : State :=
  let now := heldOf s.fleet.held v
  let later (h : Held) : Bool := match h.removedAt with | some q => newerSeq p.seq (some q) | none => false
  let held := now.map fun h => if h.removing && later h && !carries p now h then { h with released := true } else h
  updVeh v (fun x => { x with
      acked := some p.seq, ackedSet := p.entries.filter fun h => !h.spec
      sent := x.sent.filter fun y => y.seq == p.seq || newerSeq y.seq (some p.seq)
      exit := match x.exitSeq with
        | some q => if x.exit == 1 && (q == p.seq || newerSeq p.seq (some q)) then 2 else x.exit
        | none => x.exit })
    (updFleet (fun x => { x with held := tput [] x.held v held }) s)

/-- PATH_ACK (R358, R360): it counts only when parts_mask covers every part and its PATH is newer than any acknowledged. -/
def pathAckF (v : Nat) (b : List Byte) (s : State) : State :=
  match (veh s v).sent.find? fun p => p.seq == u16 b 0 with
  | none => s
  | some p =>
    let n := max 1 ((p.entries.length + 159) / 160)
    if newerSeq p.seq (veh s v).acked && (u16 b 2) % 2 ^ n == 2 ^ n - 1 then pathAcked v p s else s

def execPathAck (d : List Byte) (s : State) : Res := doneIn [.stats, .fleet] s (linkRx 2 d pathAckF s)

/-! ## Tasks (R361 to R365) -/

def updTask (t : Nat) (f : Task → Task) (s : State) : State :=
  updFleet (fun x => { x with tasks := tput {} x.tasks t (f (task s t)) }) s

/-- TASK to a vehicle (R361): none while the service is disabled (R380). -/
def sendTask (v t : Nat) (epoch : BitVec 8) (action : Nat) (s : State) : State :=
  let x := task s t
  if !s.fleet.on || !vehicleCfg s v then s
  else sendLink v 3 (le 2 t ++ le 1 epoch.toNat ++ le 1 action ++ le 1 x.kind ++ le 1 x.prio ++ le 2 x.fromCell ++ le 2 x.toCell
    ++ le 2 0 ++ le 4 x.due ++ le 8 x.ref) s

/-- FLEET_TASK_STATE (R386). -/
def taskEvent (t : Nat) (s : State) : State :=
  let x := task s t
  raise 0x0883 (le 2 t ++ le 1 x.st ++ le 1 (min x.vehicle 0xFF) ++ le 1 x.epoch.toNat ++ le 3 0) s

def setTask (t st : Nat) (f : Task → Task) (s : State) : State :=
  let old := (task s t).st
  let s := updTask t (fun x => f { x with st }) s
  if old = st then s else taskEvent t s

/-- The cluster places QUEUED tasks by the allotment rules of configuration (R362, log entry 10). -/
def placeTasks (s : State) : State :=
  if !s.fleet.on then s
  else (s.fleet.tasks.filter fun x => x.2.used && x.2.st == 0 && x.2.cancel.isNone).foldl (fun s x =>
    match Config.allot x.1 (fleetVehicles s) with
    | none => s
    | some v =>
      if !(fleetVehicles s).contains v then s
      else
        let e := (task s x.1).epoch + 1
        sendTask v x.1 e 1 (setTask x.1 1 (fun y => { y with vehicle := v, epoch := e, placed := s.clk.tide }) s)) s

/-- The end of a cancel that waits (R382). -/
def endCancel (t status : Nat) (s : State) : State :=
  let j := (task s t).cancel
  finishOpt j status (updTask t (fun x => { x with cancel := none }) s)

/-- The vehicle has withdrawn from a cancelled task (R382). -/
def withdrawn (t : Nat) (s : State) : State :=
  endCancel t stOK (setTask t 6 (fun x => { x with vehicle := 256 }) s)

/-- A report under the current placement (R362, R364): refused, the task is queued again. -/
def freshReport (t report : Nat) (s : State) : State :=
  let x := task s t
  let waits := x.cancel.isSome
  match report with
  | 1 => if x.st == 1 then setTask t 2 id s else s
  | 3 => let s := setTask t 3 id s
         if waits then endCancel t stSTATE s else s
  | 4 => if x.st == 3 then setTask t 2 id s else s
  | 5 => let s := setTask t 4 id s
         if waits then endCancel t stSTATE s else s
  | 6 => if waits then withdrawn t s else setTask t 5 id s
  | 7 => if waits then withdrawn t s else setTask t 0 (fun x => { x with vehicle := 256 }) s
  | _ => s

/-- A stale report 3 or 4 records a change of custody (R364). -/
def staleCustody (v t report : Nat) (s : State) : State :=
  let x := task s t
  let s := finishOpt (match x.move with | some m => m.job | none => none) stSTATE s
  let s := updTask t (fun y => { y with move := some { vehicle := v, tide := nextTide s, custody := some report } }) s
  raise 0x0884 (le 2 t ++ le 1 (min x.vehicle 0xFF) ++ le 1 v ++ le 1 report ++ le 3 0) (count 15 13 s)

/-- TASK_REPORT (R64, R358, R361, R364). -/
def taskReportF (v : Nat) (b : List Byte) (s : State) : State :=
  let t := u16 b 0
  let x := task s t
  let k := fullTide s.clk.tide (u32 b 8)
  if t > 4095 || !x.used then count 15 12 s
  else if x.vehicle == v && x.epoch.toNat == u8 b 2 && k ≥ x.placed then freshReport t (u8 b 3) s
  else if u8 b 3 == 3 || u8 b 3 == 4 then staleCustody v t (u8 b 3) s
  else count 15 12 s

def execTaskReport (d : List Byte) (s : State) : Res :=
  doneIn [.host, .stats, .fleet, .log, .out] s (linkRx 4 d taskReportF s)

/-- A task moves at its edge (R63, R363, R364). -/
def taskMoveEdge (t : Nat) (s : State) : State :=
  let x := task s t
  match x.move with
  | none => s
  | some m =>
    if m.tide > s.clk.tide then s
    else
      let s := updTask t (fun y => { y with move := none }) s
      if m.custody.isNone && x.st > 2 then finishOpt m.job stSTATE s
      else
        let e := x.epoch + 1
        let st := match m.custody with | some r => if r == 3 then 3 else 2 | none => 1
        let s := if x.vehicle != m.vehicle then sendTask x.vehicle t x.epoch 2 s else s
        let s := setTask t st (fun y => { y with vehicle := m.vehicle, epoch := e, placed := s.clk.tide }) s
        finishOpt m.job stOK (sendTask m.vehicle t e 1 s)

/-! ## Vehicle acknowledgements (R379) -/

/-- A valid acknowledgement recorded (R355, R357, R379): p is its payload. -/
def vehicleAck (v : Nat) (p : List Byte) (s : State) : State :=
  let k := s.clk.tide
  let c := u16 p 10
  let ok := grants s v c k
  let s := count 15 9 (updVeh v (fun x => { x with
    hornClaim := u16 p 6, ackState := u8 p 8, cell := c, speed := u16 p 12, task := u16 p 14, taskEpoch := u8 p 16
    lastAck := k, missed := 0, answered := true, misplaced := !ok
    exit := if x.exit == 2 && u8 p 8 ≤ 2 && ok then 3 else x.exit }) s)
  let gone := s.fleet.tasks.filter fun x => x.2.cancel.isSome && x.2.vehicle == v && x.2.st != 3 && x.1 != u16 p 14
  gone.foldl (fun s x => withdrawn x.1 s) s

/-! ## Enabling and disabling (R61, R62, R380) -/

def stopFleet (s : State) : State :=
  let s := updFleet (fun x => { x with on := false, batch := [], shadow := none, accepted := [] }) s
  checkRelays (holdAll s)

/-- The service starts; placed tasks take the next epoch (R62). On factory defaults it stays disabled (R126). -/
def startFleet (s : State) : State :=
  if s.cfg.defaultedBit then s else
  let s := syncVehicles s
  let s := updFleet (fun x => { x with on := true, tasks := x.tasks.map fun t =>
    if t.2.used && 1 ≤ t.2.st && t.2.st ≤ 3 then (t.1, { t.2 with epoch := t.2.epoch + 1, placed := s.clk.tide }) else t }) s
  (s.fleet.tasks.filter fun x => x.2.used && (x.2.st == 1 || x.2.st == 2)).foldl
    (fun s x => sendTask x.2.vehicle x.1 x.2.epoch 1 s) s

/-! ## Fleet service commands (R382 to R385) -/

/-- FLEET_STATUS (R384). -/
def fleetStatusBytes (s : State) : List Byte :=
  let f := s.fleet
  let i := f.input
  let open_ := (f.tasks.filter fun x => x.2.used && x.2.st < 4).length
  le 1 (bit f.on) ++ le 1 (i.chan.toNat + 4 * bit i.active + 8 * bit s.par.fleet.latched + 16 * bit i.disc + 32 * f.relays.toNat)
    ++ le 2 s.par.fleet.hMin ++ le 8 f.horn.halt.toNat ++ le 8 (byInput s).toNat ++ le 8 f.host.toNat ++ le 8 (byFloor s).toNat
    ++ le 1 (allZones s) ++ le 1 0 ++ le 2 ((fleetVehicles s).filter fun v => (veh s v).held).length ++ le 2 open_ ++ le 2 0
    ++ le 8 f.horn.tide

def execFleetStatus (w : Nat) (s : State) : Res :=
  answered s (onCmd w 0x0801 anyPayload (fun _ s => ok w (fleetStatusBytes s) s) s)

/-- FLEET_VEHICLE (R385). -/
def fleetVehicleBytes (v : Nat) (s : State) : List Byte :=
  let x := veh s v
  let h := heldOf s.fleet.held v
  let st := if !vehicleCfg s v then 0 else if x.held then 2 else 1
  le 1 v ++ le 1 st ++ le 1 x.causes.toNat ++ le 1 (classOf s v) ++ le 4 ((horizon s v s.clk.tide).getD 0xFFFFFFFF)
    ++ le 2 (h.filter fun y => !y.spec).length ++ le 2 (h.filter fun y => y.spec).length ++ le 2 x.specGen.toNat
    ++ le 2 x.pathSent.toNat ++ le 2 (x.acked.getD 0) ++ le 1 x.ackState ++ le 1 x.missed ++ le 2 x.cell ++ le 2 x.speed
    ++ le 2 x.task ++ le 1 x.taskEpoch ++ le 1 0 ++ le 8 x.lastAck ++ le 8 (if x.held then x.since else 0)

def execFleetVehicle (w : Nat) (s : State) : Res :=
  answered s (onCmd w 0x0802 anyPayload (fun p s => ok w (fleetVehicleBytes (u8 p 0) s) s) s)

/-- FLEET_TASK (R382): the state of an ID never added is unstated. -/
def fleetTaskBytes (t : Nat) (s : State) : List Byte :=
  let x := task s t
  le 2 t ++ le 1 (if x.used then x.st else Config.unusedTask t) ++ le 1 (min x.vehicle 0xFF) ++ le 1 x.epoch.toNat ++ le 1 x.kind
    ++ le 1 x.prio ++ le 1 0 ++ le 2 x.fromCell ++ le 2 x.toCell ++ le 8 x.due ++ le 8 x.ref ++ le 8 x.placed

def execFleetTask (w : Nat) (s : State) : Res :=
  answered s (onCmd w 0x0803 (fun p => u16 p 0 > 4095) (fun p s => ok w (fleetTaskBytes (u16 p 0) s) s) s)

/-- FLEET_PATH (R382). -/
def fleetPathBytes (v first : Nat) (s : State) : List Byte :=
  let l := sortHeld (heldOf s.fleet.held v)
  let a := ackedHeld s v
  let es := (l.drop first).take 256
  le 2 l.length ++ le 2 es.length ++ es.flatMap fun h =>
    let acked := !h.spec && a.any fun y => y.cell == h.cell && y.enter == h.enter
    le 2 h.cell ++ le 8 h.enter ++ le 2 (spanOf { h with spec := false })
      ++ le 2 (bit h.spec + 2 * bit acked + 4 * bit h.removing)

def execFleetPath (w : Nat) (s : State) : Res :=
  answered s (onCmd w 0x0804 anyPayload (fun p s => ok w (fleetPathBytes (u8 p 0) (u16 p 2) s) s) s)

/-- FLEET_STATS (R381, R382). -/
def execFleetStats (w : Nat) (s : State) : Res :=
  answered s (onCmd w 0x0805 anyPayload (fun _ s => ok w (snapshot 15 15 s) s) s)

/-- FLEET_ENABLE (R61, R126, R382, R383). On factory defaults the service is disabled, and an enable answers STATE (the status
is a DESIGN CHOICE, log entry 113). -/
def fleetEnableF (w : Nat) (p : List Byte) (s : State) : State :=
  if u8 p 0 = 1 ∧ s.cfg.defaultedBit then refuse w stSTATE s
  else if u8 p 0 = 1 ∧ clusterDown s then refuse w stDOWN s
  else ok w (le 8 (nextTide s)) (switch .fleet (u8 p 0 == 1) s)

def execFleetEnable (w : Nat) (s : State) : Res := doneIn [.host, .switches, .out] s (onCmd w 0x0840 (fun p => u8 p 0 > 1) (fleetEnableF w) s)

/-- FLEET_HALT (R369, R375, R382): us is the time since the tide edge. -/
def fleetHaltF (w us : Nat) (p : List Byte) (s : State) : State :=
  let z := BitVec.ofNat 64 (u64 p 0)
  let s := updFleet (fun x => { x with host := x.host ||| z, hostRelay := if u8 p 8 = 1 then x.hostRelay ||| z else x.hostRelay }) s
  ok w (le 8 (if us < 100 then s.clk.tide else nextTide s)) (haltNow z us s)

def execFleetHalt (w us : Nat) (s : State) : Res := doneIn [.host, .fleet, .out] s (onCmd w 0x0841 (fun p => u8 p 8 > 1) (fleetHaltF w us) s)

/-- FLEET_RELEASE (R372, R373, R382, R383, R386): us is the time since the tide edge. -/
def fleetReleaseF (w us : Nat) (p : List Byte) (s : State) : State :=
  let z := BitVec.ofNat 64 (u64 p 0)
  let src := u8 p 8
  let named (i : Nat) : Bool := (src / 2 ^ i) % 2 == 1
  if (named 1 || named 2) && s.fleet.input.chan != 0 then refuse w stSTATE s
  else
    let c0 := named 0 && s.fleet.host &&& z != 0
    let s := if c0 then updFleet (fun x => { x with host := x.host &&& ~~~z, hostRelay := x.hostRelay &&& ~~~z }) s else s
    let c2 := named 2 && s.fleet.input.disc && s.fleet.input.discStep == 2
    let s := if c2 then inputEvent 4 us (updInput (fun i => { i with disc := false, discStep := 0 }) s) else s
    let c1 := named 1 && s.fleet.input.active && !s.fleet.input.disc
    let s := if c1 then clearInput us s else s
    ok w (le 1 (bit c0 + 2 * bit c1 + 4 * bit c2) ++ le 3 0) s

def execFleetRelease (w us : Nat) (s : State) : Res := doneIn [.host, .fleet, .out] s (onCmd w 0x0842 (fun p => u8 p 8 > 7) (fleetReleaseF w us) s)

/-- FLEET_TASK_ADD (R362, R382, R383). -/
def fleetTaskAddBad (p : List Byte) : Bool := u16 p 0 > 4095 || u8 p 2 == 0 || u8 p 2 > 4 || u8 p 3 > 3

def fleetTaskAddF (w : Nat) (p : List Byte) (s : State) : State :=
  let t := u16 p 0
  needCluster w (fun s =>
    if (task s t).used && (task s t).st < 4 then refuse w stBUSY s
    else if u64 p 8 < s.clk.tide + 100 then refuse w stLATE s
    else
      let x := task s t
      let y : Task := { used := true, st := 0, epoch := x.epoch, kind := u8 p 2, prio := u8 p 3, move := x.move }
      ok w [] (taskEvent t (updTask t (fun _ => { y with
        fromCell := u16 p 4, toCell := u16 p 6, due := u64 p 8, ref := u64 p 16 }) s))) s

def execFleetTaskAdd (w : Nat) (s : State) : Res := doneIn [.host, .fleet, .out] s (onCmd w 0x0843 fleetTaskAddBad (fleetTaskAddF w) s)

/-- FLEET_TASK_CANCEL (R382): a task without a vehicle is cancelled at once; one that is over answers STATE. -/
def fleetTaskCancelF (w : Nat) (p : List Byte) (s : State) : State :=
  let t := u16 p 0
  let x := task s t
  if !x.used || x.st ≥ 4 then refuse w stSTATE s
  else if x.cancel.isSome then refuse w stBUSY s
  else
    let j := jobOf w s
    let s := respond w stACCEPTED [] s
    if x.st = 0 then finish j stOK (setTask t 6 id s)
    else if x.st = 3 then finish j stSTATE s
    else sendTask x.vehicle t x.epoch 2 (updTask t (fun y => { y with cancel := some j }) s)

def execFleetTaskCancel (w : Nat) (s : State) : Res := doneIn [.host, .stats, .pool, .ports, .fleet, .log, .out] s (onCmd w 0x0844 (fun p => u16 p 0 > 4095) (fleetTaskCancelF w) s)

/-- FLEET_TASK_MOVE (R65, R363, R382, R383): a later move replaces one that waits, which ends with CANCELLED. -/
def fleetTaskMoveF (w : Nat) (p : List Byte) (s : State) : State :=
  let t := u16 p 0
  let x := task s t
  needCluster w (fun s =>
    if !x.used || x.st > 2 || !vehicleCfg s (u8 p 2) then refuse w stSTATE s
    else
      let j := jobOf w s
      let old := match x.move with | some m => m.job | none => none
      let m : TaskMove := { vehicle := u8 p 2, tide := nextTide s, job := some j }
      finishOpt old stCANCELLED (respond w stACCEPTED [] (updTask t (fun y => { y with move := some m }) s))) s

def execFleetTaskMove (w : Nat) (s : State) : Res := doneIn [.host, .fleet, .log, .out] s (onCmd w 0x0845 (fun p => u16 p 0 > 4095) (fleetTaskMoveF w) s)

/-- FLEET_HOLD (R355, R382): causes are evaluated at the next edge. -/
def fleetHoldF (w : Nat) (p : List Byte) (s : State) : State :=
  ok w (le 8 (nextTide s)) (updVeh (u8 p 0) (fun x => { x with hostHold := u8 p 1 == 1 }) s)

def execFleetHold (w : Nat) (s : State) : Res := doneIn [.host, .fleet, .out] s (onCmd w 0x0846 (fun p => u8 p 1 > 1) (fleetHoldF w) s)

end Sys2Proof.Machine
end

