-- ==== Sys2Proof/Machine/Redundancy.lean ====
section
/-! DEFINITION. Sys2Proof/Machine/Redundancy.lean: feeds, claims, the twin link, checkpoints, health reports and the
redundancy commands (chapter 17). Changes of role stand in Role.lean. -/

namespace Sys2Proof.Machine

def updPr (f : Pr → Pr) (s : State) : State := { s with pr := f s.pr }

/-! ## Firmware in use (R564, R583) -/

/-- Slot that runs: the trial's during a trial (R612). -/
def runSlot (s : State) : Nat := if s.boot.trial then s.boot.trialArea else s.boot.activeArea

def fwSlotOf (s : State) (k : Nat) : FwSlot := tget (fwDefault k) s.upd.slots k

/-- Header bytes 0 to 47 of a slot's set (R564). -/
def fwHeader (s : State) (k : Nat) : List Byte :=
  match fwSlotOf s k with | .empty => [] | .factory => Config.factoryHeader | .set h _ _ => h

/-- The firmware that runs reads a checkpoint format (R583). -/
def readsFormat (s : State) (f : Nat) : Bool :=
  let h := fwHeader s (runSlot s)
  u8 h 42 ≤ f && f ≤ u8 h 43

/-! ## Feeds (R535) -/

def feedOf (s : State) (f : Nat) : Feed := tget {} s.pr.feeds f

/-- State of a feed from its voltage in mV and its state before (R535); the open input switch is closed again by
FEED_RECLOSE alone. -/
def feedState (old mv : Nat) : Nat :=
  if old = 3 ∨ mv > 63000 then 3
  else if mv < 18000 then 4
  else if mv < 35000 then 1
  else if mv < 36000 then (if old = 1 ∨ old = 4 then 1 else 0)
  else if mv ≤ 60000 then 0
  else if mv ≤ 61000 then (if old = 2 then 2 else 0)
  else 2

/-- PR_FEED and its logbook record (R535, R563). -/
def setFeed (f : Nat) (x : Feed) (s : State) : State :=
  let old := (feedOf s f).st
  let s := updPr (fun p => { p with feeds := tput {} p.feeds f x }) s
  if x.st = old then s
  else logIt 0x0E 1 4 0 [f + 1, old, x.st, x.mv] (raise 0x0E81 (le 1 (f + 1) ++ le 1 old ++ le 1 x.st ++ le 1 0 ++ le 4 x.mv) s)

/-- FEED_SAMPLE (R535): every 100 µs, with a resolution of 0.1 V and 10 mA. -/
def execFeedSample (feed mv ma : Nat) (s : State) : Res :=
  doneIn [.host, .pr, .log, .out] s (
    if feed > 1 then s
    else
      let x := feedOf s feed
      let mv := mv / 100 * 100
      setFeed feed { st := feedState x.st mv, mv, ma := ma / 10 * 10, below := if mv < 61000 then x.below + 1 else 0 } s)

/-- FEED_RECLOSE (R535): the feed stayed below 61.0 V for 100 ms. -/
def execFeedReclose (feed : Nat) (s : State) : Res :=
  doneIn [.host, .pr, .log, .out] s (
    let x := feedOf s feed
    if feed > 1 || x.st != 3 || x.below < 1000 then s else setFeed feed { x with st := feedState 2 x.mv } s)

/-! ## Claims (R541 to R547) -/

/-- The claim rule (R546): whether the frame is acted on, and the state with the claim in the heard set; a pilot that
accepts a higher claim is to become tender (R547), and a tender takes the partner's TERM (R558, R559). -/
def hear (c t : Nat) (s : State) : Bool × State :=
  if c % 4 = 0 then (false, s)
  else
    let n := s.clk.tide
    let heard := s.pr.heard.filter (fun x => n < x.2 + 8) ++ [(c, t)]
    let top := heard.foldl (fun a x => max a x.1) 0
    let act := c == top
    let s := updPr (fun p => { p with heard }) s
    if !act then (false, s)
    else if !s.sys.tender then
      (true, updPr (fun p => { p with topTerm := max p.topTerm (c / 4), demote := if c > claim s then some (c / 4) else p.demote }) s)
    else (true, updPr (fun p => { p with term := if s.cfg.defaultedBit then p.term else c / 4, topTerm := max p.topTerm (c / 4) }) s)

/-! ## Twin link (R544, R563) -/

/-- PR_PARTNER (R563). -/
def partnerEvent (kind : Nat) (s : State) : State :=
  raise 0x0E82 (le 1 kind ++ le 1 0 ++ le 2 (s.pr.baseline.getD 0).toNat) s

def pairMode (s : State) : Bool := s.par.pr.pair && !s.cfg.defaultedBit

/-- Counts a twin-link frame whose tag fails (R544). -/
def rejectTwin (s : State) : State := updPr (fun p => { p with rejected := p.rejected + 1 }) s

/-- A partner frame passed its tag check (R563). -/
def twinHeard (s : State) : State :=
  let t := updPr (fun p => { p with up := true, lastTwin := s.clk.ran }) s
  if s.pr.up then t else partnerEvent 2 t

/-- TWIN_LINK_TIMEOUT (R563): no frame passed in the last 3 tides. -/
def execTwinLinkTimeout (s : State) : Res :=
  doneIn [.host, .pr, .out] s (if s.pr.up && s.pr.lastTwin + 3 ≤ s.clk.ran then partnerEvent 1 (updPr (fun p => { p with up := false }) s) else s)

/-- TWIN_LINK_SYNC_LOSS (R563). -/
def execTwinLinkSyncLoss (s : State) : Res :=
  doneIn [.host, .pr, .out] s (if s.pr.up then partnerEvent 1 (updPr (fun p => { p with up := false }) s) else s)

/-- The tag of a twin-link frame of a tide, unit and format under the twin key (R544). -/
def twinTag (s : State) (tide unit format : Nat) (b : List Byte) : List Byte :=
  gcmTag (key16 s.par.pr.twinKey) (le 5 tide ++ le 2 s.par.radio.segment ++ le 1 unit ++ le 1 format ++ zeros 3) b

/-- A twin-link frame of 44 bytes whose byte `at_` is its unit carries its tag (R544, R553). -/
def twinTagOk (s : State) (at_ : Nat) (b : List Byte) : Bool :=
  b.length == 44 && slice b 28 16 == twinTag s (fullTide s.clk.tide (u32 b 4)) (u8 b at_) (u8 b 0) (b.take 28)

/-- A frame that the twin link delivers passes control queue 115 (R420, R544). -/
def twinIn (n : Nat) (f : State → State) (s : State) : State :=
  let r := passCtrl 115 (Config.ctrlPriority 115).toNat (berths n) [] s
  if r.1.isSome then f r.2 else r.2

/-- The twin claim frame (R544). -/
def twinClaim (s : State) : List Byte :=
  let ck := if s.sys.tender then (match s.pr.stored with | c :: _ => c.seq | [] => 0)
    else (match s.pr.last with | some c => c.seq | none => 0)
  let b := le 1 6 ++ le 1 (claimFlags s (s.fleet.horn.halt == allHalted)) ++ le 2 (claim s) ++ le 4 s.clk.tide
    ++ le 2 s.par.radio.segment ++ le 1 (unitNo s) ++ le 1 (bit (!s.sys.tender)) ++ le 8 Config.serial ++ le 4 ck
    ++ le 4 (currentVersion s)
  b ++ twinTag s s.clk.tide (unitNo s) 6 b

/-- A pilot's claim frame on the twin link names a lower TERM than its last one: a PR_TERM_SET took effect at the partner, and every
TERM heard before is left out (R555, R558; log entry 84). -/
def lowered (b : List Byte) (s : State) : State :=
  let c := u16 b 2
  if c % 4 != 0 && c % 4 == s.pr.partner % 4 && c < s.pr.partner then updPr (fun p => { p with topTerm := 0 }) s else s

/-- TWIN_CLAIM_FRAME_RX (R544, R546, R547, R554): a frame of format 0x06, whose tag is checked. -/
def twinClaimF (b : List Byte) (s : State) : State :=
  if u8 b 0 != 6 then s
  else if !twinTagOk s 10 b then rejectTwin s
  else
    let s := updPr (fun p => { p with
      partner := u16 b 2, partnerImage := u32 b 24, partnerCkpt := u32 b 20, anyNow := true
      pilotNow := p.pilotNow || u8 b 11 == 1 }) (lowered b (twinHeard s))
    (hear (u16 b 2) (fullTide s.clk.tide (u32 b 4)) s).2

def execTwinClaimFrameRx (frame : List Byte) (s : State) : Res :=
  doneIn [.host, .stats, .pool, .pr, .out] s (twinIn frame.length (twinClaimF frame) s)

/-- CLAIM_LINE_SAMPLE (R545). -/
def execClaimLineSample (level : Bool) (s : State) : Res :=
  doneIn [.pr] s (updPr (fun p => { p with
    line := level, alive := level != p.line, deadRun := if level != p.line then 0 else p.deadRun + 1 }) s)

/-- The tide that ends is silent for a tender (R554). -/
def silentTide (s : State) : Bool :=
  !s.pr.pilotNow && !s.pr.alive && !s.pr.quayNow && !(s.par.pr.unit == 2 && s.pr.anyNow)

/-- What the redundancy service does at a tide edge, judging the tide that ends (R545, R554 to R556): a tender counts
silent tides from RUNNING. -/
def prAtEdge (s : State) : State :=
  let counts := s.sys.tender && s.sys.modState ≥ 4
  let n := if counts then (if silentTide s then s.pr.silent + 1 else 0) else 0
  let lvl := if s.sys.modState < 3 then false else if s.sys.tender then true else !s.pr.claimOut
  let t := updPr (fun p => { p with
    silent := n, claimRun := if p.pilotNow then 0 else p.claimRun + 1, pilotNow := false, anyNow := false, quayNow := false
    takeover := p.takeover && s.cluster.st != 2, claimOut := lvl }) s
  if lvl == s.pr.claimOut then t else emit (.pin pinClaim lvl) t

/-! ## Checkpoints (R548 to R550, R616) -/

/-- The service state as it stands (R548). -/
def serviceNow (s : State) : Service :=
  { nodes := s.lantern.nodes, links := s.radio.links, generation := s.lantern.generation, steps := s.lantern.steps,
    raised := s.lantern.raised, held := s.fleet.held, passed := s.fleet.passed, vehicles := s.fleet.vehicles, tasks := s.fleet.tasks,
    filters := s.ref.vehicles, refArp := s.ref.refArp, monArp := s.ref.monArp }

/-- A checkpoint starts (R549, R583). -/
def beginCkpt (s : State) : State :=
  let q := (s.pr.ckptSeq + 1) % 2 ^ 32
  let c : Ckpt := { seq := q, tide := s.clk.tide, serial := Config.serial, image := currentVersion s,
                    format := u8 (fwHeader s (runSlot s)) 41, body := serviceNow s }
  updPr (fun p => { p with ckptSeq := q, sending := some c }) s

/-- CHECKPOINT_START (R48, R53, R549): not while the pilot's cluster is down. -/
def execCheckpointStart (s : State) : Res :=
  doneIn [.clk, .pr] s (if s.sys.tender || s.cluster.st != 2 || s.clk.tide % 100 != 0 || s.pr.sending.any (·.tide == s.clk.tide) then s else dueNow 7 (beginCkpt s))

/-- The blocks of a checkpoint's bytes with index and CRC-32C (R549). -/
def ckptBlocks (data : List Byte) : List (List Byte) :=
  let n := (data.length + 65535) / 65536
  (List.range n).map fun i => let b := slice data (65536 * i) 65536
    le 4 i ++ le 4 (crc32c b) ++ b

/-- A checkpoint's header as this model lays it out (log entry 37). -/
def ckptHead (c : Ckpt) : List Byte :=
  le 4 c.seq ++ le 8 c.tide ++ le 4 c.len ++ le 8 c.serial ++ le 4 c.image ++ le 1 c.format

/-- The tag over a checkpoint's digest (R549): no rule states its nonce (log entry 37). -/
def ckptTag (s : State) (c : Ckpt) (digest : List Byte) : List Byte :=
  gcmTag (key16 s.par.pr.twinKey) ((Config.ckptNonce c.seq c.tide ++ zeros 12).take 12) digest

/-- The cluster delivered a checkpoint's data in full: it goes out on the twin link, and the pilot keeps it (R549, R616). -/
def ckptDone (data : List Byte) (s : State) : State :=
  match s.pr.sending with
  | none => s
  | some c =>
    if data.length > 67108864 then s else
    let c := { c with len := data.length }
    let dg := sha256 (ckptHead c ++ data)
    let out := [ckptHead c] ++ ckptBlocks data ++ [dg ++ ckptTag s c dg]
    let s := if pairMode s then out.foldl (fun s b => twinSend (Config.ctrlPriority 114).toNat b s) s else s
    updPr (fun p => { p with
      sending := none, last := some c
      own := if c.tide % 6000 = 0 then (c :: p.own).take 2 else p.own }) s

/-- PR_CHECKPOINT (R550, R563, R583). -/
def ckptEvent (seq result : Nat) (s : State) : State := raise 0x0E83 (le 4 seq ++ le 1 result ++ le 3 0) s

/-- A partial checkpoint is discarded (R550, R555). -/
def dropPartial (s : State) : State :=
  match s.pr.rx with
  | none => s
  | some r => ckptEvent r.head.seq 1 (updPr (fun p => { p with rx := none }) s)

/-- CHECKPOINT_BLOCK_RX (R550, R563, R583). -/
def ckptRx (b : CkptBlock) (s : State) : State :=
  match b with
  | .header seq tide len serial image format =>
    let c : Ckpt := { seq, tide, len, serial, image, format }
    updPr (fun p => { p with rx := some { head := c } }) (dropPartial s)
  | .block i crc data =>
    match s.pr.rx with
    | none => s
    | some r =>
      if crc != crc32c data then ckptEvent r.head.seq 2 (updPr (fun p => { p with rx := none }) s)
      else if i * 65536 != r.data.length then s
      else updPr (fun p => { p with rx := some { r with data := r.data ++ data } }) s
  | .trailer digest tag =>
    match s.pr.rx with
    | none => s
    | some r =>
      let tagOk := tag == ckptTag s r.head digest
      let s := if tagOk then twinHeard s else rejectTwin s
      let s := updPr (fun p => { p with rx := none }) s
      if r.data.length != r.head.len then ckptEvent r.head.seq 1 s
      else if !(tagOk && digest == sha256 (ckptHead r.head ++ r.data)) then ckptEvent r.head.seq 3 s
      else
        let good := r.head.image == currentVersion s && readsFormat s r.head.format
        let c := { r.head with usable := good, body := Config.serviceOf r.data }
        ckptEvent c.seq (if good then 0 else 4) (updPr (fun p => { p with
          stored := (c :: p.stored).take 2, storedRan := if good then some s.clk.ran else p.storedRan }) s)

/-- Bytes of a checkpoint frame on the twin link. -/
def ckptSize : CkptBlock → Nat
  | .header .. => 29
  | .block _ _ data => 8 + data.length
  | .trailer digest tag => digest.length + tag.length

def execCheckpointBlockRx (b : CkptBlock) (s : State) : Res :=
  doneIn [.host, .stats, .pool, .pr, .out] s (if s.sys.tender then twinIn (ckptSize b) (ckptRx b) s else s)

/-! ## Self-test and health report (R551 to R553) -/

/-- Quay channels set for claims (R467). -/
def claimChannels (s : State) : List Nat :=
  (List.range 4).filter fun c => (tget ({} : QuayChPar) s.par.quay c).claims

/-- Pilot in-tide horns accepted in the 100 tides before this one on an HB transceiver (R551, R553). -/
def hornsOn (s : State) (j : Nat) : Nat :=
  (s.pr.horns.filter fun x => x.1 == j && x.2 < s.clk.ran && s.clk.ran ≤ x.2 + 100).length

/-- The tests of R551 as bits; no command of the table reports a failed write check of test 10. -/
def testsOf (s : State) : BitVec 16 :=
  let t := s.clk.ran
  let p := s.pr
  BitVec.ofNat 16 (
    bit (p.claimRun ≥ 3) + 2 * bit (p.deadRun ≥ 3)
    + 4 * bit ((claimChannels s).any fun c => tget 0 p.quayClaim c + 100 ≤ t)
    + 8 * bit ((liveHb s).any fun j => hornsOn s j < 90)
    + 16 * bit ((liveSub s).any fun x => tget 0 p.ebs x + 6000 ≤ t)
    + 32 * bit (!p.storedRan.any (t ≤ · + 300))
    + 64 * bit (p.partnerImage != currentVersion s)
    + 128 * bit (match p.rehearsed with | some r => !r.1 || r.2.1 > 8000 | none => false)
    + 256 * bit (!(s.time.st == 2 || (s.time.st == 3 && s.time.timeQ)))
    + 512 * bit ((feedOf s 0).st != 0 && (feedOf s 1).st != 0)
    + 2048 * bit (p.mean > 1050)
    + 4096 * bit (max p.term p.topTerm ≥ 16383))

/-- Bytes 0 to 27 of the health report (R553). -/
def reportBytes (s : State) : List Byte :=
  let p := s.pr
  let ck := match p.stored.find? (·.usable) with | some c => c.seq | none => 0
  let age := match p.rehearsed with | some r => min (s.clk.ran - r.2.2) 0xFFFFFFFF | none => 0xFFFFFFFF
  le 1 8 ++ le 1 (unitNo s) ++ le 2 (claim s) ++ le 4 s.clk.tide ++ le 2 (testsOf s).toNat
    ++ le 2 (((List.range 4).map (hornsOn s)).foldl (· + ·) 0) ++ le 4 ck
    ++ le 4 (match p.rehearsed with | some r => r.2.1 | none => 0) ++ le 4 age ++ le 1 s.time.st
    ++ le 1 ((feedOf s 0).st + 16 * (feedOf s 1).st) ++ leI 1 (p.mean / 10) ++ le 1 0

/-- HEALTH_REPORT_SEND (R553): in its tide, and at once when a bit changes. -/
def execHealthReportSend (s : State) : Res :=
  doneIn [.host, .stats, .pool, .pr, .out] s (
    if !s.sys.tender || !pairMode s || !(s.clk.tide % 100 == 50 || testsOf s != s.pr.tests) then s
    else
      let b := reportBytes s
      twinSend (Config.ctrlPriority 114).toNat (b ++ twinTag s s.clk.tide (unitNo s) 8 b) (updPr (fun p => { p with tests := testsOf s, report := b }) s))

/-- HEALTH_REPORT_RX (R544, R553, R563). -/
def healthRx (b : List Byte) (s : State) : State :=
  let t := BitVec.ofNat 16 (u16 b 8)
  let s := twinHeard s
  let news := s.pr.baseline != some t
  let s := updPr (fun p => { p with report := b.take 28, reportRan := s.clk.ran, baseline := some t, overdue := false,
                                    partnerCkpt := u32 b 12 }) s
  if news then partnerEvent 3 s else s

def execHealthReportRx (frame : List Byte) (s : State) : Res :=
  doneIn [.host, .stats, .pool, .pr, .out] s (twinIn frame.length (fun s =>
    if u8 frame 0 != 8 then s
    else if !twinTagOk s 1 frame then rejectTwin s
    else if s.sys.tender then twinHeard s
    else healthRx frame s) s)

/-- HEALTH_REPORT_TIMEOUT (R553): no report for 300 tides. -/
def execHealthReportTimeout (s : State) : Res :=
  doneIn [.host, .pr, .out] s (
    if s.sys.tender || !pairMode s || s.pr.overdue || s.clk.ran < max s.pr.reportRan s.pr.roleRan + 300 then s
    else partnerEvent 4 (updPr (fun p => { p with overdue := true, baseline := none }) s))

/-- REHEARSAL_START (R552). -/
def execRehearsalStart (s : State) : Res :=
  doneIn [.pr] s (
    if !s.sys.tender || s.pr.rehearsal.isSome || !(s.clk.tide % 360000 == 0 || s.pr.rehearseAsk.isSome) then s
    else updPr (fun p => { p with rehearsal := some (s.clk.tide, p.rehearseAsk), rehearseAsk := none }) s)

/-- REHEARSAL_COMPLETE (R552, R560). -/
def execRehearsalComplete (ok : Bool) (ms : Nat) (s : State) : Res :=
  doneIn [.host, .pr, .log, .out] s (
    match s.pr.rehearsal with
    | none => s
    | some r => finishOpt r.2 (if ok then stOK else stINTEG)
        (updPr (fun p => { p with rehearsal := none, rehearsed := some (ok, ms, s.clk.ran) }) s))

/-! ## Redundancy commands (R560 to R562) -/

def roleCode (s : State) : Nat := if !s.sys.tender then 1 else if s.cfg.defaultedBit then 2 else 0

/-- PR_STATUS (R562). -/
def prStatusBytes (s : State) : List Byte :=
  let p := s.pr
  let ck := if s.sys.tender then (match p.stored with | c :: _ => c.seq | [] => 0)
    else (match p.last with | some c => c.seq | none => 0)
  let a := feedOf s 0
  let b := feedOf s 1
  le 1 (roleCode s) ++ le 1 (unitNo s) ++ le 2 (claim s) ++ le 2 p.partner ++ le 1 (min p.silent 255)
    ++ le 1 (bit p.up + 2 * bit p.alive + 4 * bit (takeoverOn s) + 8 * bit p.powerFail + 16 * bit (!s.par.pr.pair))
    ++ le 4 a.mv ++ le 4 a.ma ++ le 4 b.mv ++ le 4 b.ma ++ le 1 (a.st + 16 * b.st) ++ le 3 0 ++ le 4 ck ++ le 8 p.roleTide
    ++ le 4 p.takeovers.toNat ++ le 4 p.rejected.toNat

def execPrStatus (w : Nat) (s : State) : Res :=
  answered s (onCmd w 0x0E01 anyPayload (fun _ s => ok w (prStatusBytes s) s) s)

/-- PR_HEALTH (R560). -/
def execPrHealth (w : Nat) (s : State) : Res :=
  answered s (onCmd w 0x0E02 anyPayload (fun _ s => ok w s.pr.report s) s)

/-- PR_CHECKPOINTS (R560). -/
def prCheckpointsBytes (s : State) : List Byte :=
  let l := if s.sys.tender then s.pr.stored else s.pr.own
  le 1 l.length ++ le 3 0 ++ l.flatMap fun c =>
    le 4 c.seq ++ le 8 c.tide ++ le 4 c.len ++ le 4 c.image ++ le 1 (bit (c.usable && readsFormat s c.format)) ++ le 3 0

def execPrCheckpoints (w : Nat) (s : State) : Res :=
  answered s (onCmd w 0x0E03 anyPayload (fun _ s => ok w (prCheckpointsBytes s) s) s)

/-- PR_SWITCHOVER (R557, R560, R561): its checkpoint starts at once. -/
def prSwitchoverF (w : Nat) (p : List Byte) (s : State) : State :=
  if s.sys.tender || !pairMode s then refuse w stSTATE s
  else if s.pr.handover.isSome then refuse w stBUSY s
  else if u64 p 0 < s.clk.tide + 200 then refuse w stLATE s
  else
    let j := jobOf w s
    let s := respond w stACCEPTED (le 8 (u64 p 0)) s
    let up := s.cluster.st == 2
    let s := if up then beginCkpt s else s
    let h : Handover := { tide := u64 p 0, job := j, seq := if up then some s.pr.ckptSeq else none }
    updPr (fun x => { x with handover := some h }) s

def execPrSwitchover (w : Nat) (s : State) : Res := doneIn [.host, .pr, .out] s (onCmd w 0x0E40 anyPayload (prSwitchoverF w) s)

/-- The tender and its copy are ready for a handover (R557). -/
def handoverOk (s : State) (h : Handover) : Bool :=
  h.seq == some s.pr.partnerCkpt && !s.pr.report.isEmpty && s.clk.ran ≤ s.pr.reportRan + 300
    && (BitVec.ofNat 16 (u16 s.pr.report 8) &&& ~~~(0x80 : BitVec 16)) == 0

/-- SWITCHOVER_CHECK (R557): at edge s - 10. -/
def execSwitchoverCheck (s : State) : Res :=
  doneIn [.host, .pr, .log, .out] s (
    match s.pr.handover with
    | none => s
    | some h =>
      if s.sys.tender || h.checked || s.clk.tide + 10 < h.tide then s
      else if handoverOk s h then updPr (fun p => { p with handover := some { h with checked := true } }) s
      else finish h.job stSTATE (updPr (fun p => { p with handover := none }) s))

/-- PR_TERM_SET (R558, R560, R561). -/
def prTermSetF (w : Nat) (p : List Byte) (s : State) : State :=
  if s.sys.tender || !pairMode s || s.fleet.on then refuse w stSTATE s
  else if u64 p 4 < s.clk.tide + 100 then refuse w stLATE s
  else ok w (le 8 (u64 p 4)) (updPr (fun x => { x with termSet := some (u16 p 0, u64 p 4) }) s)

def execPrTermSet (w : Nat) (s : State) : Res :=
  doneIn [.host, .pr, .out] s (onCmd w 0x0E41 (fun p => u16 p 0 == 0 || u16 p 0 > 16383) (prTermSetF w) s)

/-- TERM_SET_EDGE (R555, R558). -/
def execTermSetEdge (s : State) : Res :=
  doneIn [.pr] s (
    match s.pr.termSet with
    | none => s
    | some (t, e) =>
      if s.clk.tide < e then s
      else updPr (fun p => { p with term := t, topTerm := 0, termSet := none, termHalt := some (s.clk.ran + 10) }) s)

/-- TERM_HALT_EXPIRY (R558): the 10 tides end. -/
def execTermHaltExpiry (s : State) : Res :=
  doneIn [.pr] s (
    match s.pr.termHalt with
    | none => s
    | some e => if s.clk.ran < e then s else updPr (fun p => { p with termHalt := none }) s)

/-- PR_REHEARSE (R552, R560, R561). -/
def prRehearseF (w : Nat) (_ : List Byte) (s : State) : State :=
  if !s.sys.tender || s.pr.rehearsal.isSome || s.pr.rehearseAsk.isSome then refuse w stSTATE s
  else
    let j := jobOf w s
    respond w stACCEPTED [] (updPr (fun x => { x with rehearseAsk := some j }) s)

def execPrRehearse (w : Nat) (s : State) : Res := doneIn [.host, .pr, .out] s (onCmd w 0x0E42 anyPayload (prRehearseF w) s)

/-- PR_THERMAL_STATUS (R646). -/
def execPrThermalStatus (w : Nat) (s : State) : Res :=
  answered s (onCmd w 0x0E04 anyPayload (fun _ s => ok w (le 1 s.pr.level ++ leI 1 (s.pr.mean / 10) ++ leI 1 (s.pr.peak / 10) ++ le 1 0) s) s)

end Sys2Proof.Machine
end

