-- ==== Sys2Proof/Machine/Quay.lean ====
section
/-! DEFINITION. Sys2Proof/Machine/Quay.lean: the quay bus channels, their claim frames and their commands (chapter 14). -/

namespace Sys2Proof.Machine

def qch (s : State) (c : Nat) : QuayCh := tget {} s.quay.ch c

def qpar (s : State) (c : Nat) : QuayChPar := tget {} s.par.quay c

def updQuay (f : Quay → Quay) (s : State) : State := { s with quay := f s.quay }

def QuayCh.warning (x : QuayCh) : Bool := x.tec ≥ 96 || x.rxc ≥ 96

/-- flags of QBUS_STATUS (R477). -/
def qbFlags (s : State) (c : Nat) (x : QuayCh) : Nat :=
  bit x.warning + 2 * bit x.solitude + 4 * bit (qpar s c).claims + 8 * bit (qpar s c).listenOnly + 16 * bit (qpar s c).triple

/-- Writes a channel: QBUS_STATE at each change of state, WARNING or SOLITUDE (R479). -/
def setQch (c : Nat) (x : QuayCh) (s : State) : State :=
  let o := qch s c
  let t := updQuay (fun q => { q with ch := tput {} q.ch c x }) s
  if o.st == x.st && o.warning == x.warning && o.solitude == x.solitude then t
  else raise 0x0B80 (le 1 c ++ le 1 o.st ++ le 1 x.st ++ le 1 (qbFlags s c x) ++ le 2 x.tec ++ le 2 x.rxc) t

def updQch (c : Nat) (f : QuayCh → QuayCh) (s : State) : State := setQch c (f (qch s c)) s

/-! ## Results (R479) -/

/-- QBUS_TX_DONE of up to 16 results. -/
def txDone (l : List (Nat × Nat × Nat)) (s : State) : State :=
  if l.isEmpty then s
  else raise 0x0B81 (le 1 l.length ++ le 3 0 ++ l.flatMap fun r => le 2 r.1 ++ le 1 r.2.1 ++ le 1 r.2.2) s

/-- A transmit entry ends with a result (R465, R473, R474, R477, R479). -/
def qbResult (c result : Nat) (e : QbEntry) (s : State) : State :=
  let s := if result = 1 ∨ e.claim then s else count (31 + c) 3 s
  if e.claim || (result == 1 && !e.notify) then s
  else
    let l := s.quay.results ++ [(e.ref, c, result)]
    if l.length ≥ 16 then txDone l (updQuay (fun q => { q with results := [] }) s)
    else updQuay (fun q => { q with results := l }) s

/-- Results of the tide that ends (R479). -/
def quayAtEdge (s : State) : State := txDone s.quay.results (updQuay (fun q => { q with results := [] }) s)

/-- Retires held entries that meet a test (R473, R474, R477). -/
def qbRetire (c result : Nat) (sel : QbEntry → Bool) (s : State) : State :=
  let x := qch s c
  let ex := match x.express with | some e => if sel e then [e] else [] | none => []
  let gone := x.queue.filter sel ++ ex
  let s := updQch c (fun x => { x with queue := x.queue.filter (fun e => !sel e),
                                       express := if ex.isEmpty then x.express else none }) s
  gone.foldl (fun s e => qbResult c result e s) s

/-! ## Error confinement (R460) -/

/-- The state that the counts give while the channel takes part (R460). -/
def QuayCh.confine (x : QuayCh) : QuayCh :=
  if x.st = 1 ∨ x.st = 2 then
    { x with st := if x.tec > 255 then 3 else if x.tec ≥ 128 ∨ x.rxc ≥ 128 then 2 else 1 }
  else x

/-- Index of an error kind's counter (R476). -/
def errIndex : CanError → Nat
  | .ack => 9 | .bit => 10 | .stuff => 11 | .form => 12 | .crc => 13

/-- BUS_OFFS (R476). -/
def countOff (c : Nat) (old : QuayCh) (s : State) : State :=
  if old.st != 3 && (qch s c).st == 3 then count (31 + c) 14 s else s

/-- BUS_INTEGRATION (R460): 11 recessive bits were seen. -/
def execBusIntegration (c : Nat) (s : State) : Res :=
  doneIn [.host, .quay, .out] s (if (qch s c).st = 4 then updQch c (fun x => ({ x with st := 1 } : QuayCh).confine) s else s)

/-- BUS_OFF_RECOVERY (R461). -/
def execBusOffRecovery (c : Nat) (s : State) : Res :=
  doneIn [.host, .quay, .out] s (if (qch s c).st = 3 then updQch c (fun x => { x with st := 1, tec := 0, rxc := 0 }) s else s)

/-! ## Transmission (R463 to R466, R473) -/

/-- The frame that the channel offers next: the express slot's, else the head; a tender sends claim frames alone, and no claim
frame is sent while the harbourmaster does not run (R39). -/
def offered (s : State) (c : Nat) : Option QbEntry :=
  let x := qch s c
  match x.express with
  | some e => if (s.sys.tender && !e.claim) || (e.claim && !s.sys.hmRuns) then none else some e
  | none => if s.sys.tender then none else x.queue.head?

/-- The channel may send (R455, R460). -/
def mayTx (s : State) (c : Nat) : Bool :=
  ((qch s c).st == 1 || (qch s c).st == 2) && !(qpar s c).listenOnly && !s.pr.powerFail

/-- The offered entry leaves its place. -/
def QuayCh.pop (x : QuayCh) : QuayCh :=
  match x.express with | some _ => { x with express := none } | none => { x with queue := x.queue.drop 1 }

/-- The offered entry is changed in its place. -/
def QuayCh.put (e : QbEntry) (x : QuayCh) : QuayCh :=
  match x.express with | some _ => { x with express := some e } | none => { x with queue := e :: x.queue.drop 1 }

/-- A frame sent and acknowledged, with the channel's own ESI (R455, R460, R466). -/
def txSent (c : Nat) (e : QbEntry) (s : State) : State :=
  let esi := bit (e.format == 2 || e.format == 3) * bit ((qch s c).st == 2)
  let s := emit (.can c e.format (e.flags.toNat / 8 * 8 + e.flags.toNat % 4 + 4 * esi) e.id e.sdt e.vcid e.af e.data)
    (count (31 + c) 0 (if e.claim then count (31 + c) 4 s else s))
  let s := updQch c (fun x => ({ x.pop with tec := x.tec - 1, ackRun := 0, solitude := false } : QuayCh).confine) s
  qbResult c 1 e s

/-- An error in an XL data phase with TMS on sends no error flag and leaves the counts of error confinement (R456, R460; log
entry 38). -/
def quietError (s : State) (c format : Nat) (dataPhase : Bool) : Bool := dataPhase && format == 4 && (qpar s c).tms

/-- The error flag of a channel, by its state; none on a listen-only channel and in a TMS data phase (R455, R456, R460). -/
def errorFlag (c : Nat) (quiet : Bool) (s : State) : State :=
  if quiet || (qpar s c).listenOnly then s else emit (.canFlag c (if (qch s c).st = 2 then 2 else 1)) s

/-- An attempt that ends in an error (R456, R460, R465, R466). -/
def txError (c : Nat) (e : QbEntry) (k : CanError) (dominant dataPhase : Bool) (s : State) : State :=
  let o := qch s c
  let quiet := quietError s c e.format dataPhase
  let s := errorFlag c quiet (count (31 + c) 1 (count (31 + c) (errIndex k) s))
  let keep := (k == .ack && o.st == 2 && !dominant) || quiet
  let run := if k == .ack then min (o.ackRun + 1) 65535 else o.ackRun
  let lim := (qpar s c).retryLimit
  let past := !e.claim && lim != 0 && e.retries == lim
  let x : QuayCh := if past then o.pop else o.put { e with retries := if e.claim then 0 else e.retries + 1 }
  let s := countOff c o (setQch c ({ x with
    tec := if keep then o.tec else o.tec + 8, ackRun := run, solitude := o.solitude || run ≥ 16 } : QuayCh).confine s)
  if past then qbResult c 2 e s else s

/-- The loop delay that the channel measures in an FD or XL frame it sends, and its secondary sample point (R458). -/
def noteDelay (c loop : Nat) (e : QbEntry) (s : State) : State :=
  if e.format < 2 then s else updQch c (fun x => { x with delay := loop, ssp := loop + tdcOffset (qpar s c) }) s

/-- QBUS_TX_ATTEMPT (R455, R456, R458, R460, R463 to R466, R479): a loop delay of an FD or XL frame above 127 clocks ends it with
a bit error. -/
def execQbusTxAttempt (c loop : Nat) (r : CanTx) (s : State) : Res :=
  doneIn [.host, .stats, .quay, .out] s (
    if c > 3 || !mayTx s c then s
    else match offered s c with
      | none => s
      | some e =>
        match r with
        | .arbLost => count (31 + c) 2 s
        | .sent =>
          let s := noteDelay c loop e s
          if e.format ≥ 2 && loop > 127 then txError c e .bit false true s else txSent c e s
        | .error k dom data => txError c e k dom data (if data then noteDelay c loop e s else s))

/-! ## Reception (R455, R460, R462, R466, R469 to R472) -/

/-- The format is in the channel's set (R456). -/
def formatOk (set format : Nat) : Bool := format ≤ 1 || (set ≥ 1 && format ≤ 3) || (set == 2 && format == 4)

/-- REC after a frame received without error (ISO 11898-1): one less, and from above 127 a value from 119 to 127. -/
def recGood (free : Nat) (r : Nat) : Nat := if r > 127 then 119 + free % 9 else r - 1

/-- REC after a receive error (ISO 11898-1, log entry 38): one more, and eight for a dominant bit first after the error flag; it
does not rise further above 127. -/
def recBad (dominant : Bool) (r : Nat) : Nat := if r > 127 then r else r + 1 + 8 * bit dominant

/-- The filters in force (R470). -/
def filterOf (s : State) (c i : Nat) : Filter :=
  (tget none (qch s c).filters i).getD (tget {} (qpar s c).filters i)

/-- A filter matches a frame (R470). -/
def matchesFilter (x : Filter) (f : CanFrame) : Bool :=
  let m : BitVec 32 := if f.format = 4 then 0x7FF else 0x1FFFFFFF
  x.enable && x.formats.getLsbD f.format && ((x.id ^^^ BitVec.ofNat 32 f.id) &&& x.idMask &&& m) == 0
    && (f.format != 4 || ((x.af ^^^ BitVec.ofNat 32 f.af) &&& x.afMask) == 0)

/-- The first filter that matches (R470). -/
def firstFilter (s : State) (c : Nat) (f : CanFrame) : Option Filter :=
  (List.range 256).findSome? fun i => let x := filterOf s c i
    if matchesFilter x f then some x else none

/-- The record of a received frame (R472). -/
def canRecord (c : Nat) (f : CanFrame) : List Byte :=
  le 1 c ++ le 1 f.format ++ le 2 f.flags ++ le 4 f.id ++ le 2 f.data.length ++ le 1 f.sdt ++ le 1 f.vcid ++ le 4 f.af
    ++ le 8 f.sofNs ++ f.data

/-- Bytes in the receive buffer. -/
def rxHeld (x : QuayCh) : Nat := sumOf (fun r => r.record.length) x.rx

/-- The tag of a form 1 claim frame for a tide (R468): its key and nonce are the channel's. -/
def claimTag (s : State) (c tide : Nat) (b : List Byte) : List Byte :=
  (gcmTag (key16 (qpar s c).claimKey) (le 5 tide ++ le 2 s.par.radio.segment ++ le 1 c ++ le 1 5 ++ zeros 3) b).take 8

/-- A frame with one of the listen IDs goes to the claim logic (R468, R469, R546, R547, R554): a form 1 frame of another length
is ignored. -/
def claimFrame (c : Nat) (f : CanFrame) (s : State) : State :=
  let p := qpar s c
  let d := f.data
  let good := if p.form = 0 then u8 d 0 == 4 && f.format == 0 && d.length == 8
    else u8 d 0 == 5 && f.format == 2 && slice d 10 8 == claimTag s c (fullTide s.clk.tide (u32 d 4)) (d.take 10)
  if p.form = 1 && d.length != 20 then s
  else if !good then updQuay (fun q => { q with claimErrors := q.claimErrors + 1 }) s
  else
    let k := u16 d 2
    let s := if k % 4 != 0 && p.claims then updPr (fun x => { x with
      quayNow := true, quayClaim := tput 0 x.quayClaim c (s.clk.ran + 1) }) s else s
    (hear k (fullTide s.clk.tide (u32 d 4)) s).2

/-- A frame received without error (R455, R460, R462, R466, R469 to R471): it is acknowledged, and the claim logic hears it ahead of
and apart from the filters. -/
def rxGood (c : Nat) (f : CanFrame) (s : State) : State :=
  let r := drawn s
  let s := if (qpar s c).listenOnly then s else emit (.canFlag c 0) s
  let s := updQch c (fun x => ({ x with rxc := recGood r x.rxc, ackRun := 0, solitude := false } : QuayCh).confine)
    (count (31 + c) 6 (draw s))
  let s := if (qpar s c).listen.contains f.id then claimFrame c f s else s
  match firstFilter s c f with
    | none => count (31 + c) 7 s
    | some x =>
      if x.action = 0 then s
      else
        let b := canRecord c f
        if rxHeld (qch s c) + b.length > 24576 then count (31 + c) 8 s
        else updQch c (fun y => { y with rx := y.rx ++ [{ record := b, window := if x.action = 2 then some x.window else none }] }) s

/-- QBUS_FRAME_RX (R455, R456, R460): an error raises REC; a format outside the set is a protocol exception, or a form error where
that is off. -/
def execQbusFrameRx (c : Nat) (f : CanFrame) (s : State) : Res :=
  doneIn [.host, .stats, .pr, .quay, .out, .free] s (
    let x := qch s c
    if c > 3 || !(x.st == 1 || x.st == 2) then s
    else match f.err with
      | some k =>
        let s := errorFlag c (quietError s c f.format f.dataPhase) (count (31 + c) (errIndex k) s)
        if quietError s c f.format f.dataPhase then s
        else updQch c (fun x => ({ x with rxc := recBad f.dominant x.rxc } : QuayCh).confine) s
      | none =>
        if formatOk (qpar s c).formatSet f.format then rxGood c { f with data := if f.format ≤ 1 then f.data.take 8 else f.data } s
        else if (qpar s c).exceptionOn then updQch c (fun x => { x with st := 4 }) s
        else updQch c (fun x => ({ x with rxc := recBad f.dominant x.rxc } : QuayCh).confine)
          (errorFlag c false (count (31 + c) 12 s)))

/-- A complete frame leaves the receive buffer through data queue 232 + c to its destination (R471, R472). -/
def rxDeliver (c : Nat) (r : QbRx) (s : State) : State :=
  let n := berths r.record.length
  let a := admitAll [232 + c] attHm n n (fun _ => { bytes := r.record }) s
  if a.1 = 0 then count (31 + c) 8 a.2
  else
    let s := clearQ (232 + c) a.2
    let b := match r.window with
      | some w => if (qwinOf s w).owner.isNone then (true, s) else feed w 6 attHm r.record s
      | none => passData 174 attHm n s
    if b.1 then b.2 else count (31 + c) 8 b.2

/-- A burst of internal lighter channel 18 + c: up to 256 bytes of one frame (R471). -/
def quayBurst (c : Nat) (s : State) : State :=
  match (qch s c).rx with
  | [] => s
  | r :: rest =>
    let s := countBurst (18 + c) (min 256 (r.record.length - r.moved)) s
    if r.moved + 256 < r.record.length then
      updQch c (fun x => { x with rx := { r with moved := r.moved + 256 } :: rest }) s
    else rxDeliver c r (updQch c (fun x => { x with rx := rest }) s)

/-! ## Claim frames (R467, R468) -/

/-- The claim frame of a channel (R468). -/
def quayClaimFrame (s : State) (c : Nat) : QbEntry :=
  let p := qpar s c
  let fl := claimFlags s (s.fleet.horn.halt == allHalted)
  let b := le 1 (4 + p.form) ++ le 1 fl ++ le 2 (claim s) ++ le 4 s.clk.tide
  if p.form = 0 then { format := 0, id := p.claimId, data := b, claim := true }
  else
    let b := b ++ le 2 s.par.radio.segment
    { format := 2, id := p.claimId, data := b ++ claimTag s c s.clk.tide b ++ le 2 0, claim := true }

/-- CLAIM_FRAME_SEND (R421, R464, R467, R543, R544): claim frames pass control queue 118, and go out on the twin
link in pair mode and on factory defaults (R126); a module in single mode has no partner. -/
def execClaimFrameSend (s : State) : Res :=
  doneIn [.host, .stats, .pool, .quay, .out] s (
    if !s.sys.hmRuns || s.sys.modState < 3 || s.pr.powerFail then s
    else
      let s := each (claimChannels s) (fun c s =>
        if (qch s c).st = 0 then s
        else
          let e := quayClaimFrame s c
          let q := passCtrl 118 255 (berths e.data.length) e.data s
          if q.1.isNone then q.2
          else
            let s := if (qch q.2 c).express.isSome then count (31 + c) 5 q.2 else q.2
            updQch c (fun x => { x with express := some e }) s) s
      if pairMode s || s.cfg.defaultedBit then twinSend 255 (twinClaim s) s else s)

/-! ## Roles and disabling (R473, R474) -/

/-- A pilot becomes tender: every held entry but claim frames is retired with result 4 (R473). -/
def quayToTender (s : State) : State := each [0, 1, 2, 3] (fun c s => qbRetire c 4 (fun e => !e.claim) s) s

/-- The stopping edge of a channel (R474). -/
def stopQuay (c : Nat) (s : State) : State :=
  let s := qbRetire c 3 (fun _ => true) s
  let s := (qch s c).rx.foldl (fun s r => rxDeliver c r s) s
  updQch c (fun x => { x with st := 0, rx := [] }) s

/-- A channel starts in INTEGRATING with TEC and REC at 0 (R474). -/
def startQuay (c : Nat) (s : State) : State := updQch c (fun x => { x with st := 4, tec := 0, rxc := 0 }) s

/-- A session stops owning a queue window: filters that name it are disabled (R477). -/
def quayRelease (w : Nat) (s : State) : State :=
  each [0, 1, 2, 3] (fun c s =>
    each ((List.range 256).filter fun i => (filterOf s c i).action == 2 && (filterOf s c i).window == w && (filterOf s c i).enable)
      (fun i s => updQch c (fun x => { x with filters := tput none x.filters i (some { filterOf s c i with enable := false }) }) s) s) s

/-! ## Quay bus commands (R477, R478) -/

/-- QBUS_STATUS (R477). -/
def qbusStatusBytes (s : State) : List Byte :=
  [0, 1, 2, 3].flatMap fun c =>
    let x := qch s c
    let ex := match x.express with | none => 0 | some e => if e.claim then 1 else 2
    le 1 c ++ le 1 x.st ++ le 1 (qbFlags s c x) ++ le 1 (qpar s c).formatSet ++ le 2 x.tec ++ le 2 x.rxc ++ le 1 x.queue.length
      ++ le 1 ex ++ le 2 x.ackRun

def execQbusStatus (w : Nat) (s : State) : Res :=
  answered s (onCmd w 0x0B01 anyPayload (fun _ s => ok w (qbusStatusBytes s) s) s)

/-- QBUS_STATS (R476, R477). -/
def execQbusStats (w : Nat) (s : State) : Res :=
  answered s (onCmd w 0x0B02 (fun p => u8 p 0 > 3) (fun p s => ok w (snapshot (31 + u8 p 0) 15 s) s) s)

/-- The entries of a QBUS_SEND as bytes; none where they do not fill the payload (R472, R477). -/
def sendEntries : Nat → List Byte → Option (List (List Byte))
  | 0, p => if p.isEmpty then some [] else none
  | n + 1, p =>
    let k := 24 + u16 p 8
    if p.length < k then none else (sendEntries n (p.drop k)).map (p.take k :: ·)

/-- A length valid for the format (R472). -/
def lengthValid (format n : Nat) : Bool :=
  if format ≤ 1 then n ≤ 8 else if format ≤ 3 then n ≤ 8 || [12, 16, 20, 24, 32, 48, 64].contains n else 1 ≤ n && n ≤ 2048

/-- A value of an entry is out of range or a reserved field is not zero (R478). -/
def entryBad (set c : Nat) (e : List Byte) : Bool :=
  let f := u8 e 1
  let fl := u16 e 2
  u8 e 0 != c || !formatOk set f || fl > 15 || (fl % 2 == 1 && f > 1) || !lengthValid f (u16 e 8)
    || u32 e 4 ≥ (if f = 0 ∨ f = 2 ∨ f = 4 then 0x800 else 0x20000000)
    || (f != 4 && (u8 e 10 != 0 || u8 e 11 != 0 || u32 e 12 != 0)) || u8 e 16 > 3 || u8 e 17 != 0 || u32 e 20 != 0

def entryOfBytes (w : Nat) (s : State) (e : List Byte) : QbEntry :=
  { format := u8 e 1, flags := BitVec.ofNat 16 (u16 e 2), id := u32 e 4, sdt := u8 e 10, vcid := u8 e 11, af := u32 e 12,
    data := e.drop 24, notify := u8 e 16 % 2 == 1, ref := u16 e 18, owner := (w, callerSid s w) }

/-- QBUS_SEND (R456, R463, R464, R477, R478). -/
def qbusSendF (w : Nat) (p : List Byte) (s : State) : State :=
  let c := u8 p 0
  let x := qch s c
  match sendEntries (u8 p 1) (p.drop 4) with
  | none => refuse w stLENGTH s
  | some es =>
    let ex := es.filter fun e => u8 e 16 ≥ 2
    let q := (es.filter fun e => u8 e 16 < 2).map (entryOfBytes w s)
    if es.any (entryBad (qpar s c).formatSet c) then refuse w stFIELD s
    else if x.queue.length + q.length > 64 then refuse w stLIMIT s
    else if !ex.isEmpty && ((qpar s c).claims || x.st == 0 || (qpar s c).listenOnly || s.sys.tender) then refuse w stSTATE s
    else if !ex.isEmpty && (x.express.isSome || ex.length > 1) then refuse w stBUSY s
    else ok w (le 2 x.seq ++ le 2 0) (updQch c (fun x => { x with
      queue := x.queue ++ q, seq := (x.seq + q.length) % 65536
      express := match ex with | e :: _ => some (entryOfBytes w s e) | [] => x.express }) s)

def execQbusSend (w : Nat) (s : State) : Res :=
  doneIn [.host, .quay, .out] s (onCmd w 0x0B40 (fun p => u8 p 0 > 3 || u8 p 1 == 0 || u8 p 1 > 16) (qbusSendF w) s)

/-- QBUS_ENABLE (R474, R477, R478). -/
def qbusEnableF (w : Nat) (p : List Byte) (s : State) : State :=
  if u8 p 1 == 0 && (qpar s (u8 p 0)).claims then refuse w stPROT s
  else ok w (le 8 (nextTide s)) (switch (.quay (u8 p 0)) (u8 p 1 == 1) s)

def execQbusEnable (w : Nat) (s : State) : Res :=
  doneIn [.host, .switches, .out] s (onCmd w 0x0B41 (fun p => u8 p 0 > 3 || u8 p 1 > 1) (qbusEnableF w) s)

/-- A filter from its 20 bytes (R470). -/
def filterBytes (p : List Byte) : Filter :=
  { formats := BitVec.ofNat 8 (u8 p 0), action := u8 p 1, window := u8 p 2, enable := u8 p 3 == 1, id := BitVec.ofNat 32 (u32 p 4),
    idMask := BitVec.ofNat 32 (u32 p 8), af := BitVec.ofNat 32 (u32 p 12), afMask := BitVec.ofNat 32 (u32 p 16) }

def filterBad (p : List Byte) : Bool :=
  u8 p 0 > 3 || u8 p 4 > 31 || u8 p 5 > 2 || u8 p 6 > 15 || u8 p 7 > 1 || u32 p 8 ≥ 0x20000000

/-- QBUS_FILTER_SET (R470, R477, R478). -/
def qbusFilterF (w : Nat) (p : List Byte) (s : State) : State :=
  if u8 p 5 == 2 && !winOwnsQwin s w (u8 p 6) then refuse w stDENIED s
  else change w (.qfilter (u8 p 0) (u8 p 1) (filterBytes (p.drop 4))) s

def execQbusFilterSet (w : Nat) (s : State) : Res := doneIn [.host, .changes, .out] s (onCmd w 0x0B42 filterBad (qbusFilterF w) s)

def applyQuaySetting (x : Setting) (s : State) : State :=
  match x with
  | .qfilter c i f => updQch c (fun y => { y with filters := tput none y.filters i (some f) }) s
  | _ => s

/-- QBUS_FLUSH (R477). -/
def qbusFlushF (w : Nat) (p : List Byte) (s : State) : State :=
  let c := u8 p 0
  let me := (w, callerSid s w)
  let sel (e : QbEntry) : Bool := e.owner == me && !e.claim
  let n := ((qch s c).queue.filter sel).length + bit ((match (qch s c).express with | some e => sel e | none => false))
  ok w (le 1 n ++ le 3 0) (qbRetire c 3 sel s)

def execQbusFlush (w : Nat) (s : State) : Res := doneIn [.host, .stats, .quay, .out] s (onCmd w 0x0B43 (fun p => u8 p 0 > 3) (qbusFlushF w) s)

end Sys2Proof.Machine
end

