-- ==== Sys2Proof/Machine/Metering.lean ====
section
/-! DEFINITION. Sys2Proof/Machine/Metering.lean: sample frames, cycles, gains, accumulators, pulses, saves, the battery log
and the metering commands (chapter 15). -/

namespace Sys2Proof.Machine

def updMeter (f : Meter → Meter) (s : State) : State := { s with meter := f s.meter }

def vchan (s : State) (c : Nat) : VChan := tget {} s.meter.volts c
def updV (c : Nat) (f : VChan → VChan) (s : State) : State :=
  updMeter (fun m => { m with volts := tput {} m.volts c (f (tget {} m.volts c)) }) s

def ichan (s : State) (c : Nat) : IChan := tget {} s.meter.amps c
def updI (c : Nat) (f : IChan → IChan) (s : State) : State :=
  updMeter (fun m => { m with amps := tput {} m.amps c (f (tget {} m.amps c)) }) s

def mpoint (s : State) (p : Nat) : MPoint := tget {} s.meter.points p
def updMPoint (p : Nat) (f : MPoint → MPoint) (s : State) : State :=
  updMeter (fun m => { m with points := tput {} m.points p (f (tget {} m.points p)) }) s

def pout (s : State) (o : Nat) : POut := tget {} s.meter.outs o
def updPout (o : Nat) (f : POut → POut) (s : State) : State :=
  updMeter (fun m => { m with outs := tput {} m.outs o (f (tget {} m.outs o)) }) s

def mark (i : Nat) (s : State) : State := updMeter (fun m => { m with flags := m.flags ||| ((1 : BitVec 32) <<< i) }) s

/-! ## Parameters in force -/

def pointPar (s : State) (p : Nat) : PointPar := tget {} s.par.meter.points p

/-- Busbar of a point: incomers 1 and 2 are on A and B (R481). -/
def busbarOf (s : State) (p : Nat) : Nat := if p < 2 then p else (pointPar s p).busbar

/-- An incomer with the billing flag, on by default (R481). -/
def billing (s : State) (p : Nat) : Bool := p < 2 && ((pointPar s p).billing).getD true

def pointOn (s : State) (p : Nat) : Bool := billing s p || ((mpoint s p).set.getD (pointPar s p).enabled)

/-- Scale of an MF9 channel at a gain, in 1/1,000 V or A at full scale (R482). -/
def scaleOf (s : State) (ch gain : Nat) : Nat :=
  if !s.par.meter.scaled then 1000
  else let l := tget [] s.par.meter.scales ch
    l.getD gain (l.headD 1000)

/-- Phase correction of a current channel at a gain, units of 2^-10 sample period (R482). -/
def phaseCorr (s : State) (ch gain : Nat) : Int :=
  if !s.par.meter.scaled then 0
  else let l := tget [] s.par.meter.phase ch
    l.getD gain (l.headD 0)

/-- No-load threshold of an incomer in mA: 0.1 % of rated current by default (R489). -/
def noLoad (s : State) (p : Nat) : Nat := (pointPar s p).noLoadMa.getD (pointPar s p).ratedA

/-- Parameters of a pulse output: outputs 0 and 1 count the import of points 0 and 1 by default (R495). -/
def pulsePar (s : State) (o : Nat) : PulsePar :=
  (pout s o).set.getD (tget { point := if o < 2 then some o else none } s.par.meter.pulses o)

/-- C times the rated power stays within 100 pulses per second (R495). -/
def pulseRateOk (s : State) (p c : Nat) : Bool := pulseRate s.par.meter p c

def fullScale : Nat := 8388607

/-- Filtered codes are in units of 2^-16 code: full scale of a channel in those units. -/
def unitFs : Nat := 65536 * fullScale

/-! ## Cycles (R486 to R489) -/

/-- RMS from a sum of squares of scaled samples, in 1/1,000 V or A. -/
def rmsOf (sq n : Nat) : Nat := if n = 0 then 0 else Nat.sqrt (sq / n) / unitFs

/-- Factor from the sum of products of a scaled voltage and an interpolated scaled current to W. -/
def powDen : Nat := unitFs * unitFs * 1024 * 1000000

/-- A current channel's cycle ends (R488, R489, R513). -/
def ampCycle (p ch : Nat) (s : State) : State :=
  let x := ichan s ch
  let up := p ≥ 2 && max x.peak x.peakLast * 16 < 3 * fullScale && !x.switched && !x.switchedLast && x.gain < 2 && x.next.isNone
  let thr := noLoad s p
  let on := p ≥ 2 || (x.n != 0 && x.sq ≥ x.n * (thr * unitFs) * (thr * unitFs))
  let s := updI ch (fun y => { y with
    rms := rmsOf x.sq x.n, watts := if x.n = 0 then 0 else x.pow / ((powDen * x.n : Nat) : Int), sq := 0, pow := 0, n := 0
    peakLast := x.peak, peak := 0, switchedLast := x.switched, switched := up
    next := if up then some (x.gain + 1, 2) else x.next, on }) s
  if up then updMeter (fun m => { m with gainSwitches := m.gainSwitches + 1 }) s else s

/-- Conductors of a point whose cycles follow phase x: N follows L1 (R486). -/
def conductors (x : Nat) : List Nat := if x = 0 then [0, 3] else [x]

/-- A cycle of voltage channel c ends (R486, R487). -/
def cycleEnd (c : Nat) (s : State) : State :=
  let v := vchan s c
  let s := updV c (fun y => { y with rms := rmsOf v.sq v.n, sq := 0, n := 0 }) s
  let b := c / 3
  each ((List.range 12).filter fun p => busbarOf s p == b) (fun p s =>
    each (conductors (c % 3)) (fun x s => ampCycle p (4 * p + x) s) s) s

/-- What ran of a voltage channel's cycle is no complete cycle: its sums are discarded (R486, R487). -/
def cycleDrop (c : Nat) (s : State) : State :=
  let s := updV c (fun y => { y with sq := 0, n := 0 }) s
  each ((List.range 12).filter fun p => busbarOf s p == c / 3) (fun p s =>
    each (conductors (c % 3)) (fun x s => updI (4 * p + x) (fun y => { y with sq := 0, pow := 0, n := 0, peak := 0 }) s) s) s

/-- Frequency of a busbar in mHz (R486). -/
def freqOf (s : State) (b : Nat) : Nat :=
  match [3 * b, 3 * b + 1, 3 * b + 2].find? fun c => !(vchan s c).dead && (vchan s c).crosses.length ≥ 2 with
  | none => 0
  | some c =>
    let l := (vchan s c).crosses
    let d := l.headD 0 - l.getLastD 0
    if d = 0 then 0 else (l.length - 1) * 1000 * 32000 * 256 / d

/-- MTR_CROSSING (R514). -/
def crossEvent (c kind : Nat) (s : State) : State :=
  raise 0x0C80 (le 1 c ++ le 1 kind ++ le 2 0 ++ le 4 (freqOf s (c / 3))) s

/-- Zero-crossing detection of a voltage channel (R486, R487): a and b are its last two filtered and scaled samples. The first
crossing, and the one that ends NO_CROSSING, start a cycle and end none (log entry 76). -/
def crossing (c : Nat) (a b : Int) (s : State) : State :=
  let v := vchan s c
  let peak : Int := (s.par.meter.nominalV * 1000 * unitFs : Nat)
  let low := b < 0 && 50 * b * b > peak * peak
  if v.armed && a < 0 && b ≥ 0 then
    let at_ := (s.meter.n - 1) * 256 + ((-a) * 256 / (b - a)).toNat
    let s := if v.begun && !v.dead then cycleEnd c s else cycleDrop c s
    let s := updV c (fun y => { y with armed := false, begun := true, crosses := (at_ :: y.crosses).take 11, last := s.meter.n,
                                       dead := false }) s
    if v.dead then crossEvent c 0 (mark 3 s) else s
  else updV c (fun y => { y with armed := y.armed || low }) s

/-- NO_CROSSING_ENTRY (R487): 40 ms without a crossing. -/
def execNoCrossingEntry (c : Nat) (s : State) : Res :=
  doneIn [.host, .meter, .out] s (
    let v := vchan s c
    if c > 5 || !s.meter.on || v.dead || s.meter.n < v.last + 1280 then s
    else crossEvent c 1 (mark 3 (updV c (fun y => { y with dead := true, begun := true, winStart := s.meter.n, crosses := [] })
      (cycleDrop c s))))

/-- NO_CROSSING_WINDOW (R487, R489): a fixed window of 20 ms ends as a cycle. -/
def execNoCrossingWindow (c : Nat) (s : State) : Res :=
  doneIn [.meter] s (
    let v := vchan s c
    if c > 5 || !s.meter.on || !v.dead || s.meter.n < v.winStart + 640 then s
    else updV c (fun y => { y with winStart := v.winStart + 640 }) (cycleEnd c s))

/-! ## Accumulation (R484, R491, R496) -/

/-- A quotient rounded half to even. -/
def roundEven (a b : Nat) : Nat :=
  let q := a / b
  let r := 2 * (a % b)
  if r > b ∨ (r = b ∧ q % 2 = 1) then q + 1 else q

/-- Scaled value of an MF9 channel some sample periods back. -/
def valueAt (s : State) (i ch : Nat) : Int := ((s.meter.hist.getD i {}).vals).getD ch 0

/-- A current two sample periods back, delayed by the correction that held for it, times 1,024 (R484). -/
def delayed (s : State) (ch : Nat) : Int :=
  let d := (2048 + ((s.meter.hist.getD 2 {}).corr).getD (ch - 6) 0).toNat
  valueAt s (d / 1024) ch * (1024 - (d % 1024 : Nat)) + valueAt s (d / 1024 + 1) ch * (d % 1024 : Nat)

/-- Power of one phase of a point as the product of scaled codes (R484): no power while gated off. -/
def phasePower (s : State) (p x : Nat) : Int :=
  if p < 2 && !(ichan s (4 * p + x)).on && noLoad s p != 0 then 0
  else valueAt s 2 (3 * busbarOf s p + x) * delayed s (6 + 4 * p + x)

/-- pulse_add (R491, R496). -/
def pulseAdd (p : Nat) (exp : Bool) (d : Nat) (s : State) : State :=
  each [0, 1, 2, 3] (fun o s =>
    let par := pulsePar s o
    if par.point != some p || par.export_ != exp then s
    else
      let r := (pout s o).residue + par.const * d
      let full := 1000000000 * 2 ^ 32
      updPout o (fun x => { x with residue := r % full, due := x.due + r / full }) s) s

/-- accumulate(p, n) (R491). -/
def accumulate (p : Nat) (s : State) : State :=
  if !pointOn s p then s
  else
    let w := phasePower s p 0 + phasePower s p 1 + phasePower s p 2
    let d := roundEven (w.natAbs * 2 ^ 32 * 10) (1152 * powDen)
    if w > 0 then pulseAdd p false d (updMPoint p (fun x => { x with imp := (x.imp + d) % 2 ^ 96 }) s)
    else if w < 0 then pulseAdd p true d (updMPoint p (fun x => { x with exp := (x.exp + d) % 2 ^ 96 }) s)
    else s

/-- A commanded gain takes effect at the frame two after the commanding sample (R488). -/
def stepGain (ch : Nat) (s : State) : State :=
  updI ch (fun y => match y.next with
    | some (g, 1) => { y with gain := g, next := none }
    | some (g, n) => { y with next := some (g, n - 1) }
    | none => y) s

/-- Sums of the running cycle of a current channel, its peak and its downward switch (R488). -/
def ampSample (ch : Nat) (code i w : Int) (s : State) : State :=
  let p := ch / 4
  let a := ichan s ch
  let down := p ≥ 2 && code.natAbs * 16 ≥ 15 * fullScale && a.gain > 0 && a.next.isNone
  let clip := p ≥ 2 && code.natAbs ≥ fullScale
  let s := updI ch (fun y => { y with
    sq := y.sq + i.natAbs * i.natAbs, pow := y.pow + w, n := y.n + 1, peak := max y.peak code.natAbs
    next := if down then some (a.gain - 1, 2) else y.next, switched := y.switched || down }) s
  let s := if down then updMeter (fun m => { m with gainSwitches := m.gainSwitches + 1 }) s else s
  if clip then mark 6 (updMeter (fun m => { m with clipped := m.clipped + 1 }) s) else s

/-- A sample as it is scaled: by the gain that holds and, for the currents of a reversed point, negated (R481, R482, R484). -/
def scaled (s : State) (ch : Nat) (y : Int) : Int :=
  if ch < 6 then y * (scaleOf s ch 0 : Int)
  else
    let v := y * (scaleOf s ch (ichan s (ch - 6)).gain : Int)
    if (pointPar s ((ch - 6) / 4)).reversed then -v else v

/-- The samples of a frame, its own or substituted, are processed and accumulated (R484 to R491). -/
def takeSamples (codes : List Int) (s : State) : State :=
  let s := each (List.range 48) stepGain s
  let mem := s.meter.hpf
  let ix := List.range 54
  let row : MRow := {
    vals := ix.map fun i => scaled s i (Config.hpfOut (mem.getD i 0) (codes.getD i 0))
    corr := (List.range 48).map fun i => phaseCorr s (6 + i) (ichan s i).gain }
  let old := s.meter.hist.headD {}
  let s := updMeter (fun m => { m with
    hpf := ix.map fun i => Config.hpfNext (mem.getD i 0) (codes.getD i 0)
    hist := (row :: m.hist).take 5
    first := some (m.first.getD m.n), last := m.n, lastAt := nowNs s ((m.n - m.tideN) * 31250) }) s
  let s := each (List.range 12) accumulate s
  let s := each (List.range 48) (fun ch s =>
    let w := if ch % 4 = 3 then 0 else phasePower s (ch / 4) (ch % 4)
    ampSample ch (codes.getD (6 + ch) 0) (row.vals.getD (6 + ch) 0) w s) s
  each (List.range 6) (fun c s =>
    let v := row.vals.getD c 0
    crossing c (old.vals.getD c 0) v (updV c (fun z => { z with sq := z.sq + v.natAbs * v.natAbs, n := z.n + 1 }) s)) s

/-- A sample period passes: the first one after an edge is taken to stand at the edge (R483; log entry 76). -/
def samplePeriod (s : State) : State :=
  updMeter (fun m => { m with
    n := m.n + 1, tideRan := s.clk.ran, tideN := if m.tideRan = s.clk.ran then m.tideN else m.n + 1
    expected := m.expected.map fun c => (c + 1) % 65536 }) s

/-- A bad frame: substituted up to 31 times in a row, then nothing is accumulated and gap time runs (R29, R485). -/
def badFrame (s : State) : State :=
  let s := updMeter (fun m => { m with badRun := m.badRun + 1, goodRun := 0, badFrames := m.badFrames + 1 }) (samplePeriod s)
  if s.meter.badRun < 32 then takeSamples s.meter.prev s
  else mark 1 (updMeter (fun m => { m with gapSamples := m.gapSamples + 1, gapNow := m.gapNow + 1 }) s)

/-- A good frame (R29, R485). -/
def goodFrame (count : Nat) (samples : List Int) (s : State) : State :=
  takeSamples samples (updMeter (fun m => { m with
    badRun := 0, goodRun := m.goodRun + 1, expected := some ((count + 1) % 65536), prev := samples, seqRun := 0 })
    (samplePeriod s))

/-- Frames with a correct CRC out of sequence (R485): after four that run in sequence the new count is adopted. -/
def strayFrame (count : Nat) (s : State) : State :=
  let m := s.meter
  let r := if m.seqRun > 0 && count == (m.lastCount + 1) % 65536 then m.seqRun + 1 else 1
  let s := badFrame (updMeter (fun m => { m with lastCount := count }) s)
  if r ≥ 4 then updMeter (fun m => { m with seqRun := 0, expected := some ((count + 1) % 65536) }) s
  else updMeter (fun m => { m with seqRun := r }) s

/-- MF9_SAMPLE_FRAME (R29, R481 to R491, R496). -/
def execMf9SampleFrame (frameCount : Nat) (crcOk : Bool) (samples : List Int) (s : State) : Res :=
  doneIn [.host, .meter, .out] s (
    if !s.meter.on then s
    else if !crcOk then badFrame (updMeter (fun m => { m with seqRun := 0 }) s)
    else if s.meter.expected.isNone || s.meter.expected == some frameCount then goodFrame frameCount samples s
    else strayFrame frameCount s)

/-- MF9_FRAME_TIMEOUT (R485): a frame that does not arrive counts as bad. -/
def execMf9FrameTimeout (s : State) : Res :=
  doneIn [.host, .meter, .out] s (if s.meter.on then badFrame (updMeter (fun m => { m with seqRun := 0 }) s) else s)

def samplesUs (n : Nat) : Nat := n * 125 / 4

/-- LINK_GAP_START (R485, R514): the 32nd consecutive bad frame. -/
def execLinkGapStart (s : State) : Res :=
  doneIn [.host, .meter, .out] s (
    if s.meter.gap || s.meter.badRun < 32 then s
    else raise 0x0C81 (le 1 1 ++ le 3 0 ++ le 4 0) (updMeter (fun m => { m with gap := true, linkGaps := m.linkGaps + 1 }) s))

/-- LINK_GAP_END (R485, R514): after 64 consecutive good frames. -/
def execLinkGapEnd (s : State) : Res :=
  doneIn [.host, .meter, .out] s (
    if !s.meter.gap || s.meter.goodRun < 64 then s
    else raise 0x0C81 (le 1 0 ++ le 3 0 ++ le 4 (samplesUs s.meter.gapNow)) 
      (mark 1 (updMeter (fun m => { m with gap := false, gapNow := 0 }) s)))

/-! ## Pulses (R496, R497, R514) -/

def pulseEvent (o kind n : Nat) (s : State) : State := raise 0x0C84 (le 1 o ++ le 1 kind ++ le 2 n) s

/-- The leading edge of a pulse. -/
def pulseOut (o : Nat) (s : State) : State :=
  emit (.pulse o (pulsePar s o).width) (updPout o (fun x => { x with edge := some s.meter.n }) s)

def spaced (s : State) (o : Nat) : Bool := match (pout s o).edge with | some e => s.meter.n ≥ e + 320 | none => true

/-- PULSE_EMIT (R496, R497): a due pulse leaves, or waits as backlog. -/
def execPulseEmit (o : Nat) (s : State) : Res :=
  doneIn [.host, .meter, .out] s (
    let x := pout s o
    if o > 3 || x.due = 0 then s
    else
      let s := updPout o (fun y => { y with due := y.due - 1 }) s
      if x.backlog = 0 && spaced s o then pulseOut o s
      else
        let s := updPout o (fun y => { y with backlog := y.backlog + 1 }) (updMeter (fun m => { m with delayed := m.delayed + 1 }) s)
        if x.backlog = 0 then pulseEvent o 1 1 s else s)

/-- PULSE_BACKLOG_EMIT (R497): 10 ms after the previous edge. -/
def execPulseBacklogEmit (o : Nat) (s : State) : Res :=
  doneIn [.host, .meter, .out] s (
    let x := pout s o
    if o > 3 || x.backlog = 0 || !spaced s o then s
    else
      let s := pulseOut o (updPout o (fun y => { y with backlog := y.backlog - 1 }) s)
      if x.backlog = 1 then pulseEvent o 0 0 s else s)

/-- Pulse parameters change (R496, R497): a backlog that is dropped clears; a rescaled residue that reaches a pulse makes it due. -/
def setPulse (o : Nat) (par : PulsePar) (s : State) : State :=
  let old := pulsePar s o
  if old.point != par.point || old.export_ != par.export_ then
    let t := updPout o (fun x => { x with set := some par, residue := 0, backlog := 0 }) s
    if (pout s o).backlog = 0 then t else pulseEvent o 0 0 t
  else
    let full := 1000000000 * 2 ^ 32
    updPout o (fun x =>
      let r := x.residue * par.const / old.const
      { x with set := some par, residue := r % full, due := x.due + r / full }) s

/-! ## Interval record (R492 to R494) -/

def acc12 (v : Nat) : List Byte := le 12 (v % 2 ^ 96)

/-- A point's block of 72 bytes (R493). -/
def pointBlock (x : MPoint) : List Byte :=
  let i := (x.imp + 2 ^ 96 - x.impAt) % 2 ^ 96
  let e := (x.exp + 2 ^ 96 - x.expAt) % 2 ^ 96
  acc12 i ++ acc12 x.imp ++ acc12 e ++ acc12 x.exp ++ acc12 (i + 2 ^ 96 - e) ++ acc12 (x.imp + 2 ^ 96 - x.exp)

/-- Samples that the interval's elapsed time spans (R493, R503). -/
def elapsed (s : State) : Nat :=
  s.meter.carried + (match s.meter.first with | some f => s.meter.last - f + 1 | none => 0)

/-- UNSCALED and NO_CROSSING as they stand (R493, R494). -/
def standing (s : State) : BitVec 32 :=
  BitVec.ofNat 32 (bit (!s.par.meter.scaled) + 8 * bit ((List.range 6).any fun c => (vchan s c).dead) + 2 * bit s.meter.gap)

/-- The latch of the interval record, after group 36 has latched its header (R492 to R494, R58). -/
def meterLatch (s : State) : State :=
  let h := (stat s 36).header
  let r := le 8 h.1 ++ le 4 h.2.1 ++ le 4 h.2.2 ++ le 4 (s.meter.flags ||| standing s).toNat
    ++ le 4 (min (samplesUs s.meter.gapSamples) 0xFFFFFFFF) ++ le 8 (samplesUs (elapsed s))
    ++ (List.range 12).flatMap fun p => pointBlock (mpoint s p)
  updMeter (fun m => { m with
    record := r, flags := 0, gapSamples := 0, first := none, carried := 0, latchDue := false
    points := m.points.map fun x => (x.1, { x.2 with impAt := x.2.imp, expAt := x.2.exp }) }) s

/-! ## Saves (R498 to R500) -/

/-- The newest valid save and its copy: 0 A, 1 B (R499, R501). -/
def newestSave (m : Meter) : Option (Nat × MeterSave) :=
  match m.copyA, m.copyB with
  | some a, some b => if b.seq > a.seq then some (1, b) else some (0, a)
  | some a, none => some (0, a)
  | none, some b => some (1, b)
  | none, none => none

/-- The metering state (R498). -/
def meterData (s : State) : MeterData :=
  { points := s.meter.points, gapSamples := s.meter.gapSamples, elapsed := elapsed s, scales := s.meter.batScales,
    outs := (List.range 4).foldl (fun t o => tput (0, 0) t o ((pout s o).residue, (pout s o).backlog + (pout s o).due)) [] }

/-- A snapshot is taken and its write begins, into the copy that does not hold the newest valid save (R499, R500). A command's
write in progress is abandoned, and its command is cancelled. -/
def beginSave (kind : Nat) (j : Option Job) (s : State) : State :=
  let c := match newestSave s.meter with | some (0, _) => 1 | _ => 0
  let q := match newestSave s.meter with | some x => x.2.seq + 1 | none => 1
  let v : MeterSave := { seq := q, kind, snapTide := s.clk.tide, snapTime := s.meter.lastAt, data := meterData s }
  let s := match s.meter.writing with | some x => finishOpt x.2.2 stCANCELLED s | none => s
  updMeter (fun m => { m with
    writing := some (c, v, j)
    copyA := if c = 0 then none else m.copyA
    copyB := if c = 1 then none else m.copyB }) s

/-- METERING_SAVE (R499): at each edge with k mod 6,000 = 0, and for an MTR_SAVE. -/
def execMeteringSave (s : State) : Res :=
  doneIn [.host, .meter, .log, .out] s (
    let periodic := s.clk.tide % 6000 == 0 && s.meter.snapped != s.clk.tide + 1
    if !s.meter.on || s.pr.powerFail || s.meter.writing.isSome then s
    else if periodic then beginSave 0 none (updMeter (fun m => { m with snapped := s.clk.tide + 1 }) s)
    else match s.meter.ask with
      | some (j, r) => if s.clk.ran ≤ r then s else beginSave 2 (some j) (updMeter (fun m => { m with ask := none }) s)
      | none => s)

/-- The copy being written is complete (R499, R512). -/
def saveDone (s : State) : State :=
  match s.meter.writing with
  | none => s
  | some (c, v, j) =>
    finishOpt j stOK (updMeter (fun m => { m with
      writing := none, saves := m.saves + 1
      copyA := if c = 0 then some v else m.copyA
      copyB := if c = 1 then some v else m.copyB }) s)

/-- METERING_SAVE_COMPLETE (R499, R512). -/
def execMeteringSaveComplete (s : State) : Res := doneIn [.host, .meter, .log, .out] s (saveDone s)

/-- POWER_FAIL_SAVE_REPEAT (R500). -/
def execPowerFailSaveRepeat (s : State) : Res :=
  doneIn [.host, .meter, .log, .out] s (
    if s.pr.powerFail && s.meter.on && s.meter.writing.isNone then beginSave 1 none s else s)

/-! ## Battery mode (R504 to R506) -/

/-- The entry of a finished run (R505). -/
def batEntry (r : BatRun) : List Byte :=
  le 6 r.start ++ le 4 r.seconds ++ le 1 r.flags.toNat ++ le 1 0 ++ (List.range 8).flatMap (fun i => le 2 (r.max_.getD i 0))
    ++ le 4 r.sum

/-- A run ends in an entry of the ring of 256 (R506). -/
def endRun (s : State) : State :=
  match s.meter.run with
  | none => s
  | some r =>
    let full := s.meter.log.length ≥ 256
    updMeter (fun m => { m with
      run := none, fresh := m.fresh + 1, overwritten := if full then m.overwritten + 1 else m.overwritten
      log := (if full then m.log.drop 1 else m.log) ++ [batEntry r] }) s

/-- A burst that reaches a threshold or finds no supply starts or continues a run (R505): RMS in 0.1 A. -/
def runWith (over1 over2 supply : Bool) (rms : List Nat) (s : State) : State :=
  let r := s.meter.run.getD { start := s.rtc.sec }
  let f := BitVec.ofNat 8 (bit over1 + 2 * bit over2 + 4 * bit (!supply))
  let rms := if supply then rms else []
  let r : BatRun := { r with
    seconds := r.seconds + 1, flags := r.flags ||| f
    max_ := (List.range 8).map fun i => min 65535 (max (r.max_.getD i 0) (rms.getD i 0))
    sum := min 0xFFFFFFFF (r.sum + rms.foldl max 0) }
  updMeter (fun m => { m with run := some r }) s

/-- Primary current in mA times full scale, of the RMS code of channel 6 + i by the battery domain's scales (R482, R504). -/
def burstMa (s : State) (i code : Nat) : Nat := code * s.meter.batScales.getD i 0

/-- BATTERY_BURST (R504, R505): while the main domain is absent and battery mode is enabled. The burst gives the RMS code of
channels 6 to 13. -/
def execBatteryBurst (supply : Bool) (codes : List Nat) (s : State) : Res :=
  doneIn [.meter] s (
    if !s.meter.mainOff || !s.par.meter.battery || s.sys.kind != 0 then s
    else
      let ma := (List.range 8).map fun i => burstMa s i (codes.getD i 0)
      let hit (k : Nat) : Bool := supply && ((ma.drop (4 * k)).take 4).any fun x =>
        x ≥ tget 1000 s.par.meter.theftMa k * fullScale
      if hit 0 || hit 1 || !supply then runWith (hit 0) (hit 1) supply (ma.map fun x => x / (100 * fullScale)) s else endRun s)

/-! ## Start of metering (R501 to R503, R506) -/

/-- The gains, gating, filters and cycles after a start of metering (R487 to R489). -/
def freshMeter (s : State) : State :=
  updMeter (fun m => { m with
    on := true, expected := none, prev := [], badRun := 0, goodRun := 0, gap := false, gapNow := 0, seqRun := 0, n := 0, hpf := []
    hist := [], volts := [], amps := [], writing := none, ask := none, first := none, last := 0, snapped := 0
    lastAt := nowNs s 0, tideRan := s.clk.ran, tideN := 1 }) s

/-- The state comes from the chosen copy (R501, R503). -/
def takeCopy (v : MeterSave) (s : State) : State :=
  updMeter (fun m => { m with
    points := v.data.points.map (fun x => (x.1, { x.2 with set := none })), gapSamples := v.data.gapSamples
    carried := v.data.elapsed, lost := false, lastAt := v.snapTime
    outs := v.data.outs.foldl (fun t x => tput {} t x.1 { residue := x.2.1, backlog := x.2.2 }) [] }) s

/-- MTR_ENERGY_GAP and its logbook record (R501, R502, R514). -/
def energyGapEvent (tide us kind sev : Nat) (s : State) : State :=
  logIt 0x0C (1 + kind) sev 2 [tide, us] (raise 0x0C82 (le 8 tide ++ le 8 us ++ le 1 kind ++ le 3 0) s)

/-- METERING_RESUME (R501 to R503): the loss instant is the battery domain's, else the start instant as an upper bound. -/
def meterStart (s : State) : State :=
  let now := nowNs s 0
  match newestSave s.meter with
  | none =>
    let s := updMeter (fun m => { m with points := [], outs := [], lost := true, energyGap := false, bound := false, unaccounted := 0 })
      (freshMeter s)
    energyGapEvent 0 0 2 7 (mark 4 s)
  | some (_, v) =>
    let at_ := match s.meter.loss with | some t => t + rtcEpoch * 1000000000 | none => now
    let bound := s.meter.loss.isNone
    let us := (at_ - v.snapTime) / 1000
    let gap := at_ - v.snapTime > 4000000
    let s := takeCopy v (freshMeter s)
    let s := updMeter (fun m => { m with energyGap := gap, bound, unaccounted := us, loss := none }) s
    let l := s.par.meter.len
    let ended := (s.clk.tide - s.par.meter.phaseP) / l > (v.snapTide - s.par.meter.phaseP) / l
    let s := updMeter (fun m => { m with latchDue := ended }) s
    if gap then energyGapEvent v.snapTide us (bit bound) 5 (mark 2 s) else s

/-- MTR_BATTERY at the first start after battery mode (R506, R514). -/
def batteryBack (s : State) : State :=
  if !s.meter.mainOff then s
  else
    let s := match s.meter.run with
      | some r => endRun (updMeter (fun m => { m with run := some { r with flags := r.flags ||| 8 } }) s)
      | none => s
    let n := s.meter.fresh
    let top := (s.meter.log.drop (s.meter.log.length - n)).foldl (fun a e =>
      (List.range 8).foldl (fun a i => max a (u16 e (12 + 2 * i))) a) 0
    let s := updMeter (fun m => { m with mainOff := false, fresh := 0 }) s
    if !s.par.meter.battery then s
    else logIt 0x0C 4 3 2 [n, top] (raise 0x0C83 (le 2 n ++ le 2 s.meter.overwritten ++ le 2 top ++ le 2 0) s)

/-- The battery domain keeps the incomer scales (R498, R504). -/
def keepScales (s : State) : State :=
  updMeter (fun m => { m with batScales := (List.range 8).map fun i => scaleOf s (6 + i) 0 }) s

/-! ## Points (R507) -/

def stopPoint (p : Nat) (s : State) : State := updMPoint p (fun x => { x with set := some false }) s

/-- Gains return to x1 on enable (R507). -/
def resetGains (p : Nat) (s : State) : State :=
  each [0, 1, 2, 3] (fun x s => updI (4 * p + x) (fun y => { y with gain := 0, next := none }) s) s

def startPoint (p : Nat) (s : State) : State := resetGains p (updMPoint p (fun x => { x with set := some true }) s)

/-! ## Metering commands (R510 to R513) -/

/-- MTR_STATUS (R512). -/
def mtrStatusBytes (s : State) : List Byte :=
  let m := s.meter
  let dead := (List.range 6).foldl (fun a c => a + bit (vchan s c).dead * 2 ^ c) 0
  let v := match newestSave m with | some x => x.2 | none => {}
  le 1 (bit m.gap) ++ le 1 dead
    ++ le 1 (bit (!s.par.meter.scaled) + 2 * bit m.lost + 4 * bit m.energyGap + 8 * bit m.bound + 16 * bit s.par.meter.battery)
    ++ le 1 v.kind ++ le 4 (freqOf s 0) ++ le 4 (freqOf s 1) ++ le 4 v.seq ++ le 8 v.snapTide ++ le 8 m.unaccounted
    ++ le 2 m.log.length ++ le 2 m.overwritten ++ le 4 m.badFrames.toNat ++ le 4 m.linkGaps.toNat ++ le 4 m.gainSwitches.toNat
    ++ le 4 m.clipped.toNat ++ le 4 m.delayed.toNat ++ le 4 m.saves.toNat

def execMtrStatus (w : Nat) (s : State) : Res :=
  answered s (onCmd w 0x0C01 anyPayload (fun _ s => ok w (mtrStatusBytes s) s) s)

/-- MTR_POINT (R513). -/
def mtrPointBytes (s : State) (p : Nat) : List Byte :=
  let x := mpoint s p
  let b := busbarOf s p
  le 1 p ++ le 1 (bit (p ≥ 2)) ++ le 1 (bit (pointOn s p) + 2 * bit (billing s p) + 4 * bit (pointPar s p).reversed) ++ le 1 b
    ++ acc12 x.imp ++ acc12 x.exp ++ (List.range 4).flatMap (fun k => le 1 (if p < 2 then 0 else (ichan s (4 * p + k)).gain))
    ++ (List.range 4).flatMap fun k =>
      let a := ichan s (4 * p + k)
      le 4 (if k = 3 then 0 else (vchan s (3 * b + k)).rms) ++ le 4 a.rms
        ++ leI 4 (if k = 3 ∨ (p < 2 ∧ !a.on ∧ noLoad s p ≠ 0) then 0 else a.watts)

def execMtrPoint (w : Nat) (s : State) : Res :=
  answered s (onCmd w 0x0C02 (fun p => u8 p 0 > 11) (fun p s => ok w (mtrPointBytes s (u8 p 0)) s) s)

/-- MTR_INTERVAL (R510): 896 bytes, zero before the first latch. -/
def execMtrInterval (w : Nat) (s : State) : Res :=
  answered s (onCmd w 0x0C03 anyPayload (fun _ s => ok w (if s.meter.record.isEmpty then zeros 896 else s.meter.record) s) s)

/-- MTR_BATTERY_LOG (R510, R511). -/
def mtrBatteryLogF (w : Nat) (p : List Byte) (s : State) : State :=
  if u16 p 0 ≥ s.meter.log.length then refuse w stSTATE s
  else
    let es := (s.meter.log.drop (u16 p 0)).take (u8 p 2)
    ok w (le 2 s.meter.log.length ++ le 2 s.meter.overwritten ++ es.flatten) s

def execMtrBatteryLog (w : Nat) (s : State) : Res :=
  answered s (onCmd w 0x0C04 (fun p => u16 p 0 > 255 || u8 p 2 == 0 || u8 p 2 > 100) (mtrBatteryLogF w) s)

/-- MTR_POINT_ENABLE (R61, R507, R510, R511). -/
def mtrPointEnableF (w : Nat) (p : List Byte) (s : State) : State :=
  if billing s (u8 p 0) && u8 p 1 == 0 then refuse w stPROT s
  else ok w (le 8 (nextTide s)) (switch (.meterPoint (u8 p 0)) (u8 p 1 == 1) s)

def execMtrPointEnable (w : Nat) (s : State) : Res :=
  doneIn [.host, .switches, .out] s (onCmd w 0x0C40 (fun p => u8 p 0 > 11 || u8 p 1 > 1) (mtrPointEnableF w) s)

/-- MTR_PULSE_SET (R495, R497, R510, R511). -/
def mtrPulseBad (p : List Byte) : Bool :=
  u8 p 0 > 3 || (u8 p 1 > 11 && u8 p 1 != 0xFF) || u8 p 2 > 1 || u8 p 3 == 0 || u8 p 3 > 5 || u32 p 4 == 0 || u32 p 4 > 100000

def mtrPulseF (w : Nat) (p : List Byte) (s : State) : State :=
  let v : PulsePar := { point := if u8 p 1 = 0xFF then none else some (u8 p 1), export_ := u8 p 2 == 1, const := u32 p 4,
                        width := u8 p 3 }
  if u8 p 1 != 0xFF && !pulseRateOk s (u8 p 1) (u32 p 4) then refuse w stLIMIT s
  else change w (.pulse (u8 p 0) v) s

def execMtrPulseSet (w : Nat) (s : State) : Res := doneIn [.host, .changes, .out] s (onCmd w 0x0C41 mtrPulseBad (mtrPulseF w) s)

/-- MTR_SAVE (R499, R510, R511). -/
def mtrSaveF (w : Nat) (_ : List Byte) (s : State) : State :=
  let busy := s.meter.ask.isSome || (match s.meter.writing with | some x => x.2.2.isSome | none => false)
  if busy then refuse w stBUSY s
  else
    let j := jobOf w s
    respond w stACCEPTED [] (updMeter (fun m => { m with ask := some (j, s.clk.ran) }) s)

def execMtrSave (w : Nat) (s : State) : Res := doneIn [.host, .meter, .out] s (onCmd w 0x0C42 anyPayload (mtrSaveF w) s)

/-- MTR_BATTERY_LOG_CLEAR (R506, R510). -/
def mtrBatteryClearF (w : Nat) (_ : List Byte) (s : State) : State :=
  ok w (le 2 s.meter.log.length ++ le 2 0) (updMeter (fun m => { m with log := [], fresh := 0 }) s)

def execMtrBatteryLogClear (w : Nat) (s : State) : Res := doneIn [.host, .meter, .out] s (onCmd w 0x0C43 anyPayload (mtrBatteryClearF w) s)

end Sys2Proof.Machine
end

