-- ==== Sys2Proof/Machine/LampSign.lean ====
section
/-! DEFINITION. Sys2Proof/Machine/LampSign.lean: the sign and lamp engine (chapter 16). -/

namespace Sys2Proof.Machine

def updLs (f : LampSign → LampSign) (s : State) : State := { s with lampSign := f s.lampSign }

def lport (s : State) (p : Nat) : LampPort := tget {} s.lampSign.ports p

def updLport (p : Nat) (f : LampPort → LampPort) (s : State) : State :=
  updLs (fun l => { l with ports := tput {} l.ports p (f (tget {} l.ports p)) }) s

def lpar (s : State) (p : Nat) : LampPar := tget {} s.par.lampSign.lamps p

def lampOf (s : State) (p i : Nat) : Lamp := tget {} (lport s p).lamps i

def updLamp (p i : Nat) (f : Lamp → Lamp) (s : State) : State :=
  updLport p (fun x => { x with lamps := tput {} x.lamps i (f (tget {} x.lamps i)) }) s

/-- The engine drives its ports: services started, not a tender, no power-fail signal (R529, R537). -/
def engineOn (s : State) : Bool := s.sys.modState ≥ 3 && s.sys.modState != 6 && !s.sys.tender && !s.pr.powerFail

/-- A lamp-string port sends slot frames (R515, R529, R530). -/
def lampRuns (s : State) (p : Nat) : Bool := p < 8 && (lpar s p).lamps != 0 && !(lport s p).off && engineOn s

/-! ## Levels (R519, R520) -/

/-- The level of an entry of R240: an unused value counts as 1,000. -/
def levelOf (l : Nat) : Nat := min (l % 1024) 1000

/-- The level of a run at a tide of those that ran: linear through the fade, rounded down (R240, R519; log entry 42). -/
def LampRun.at_ (r : LampRun) (t : Nat) : Nat :=
  if r.start + r.dur ≤ t then r.goal
  else
    let k := t - r.start
    if r.from_ ≤ r.goal then r.from_ + (r.goal - r.from_) * k / r.dur else r.from_ - (r.from_ - r.goal) * k / r.dur

/-- A new run from the level in force, with the fade of the level entry, 50 tides per code (R240). -/
def startRun (old : Option LampRun) (level t : Nat) : LampRun :=
  { from_ := (old.map (·.at_ t)).getD 0, goal := levelOf level, start := t, dur := level / 1024 * 50 }

/-- The lighting group of a lamp, none outside 0 to 254 (R520). -/
def lampGroup (s : State) (p i : Nat) : Option Nat :=
  let g := tget 255 (lpar s p).groups i
  if g < 255 then some g else none

/-- This tide, or the one that the next edge starts: its place among the tides that ran. -/
def ranAt (s : State) (next : Bool) : Nat := s.clk.ran + bit next

/-- Its number (R66). -/
def tideAt (s : State) (next : Bool) : Nat := if next then nextTide s else s.clk.tide

/-- The command's run of a lamp in this tide or the next, with the changes that wait for it (R520). -/
def cmdRun (s : State) (p i : Nat) (next : Bool) : Option LampRun :=
  s.changes.foldl (fun r c => match c.setting with
    | .lampLevel q m l => if q == p && c.tide ≤ tideAt s next && m.getLsbD i then some (startRun r l (ranAt s next)) else r
    | _ => r) (lampOf s p i).cmd

/-- The rules' run of a lamp in this tide or the next, with the levels accepted for the next edge (R520). -/
def ruleRun (s : State) (p i : Nat) (next : Bool) : Option LampRun :=
  if !next then (lampOf s p i).rule
  else s.lampSign.ruleNext.foldl (fun r x => if x.1 == p && x.2.1 == i then some (startRun r x.2.2 (ranAt s next)) else r)
    (lampOf s p i).rule

/-- A lamp's effective level in this tide or the next: the higher of its two places, and not below the group's floor (R251,
R520). -/
def effLevel (s : State) (p i : Nat) (next : Bool) : Nat :=
  let level (r : Option LampRun) : Nat := (r.map (·.at_ (ranAt s next))).getD 0
  let a := level (cmdRun s p i next)
  match lampGroup s p i with
  | none => a
  | some g => max (max a (level (ruleRun s p i next))) (tget ({} : GroupPar) s.par.lantern.groups g).floor

/-- A lamp is in forced bypass in this tide or the next: OPEN since an earlier tide, not released (R522). -/
def forced (s : State) (p i : Nat) (next : Bool) : Bool :=
  let l := lampOf s p i
  l.st == 1 && l.openRan < ranAt s next && !(s.changes.any fun c => match c.setting with
    | .lampClear q m => q == p && c.tide ≤ tideAt s next && m.getLsbD i
    | _ => false)

/-- The generator leaves a lamp lit in slot k at level l, of n lamps (R519). -/
def litIn (n i l k : Nat) : Bool :=
  let f := i * 1000 / n
  (k + f + 1) * l / 1000 - (k + f) * l / 1000 == 1

/-- The mask of slot k of this tide or the next: a set bit closes the bypass (R516, R519). -/
def maskAt (s : State) (p : Nat) (next : Bool) (k : Nat) : BitVec 32 :=
  let n := (lpar s p).lamps
  (List.range n).foldl (fun m i =>
    if !forced s p i next && litIn n i (effLevel s p i next) k then m else m ||| ((1 : BitVec 32) <<< i)) 0

/-! ## Slot frames (R516) -/

/-- One bit of CRC-8 with polynomial 0x07. -/
def crc8Bit : Nat → BitVec 8 → BitVec 8
  | 0, c => c
  | n + 1, c => crc8Bit n (if c.getLsbD 7 then (c <<< 1) ^^^ 0x07 else c <<< 1)

/-- CRC-8, polynomial 0x07, initial value 0 (R516). -/
def crc8 (b : List Byte) : BitVec 8 := b.foldl (fun c x => crc8Bit 8 (c ^^^ x)) 0

/-- The slot frame of slot k (R516). -/
def slotFrame (s : State) (p k : Nat) (mask : BitVec 32) : List Byte :=
  let aux := match k with
    | 0 => le 4 s.clk.tide
    | 1 => le 2 (claim s) ++ le 1 (claimFlags s (s.fleet.horn.halt == allHalted)) ++ le 1 p
    | _ => zeros 4
  let b := le 1 (if k = 0 then 0x5A else 0xA5) ++ le 2 k ++ le 4 mask.toNat ++ aux
  b ++ [crc8 b]

/-- LAMP_SLOT_FRAME (R515, R516, R519, R529, R530, R543): the frame of slot 999 governs slot 0 of the next tide, and the
slots after it repeat its mask. -/
def execLampSlotFrame (p : Nat) (s : State) : Res :=
  doneIn [.stats, .lampSign, .out] s (
    if !lampRuns s p then s
    else
      let k := (lport s p).slot
      let mask := if k < 999 then maskAt s p false (k + 1)
        else if k = 999 then maskAt s p true 0 else (lport s p).mask
      let n := if k ≤ 999 then k else 1023
      updLport p (fun x => { x with slot := min (k + 1) 1000, mask }) (emit (.lamp p (slotFrame s p n mask)) (count 35 0 s)))

/-! ## Status and faults (R518, R521, R522) -/

/-- LAMP_STATUS_FRAME (R518). -/
def execLampStatusFrame (p : Nat) (f : List Byte) (s : State) : Res :=
  doneIn [.stats, .lampSign] s (
    if !lampRuns s p || u8 f 0 != 0xC3 then s
    else if f.length != 12 || f.getD 11 0 != crc8 (f.take 11) then count 35 2 s
    else updLport p (fun x => { x with seen := tput [] x.seen (u16 f 1 % 1024) (slice f 3 8) }) (count 35 1 s))

/-- The tide's status record of a port: 3 bytes of each lamp and 6 of the board, as they came (R518, log entry 43). -/
def statusRecord (s : State) (p : Nat) : List Byte :=
  let seen := (lport s p).seen
  ((List.range (lpar s p).lamps).flatMap fun i => (tget [] seen (2 + i) ++ zeros 3).take 3)
    ++ (tget [] seen 34 ++ zeros 6).take 6

/-- LAMP_STATUS_COLLECT (R420, R518): lighter channel 8 + p moves the record into data queue 222 + p. -/
def execLampStatusCollect (p : Nat) (s : State) : Res :=
  doneIn [.host, .stats, .pool, .out] s (
    if !lampRuns s p then s
    else
      let r := statusRecord s p
      (admitAll [222 + p] attLamp (berths r.length) (berths r.length) (fun _ => { bytes := r })
        (countBurst (8 + p) r.length s)).2)

/-- LAMP_FAULT (R534). -/
def lampFault (p lamp kind value : Nat) (s : State) : State :=
  raise 0x0D80 (le 1 p ++ le 1 lamp ++ le 1 kind ++ le 1 0 ++ le 4 value ++ le 8 s.clk.tide) s

/-- The limits of SHORT and HIGH: 30 % and 130 % of the nominal lamp voltage by default (R521). -/
def shortMv (l : LampPar) : Nat := l.shortMv.getD (l.nominalMv * 3 / 10)

def highMv (l : LampPar) : Nat := l.highMv.getD (l.nominalMv * 13 / 10)

/-- The tests of one lamp (R521): without its status frame nothing is known of it, and its state stands. -/
def lampTest (p i : Nat) (s : State) : State :=
  match tget [] (lport s p).seen (2 + i) with
  | [] => s
  | d =>
    let v := u16 d 0
    let lit := (u8 d 2).testBit 0
    let l := lampOf s p i
    let short := if lit && v < shortMv (lpar s p) then l.shortRun + 1 else 0
    let high := if lit && v > highMv (lpar s p) then l.highRun + 1 else 0
    let st := if l.st = 1 || (u8 d 2).testBit 1 then 1
      else if short ≥ 3 || (l.st = 2 && short ≥ 1) then 2
      else if high ≥ 3 || (l.st = 3 && high ≥ 1) then 3 else 0
    let s := updLamp p i (fun l => { l with st, shortRun := short, highRun := high,
                                            openRan := if st = 1 && l.st != 1 then s.clk.ran else l.openRan }) s
    if st = l.st then s else lampFault p i st v (if st = 0 then s else count 35 4 s)

/-- The string test (R521). -/
def stringTest (p : Nat) (s : State) : State :=
  match tget [] (lport s p).seen 34 with
  | [] => s
  | d =>
    let ma := u16 d 0
    let x := lport s p
    let run := if 2 * ma < (lpar s p).currentMa then x.lowRun + 1 else 0
    let low := run ≥ 3 || (x.stringLow && run ≥ 1)
    let s := updLport p (fun x => { x with current := ma, temp := iAt d 4 1, lowRun := run, stringLow := low }) s
    if low == x.stringLow then s else lampFault p 0xFF (if low then 4 else 0) ma (if low then count 35 5 s else s)

/-- LAMP_FAULT_EVAL (R521): the tests in their order; the tests after the link test use the record that the data queue
holds. -/
def lampEval (p : Nat) (s : State) : State :=
  let x := lport s p
  let ev (k : Nat) (s : State) := raise 0x0D81 (le 1 p ++ le 1 k ++ le 2 0) s
  let bad := (poolQ s (222 + p)).entries.any (isBad s)
  let here := (poolQ s (222 + p)).entries != [] && !bad
  let t := clearQ (222 + p) (if bad then innerError (8 + p) s else s)
  let t := if x.seen.isEmpty then
      let t := updLport p (fun x => { x with missed := min (x.missed + 1) 3, lost := x.lost || x.missed + 1 ≥ 3 }) (count 35 3 t)
      if !x.lost && x.missed + 1 ≥ 3 then ev 1 t else t
    else
      let t := updLport p (fun x => { x with missed := 0, lost := false }) t
      let t := if x.lost then ev 0 t else t
      if here then each (List.range (lpar s p).lamps) (lampTest p) (stringTest p t) else t
  updLport p (fun x => { x with seen := [] }) t

def execLampFaultEval (p : Nat) (s : State) : Res := doneIn [.host, .stats, .pool, .lampSign, .out] s (if lampRuns s p then lampEval p s else s)

/-! ## Sign memory (R523 to R525) -/

def gpar (s : State) (p : Nat) : SignPar := tget {} s.par.lampSign.signs p

def gport (s : State) (p : Nat) : SignPort := tget {} s.lampSign.signs p

def updSign (p : Nat) (f : SignPort → SignPort) (s : State) : State :=
  updLs (fun l => { l with signs := tput {} l.signs p (f (tget {} l.signs p)) }) s

/-- Pixels of a port. -/
def signPixels (g : SignPar) : Nat := g.width * g.height

/-- First byte of a port's region in a buffer (R524). -/
def regionBase (s : State) (p b : Nat) : Nat := b * 4194304 + (if p = 0 then 0 else 6 * signPixels (gpar s 0))

def memRead (s : State) (a : Nat) : Byte := tget 0 s.lampSign.mem a

/-- Writes bytes from an address. -/
def memWrite : Nat → List Byte → Tbl Byte → Tbl Byte
  | _, [], m => m
  | a, b :: r, m => memWrite (a + 1) r (tput 0 m a b)

def memSpan (s : State) (a n : Nat) : List Byte := (List.range n).map fun k => memRead s (a + k)

/-- The six bytes of a pixel of a write (R527). -/
def pixelOf (format : Nat) (b : List Byte) (k : Nat) : List Byte :=
  match format with
  | 0 => slice b (6 * k) 6
  | 1 => [0, 1, 2].flatMap fun c => le 2 (u8 b (3 * k + c) * 257)
  | _ => [0, 1, 2].flatMap fun _ => le 2 (u16 b (2 * k))

/-- Applies a write, header and pixels, to the back buffer of its port (R524, R527). -/
def applyWrite (b : List Byte) (s : State) : State :=
  let p := u8 b 0
  let x := u16 b 4
  let y := u16 b 6
  let w := u16 b 8
  let h := u16 b 10
  let base := regionBase s p (1 - (gport s p).front)
  let d := b.drop 16
  updLs (fun l => { l with mem := (List.range h).foldl (fun m r =>
    memWrite (base + 6 * ((y + r) * (gpar s p).width + x))
      ((List.range w).flatMap fun c => pixelOf (u8 b 1) d (r * w + c)) m) l.mem }) s

/-- Writes of the port are held (R528). -/
def signHeld (s : State) (p : Nat) : Bool := (gport s p).swap.isSome || (gport s p).copying

/-- A write leaves the port's queue complete: its rectangle must lie within the geometry of now (R527). -/
def takeWrite (p : Nat) (s : State) : State :=
  match (poolQ s (214 + p)).entries.head? with
  | none => s
  | some e =>
    let s := updSign p (fun x => { x with moved := 0 }) s
    dropHead (214 + p) (if isBad s e then innerError (16 + p) s else if !signHeaderOk s e.bytes then s else applyWrite e.bytes s)

/-- Writes not held move into the back buffer in the order of their acceptance (R527, R528). -/
def drainSign (p : Nat) (s : State) : State :=
  if signHeld s p then s
  else (List.range (poolQ s (214 + p)).entries.length).foldl (fun s _ =>
    let left := match (poolQ s (214 + p)).entries.head? with | some e => e.bytes.length - (gport s p).moved | none => 0
    takeWrite p (countBursts (16 + p) left s)) s

/-- A burst of internal lighter channel 16 + p: up to 256 bytes of one write (R527). -/
def signBurst (p : Nat) (s : State) : State :=
  if signHeld s p then s
  else match (poolQ s (214 + p)).entries.head? with
    | none => s
    | some e =>
      let m := (gport s p).moved
      let k := min 256 (e.bytes.length - m)
      let s := countBurst (16 + p) k s
      if m + k ≥ e.bytes.length then takeWrite p s else updSign p (fun x => { x with moved := m + k }) s

/-! ## Sign frames (R525, R526) -/

/-- A configured, enabled sign port of a pilot (R523, R529, R530). -/
def signRuns (s : State) (p : Nat) : Bool := p < 2 && (gpar s p).width != 0 && !(gport s p).off && engineOn s

/-- The output is sync-locked now (R526). -/
def syncLocked (s : State) (p : Nat) : Bool := (gpar s p).mode == 1 && !(gport s p).fellBack

def brightOf (s : State) (p : Nat) : Nat := ((gport s p).brightness).getD (gpar s p).brightness

/-- The bytes of a sign frame (R525). -/
def signFrame (s : State) (p : Nat) : List Byte :=
  let g := gpar s p
  let x := gport s p
  let head := le 2 0x5347 ++ le 1 p ++ le 1 (bit (x.front == 1) + 2 * bit x.first) ++ le 4 s.clk.tide ++ le 2 g.width
    ++ le 2 g.height ++ le 2 (brightOf s p) ++ le 2 0
  let base := regionBase s p x.front
  let lines := (List.range g.height).flatMap fun y =>
    let r := le 2 y ++ le 2 g.width ++ zeros 4 ++ memSpan s (base + 6 * y * g.width) (6 * g.width)
    r ++ le 4 (crc32c r)
  let b := head ++ lines
  b ++ zeros ((4 - b.length % 4) % 4)

/-- Time of a frame on the line in µs, rounded up (R525). -/
def frameUs (g : SignPar) : Nat := (128 + g.height * 96 + signPixels g * 48 + 3199) / 3200

/-- The instant us after the edge, in µs since the first tide that ran. -/
def instant (s : State) (us : Nat) : Nat := s.clk.ran * 10000 + us

/-- A swap takes effect: the back buffer becomes front (R528). -/
def doSwap (p : Nat) (x : SignSwap) (s : State) : State :=
  let s := updSign p (fun g => { g with swap := none, front := 1 - g.front, first := true, copying := x.copy }) (count 35 8 s)
  let s := if x.late then count 35 9 s else s
  let other := match (gport s (1 - p)).swap with | some y => y.job == x.job | none => false
  let s := if other then s else finishOpt x.job stOK s
  drainSign p s

/-- SIGN_FRAME_START (R526, R528): T+100 µs, or 20 µs after a sync edge; an armed swap takes effect just before. -/
def execSignFrameStart (p : Nat) (s : State) : Res :=
  doneIn [.host, .stats, .pool, .lampSign, .log, .out] s (
    if !signRuns s p || (syncLocked s p && (gport s p).due.isNone) then s
    else
      let s : State := match (gport s p).swap with
        | some x => if x.armed then doSwap p x s else s
        | none => s
      let t := ((gport s p).due).getD (instant s 100)
      updSign p (fun x => { x with due := none, first := false, busy := t + frameUs (gpar s p) })
        (emit (.sign p (signFrame s p)) (count 35 (6 + p) s)))

/-- SIGN_SYNC (R534). -/
def signSyncEvent (p kind : Nat) (s : State) : State := raise 0x0D82 (le 1 p ++ le 1 kind ++ le 2 0) s

/-- SIGN_SYNC_EDGE (R526): both sync-locked ports take the pin's edge; one while a frame is on the line, or waits to
start, is ignored. -/
def execSignSyncEdge (us : Nat) (s : State) : Res :=
  doneIn [.host, .stats, .lampSign, .out] s (each [0, 1] (fun p s =>
    if !signRuns s p || (gpar s p).mode != 1 then s
    else
      let s := if (gport s p).fellBack then signSyncEvent p 0 (updSign p (fun x => { x with fellBack := false }) s) else s
      let x := gport s p
      if x.due.isSome || instant s us < x.busy then count 35 10 s
      else updSign p (fun x => { x with due := some (instant s us + 20) }) s) s)

/-- SIGN_SYNC_TIMEOUT (R526). -/
def execSignSyncTimeout (p : Nat) (s : State) : Res :=
  doneIn [.host, .lampSign, .out] s (
    if signRuns s p && syncLocked s p && (gport s p).due.isNone then
      signSyncEvent p 1 (updSign p (fun x => { x with fellBack := true }) s)
    else s)

/-- SIGN_SWAP_EDGE (R49, R528): a tide-locked port swaps at the edge, a sync-locked one is armed. -/
def execSignSwapEdge (p : Nat) (s : State) : Res :=
  doneIn [.host, .stats, .pool, .lampSign, .log, .out] s (match (gport s p).swap with
    | some x =>
      if p > 1 || x.tide > s.clk.tide || x.notBefore > s.clk.ran || x.armed then s
      else if syncLocked s p then updSign p (fun g => { g with swap := some { x with armed := true } }) s
      else doSwap p x s
    | none => s)

/-- SWAP_COPY_COMPLETE (R528): the new back region holds the new front region, and held writes may apply. -/
def execSwapCopyComplete (p : Nat) (s : State) : Res :=
  doneIn [.host, .stats, .pool, .lampSign, .out] s (
    if p < 2 && (gport s p).copying then
      let f := (gport s p).front
      let b := memSpan s (regionBase s p f) (6 * signPixels (gpar s p))
      drainSign p (updSign p (fun x => { x with copying := false })
        (updLs (fun l => { l with mem := memWrite (regionBase s p (1 - f)) b l.mem }) s))
    else s)

/-! ## Edges, disabling, configuration -/

/-- What the engine does at a tide edge (R516, R520): the first slot, and the lantern levels accepted for this tide. -/
def lampAtEdge (s : State) : State :=
  let t := s.clk.ran
  let s := s.lampSign.ruleNext.foldl (fun s x =>
    updLamp x.1 x.2.1 (fun l => { l with rule := some (startRun l.rule x.2.2 t) }) s) s
  each [0, 1, 2, 3, 4, 5, 6, 7] (fun p => updLport p (fun x => { x with slot := 0 })) (updLs (fun l => { l with ruleNext := [] }) s)

/-- A change of the service at its edge (R520, R522, R532). -/
def applyLampSetting (x : Setting) (s : State) : State :=
  match x with
  | .lampLevel p m l => each ((List.range 32).filter fun i => m.getLsbD i) (fun i s =>
      updLamp p i (fun a => { a with cmd := some (startRun a.cmd l s.clk.ran) }) s) s
  | .lampClear p m => each ((List.range 32).filter fun i => m.getLsbD i && (lampOf s p i).st == 1) (fun i s =>
      lampFault p i 0 0 (updLamp p i (fun a => { a with st := 0, shortRun := 0, highRun := 0 }) s)) s
  | .signBright p v => updSign p (fun g => { g with brightness := some v }) s
  | _ => s

/-- A lamp-string port stops (R530). -/
def stopLamp (p : Nat) (s : State) : State := updLport p (fun x => { x with off := true, seen := [], missed := 0 }) s

def startLamp (p : Nat) (s : State) : State := updLport p (fun x => { x with off := false, missed := 0 }) s

/-- A waiting swap returns CANCELLED, once for the command (R530). -/
def cancelSwap (p : Nat) (s : State) : State :=
  match (gport s p).swap with
  | none => s
  | some x =>
    let s := updSign p (fun g => { g with swap := none }) s
    let s := updSign (1 - p) (fun g => { g with swap := g.swap.map fun y => if y.job == x.job then { y with job := none } else y }) s
    drainSign p (finishOpt x.job stCANCELLED s)

/-- A sign port stops: the frame on the line completes, both buffers keep their content (R530). -/
def stopSign (p : Nat) (s : State) : State := cancelSwap p (updSign p (fun x => { x with off := true, due := none }) s)

def startSign (p : Nat) (s : State) : State := updSign p (fun x => { x with off := false, due := none, fellBack := false }) s

/-- A configuration apply ends what commands set (R532); a port without a geometry keeps no swap (R523). -/
def lampConfig (s : State) : State :=
  let s := each [0, 1, 2, 3, 4, 5, 6, 7] (fun p => updLport p (fun x =>
    { x with off := false, lamps := (List.range 32).foldl (fun t i => tput {} t i { tget {} t i with cmd := none }) x.lamps })) s
  each [0, 1] (fun p s =>
    let s := updSign p (fun x => { x with off := false, brightness := none }) s
    if (gpar s p).width = 0 then cancelSwap p s else s) s

/-- A session's attached windows are detached (R93, R527). -/
def signRelease (q : Nat) (s : State) : State := updLs (fun l => { l with streams := l.streams.filter (· != q) }) s

/-! ## Lamp and sign service commands (R532, R533) -/

/-- LAMP_STATUS (R532). -/
def lampStatusBytes (s : State) (p : Nat) : List Byte :=
  let x := lport s p
  let n := (lpar s p).lamps
  le 1 p ++ le 1 (if n = 0 then 2 else bit x.lost) ++ le 1 (bit x.stringLow) ++ le 1 n ++ le 2 x.current ++ leI 1 x.temp ++ le 1 0
    ++ (List.range 32).flatMap fun i =>
      if i < n then le 2 (effLevel s p i false) ++ le 1 (lampOf s p i).st ++ le 1 (bit (forced s p i false))
      else zeros 4

def execLampStatus (w : Nat) (s : State) : Res :=
  answered s (onCmd w 0x0D01 (fun p => u8 p 0 > 7) (fun p s => ok w (lampStatusBytes s (u8 p 0)) s) s)

/-- SIGN_STATUS (R532). -/
def signStatusBytes (s : State) : List Byte :=
  [0, 1].flatMap fun p =>
    let g := gpar s p
    let x := gport s p
    let mode := if g.width = 0 then 3 else if g.mode = 0 then 0 else if x.fellBack then 2 else 1
    let held := if signHeld s p then (poolQ s (214 + p)).entries.length else 0
    le 1 p ++ le 1 mode ++ le 1 x.front ++ le 1 (bit x.swap.isSome) ++ le 2 g.width ++ le 2 g.height ++ le 2 (brightOf s p)
      ++ le 2 held ++ zeros 4

def execSignStatus (w : Nat) (s : State) : Res :=
  answered s (onCmd w 0x0D02 anyPayload (fun _ s => ok w (signStatusBytes s) s) s)

/-- LAMP_SIGN_STATS (R531, R532). -/
def execLampSignStats (w : Nat) (s : State) : Res :=
  answered s (onCmd w 0x0D03 anyPayload (fun _ s => ok w (snapshot 35 12 s) s) s)

/-- A lamp mask names no lamp at or above N (R533). -/
def maskOk (n m : Nat) : Bool := m < 2 ^ n

/-- The first edge of a change, or its named tide; none where the named tide is too early (R102, R533). -/
def namedTide (s : State) (t : Nat) : Option Nat :=
  if t = 0 then some (nextTide s) else if t < s.clk.tide + 2 then none else some t

/-- A change at a named tide (R533). -/
def changeAt (w t : Nat) (x : Setting) (s : State) : State :=
  match namedTide s t with
  | none => refuse w stLATE s
  | some k => ok w (le 8 k) { s with changes := s.changes ++ [{ tide := k, setting := x }] }

/-- LAMP_LEVEL (R520, R532, R533). -/
def lampLevelF (w : Nat) (p : List Byte) (s : State) : State :=
  let n := (lpar s (u8 p 0)).lamps
  if n = 0 then refuse w stSTATE s
  else if !maskOk n (u32 p 4) then refuse w stFIELD s
  else changeAt w (u64 p 12) (.lampLevel (u8 p 0) (BitVec.ofNat 32 (u32 p 4)) (u16 p 8)) s

def execLampLevel (w : Nat) (s : State) : Res :=
  doneIn [.host, .changes, .out] s (onCmd w 0x0D40 (fun p => u8 p 0 > 7 || u16 p 8 % 1024 > 1000) (lampLevelF w) s)

/-- LAMP_FAULT_CLEAR (R522, R532, R533). -/
def lampClearF (w : Nat) (p : List Byte) (s : State) : State :=
  let q := u8 p 0
  let n := (lpar s q).lamps
  let m : BitVec 32 := BitVec.ofNat 32 (u32 p 4)
  if n = 0 then refuse w stSTATE s
  else if !maskOk n (u32 p 4) then refuse w stFIELD s
  else
    let gone := (List.range 32).foldl (fun a i => a + bit (m.getLsbD i && (lampOf s q i).st == 1) * 2 ^ i) 0
    ok w (le 4 gone) { s with changes := s.changes ++ [{ tide := nextTide s, setting := .lampClear q (BitVec.ofNat 32 gone) }] }

def execLampFaultClear (w : Nat) (s : State) : Res :=
  doneIn [.host, .changes, .out] s (onCmd w 0x0D41 (fun p => u8 p 0 > 7) (lampClearF w) s)

/-- LAMP_ENABLE (R530, R532, R533). -/
def execLampEnable (w : Nat) (s : State) : Res :=
  doneIn [.host, .switches, .out] s (onCmd w 0x0D42 (fun p => u8 p 0 > 7 || u8 p 1 > 1) (fun p s =>
    if (lpar s (u8 p 0)).lamps = 0 then refuse w stSTATE s
    else ok w (le 8 (nextTide s)) (switch (.lamp (u8 p 0)) (u8 p 1 == 1) s)) s)

/-- The sign write header and data of a SIGN_WRITE (R527, R532). -/
def writeBytes (p : List Byte) : List Byte := slice p 0 2 ++ zeros 2 ++ slice p 4 8 ++ zeros 4 ++ p.drop 12

/-- SIGN_WRITE (R527, R528, R531 to R533): one that is not held passes the port's data queue and its lighter channel on its way; the
queue's admission refuses held writes alone. -/
def signWriteF (w : Nat) (p : List Byte) (s : State) : State :=
  let q := u8 p 0
  let b := writeBytes p
  let no (st : Nat) (s : State) := refuse w st (count 35 11 s)
  if q > 1 || u8 p 1 > 2 then no stFIELD s
  else if (gpar s q).width = 0 then no stSTATE s
  else if !signHeaderOk s b || b.length != 16 + u16 b 8 * u16 b 10 * pixelBytes (u8 b 1) then no stFIELD s
  else if (gport s q).off then no stSTATE s
  else if signHeld s q then
    let r := signAdmit attHm b s
    if r.1 = 0 then no stNORES r.2 else ok w [] r.2
  else ok w [] (applyWrite b (countBursts (16 + q) b.length (passData (214 + q) attHm (berths b.length) (drainSign q s)).2))

def execSignWrite (w : Nat) (s : State) : Res :=
  doneIn [.host, .stats, .pool, .lampSign, .out] s (onCmd w 0x0D43 anyPayload (signWriteF w) s)

/-- SIGN_SWAP (R48, R49, R528, R532, R533): us is the time of the request after the edge. -/
def signSwapF (w us : Nat) (p : List Byte) (s : State) : State :=
  let ps := [0, 1].filter fun q => (u8 p 0).testBit q
  if ps.any fun q => (gpar s q).width == 0 || (gport s q).off then refuse w stSTATE s
  else if ps.any fun q => (gport s q).swap.isSome then refuse w stBUSY s
  else match namedTide s (u64 p 4) with
    | none => refuse w stLATE s
    | some t =>
      let late := t == nextTide s && us > 9000
      let t := if late then t + 1 else t
      let j := jobOf w s
      respond w stACCEPTED (le 8 t) (each ps (fun q s => updSign q (fun g => { g with
        swap := some { tide := t, copy := u8 p 1 == 1, late, notBefore := if late then s.clk.ran + 2 else 0, job := some j } }) (drainSign q s)) s)

def execSignSwap (w us : Nat) (s : State) : Res :=
  doneIn [.host, .stats, .pool, .lampSign, .out] s (onCmd w 0x0D44 (fun p => u8 p 0 == 0 || u8 p 0 > 3 || u8 p 1 > 1) (signSwapF w us) s)

/-- SIGN_STREAM (R527, R532, R533). -/
def signStreamF (w : Nat) (p : List Byte) (s : State) : State :=
  let q := u8 p 0
  if !winOwnsQwin s w q || ltServes s q then refuse w stDENIED s
  else
    let s := signRelease q s
    ok w [] (if u8 p 1 = 1 then updLs (fun l => { l with streams := l.streams ++ [q] }) s else s)

def execSignStream (w : Nat) (s : State) : Res :=
  doneIn [.host, .lampSign, .out] s (onCmd w 0x0D45 (fun p => u8 p 0 > 15 || u8 p 1 > 1) (signStreamF w) s)

/-- SIGN_ENABLE (R530, R532, R533). -/
def execSignEnable (w : Nat) (s : State) : Res :=
  doneIn [.host, .switches, .out] s (onCmd w 0x0D46 (fun p => u8 p 0 > 1 || u8 p 1 > 1) (fun p s =>
    if (gpar s (u8 p 0)).width = 0 then refuse w stSTATE s
    else ok w (le 8 (nextTide s)) (switch (.sign (u8 p 0)) (u8 p 1 == 1) s)) s)

/-- SIGN_BRIGHTNESS (R532, R533). -/
def execSignBrightness (w : Nat) (s : State) : Res :=
  doneIn [.host, .changes, .out] s (onCmd w 0x0D47 (fun p => u8 p 0 > 1 || u16 p 2 > 1000) (fun p s =>
    if (gpar s (u8 p 0)).width = 0 then refuse w stSTATE s
    else changeAt w (u64 p 4) (.signBright (u8 p 0) (u16 p 2)) s) s)

end Sys2Proof.Machine
end

