-- ==== Sys2Proof/Machine/Logbook.lean ====
section
/-! DEFINITION. Sys2Proof/Machine/Logbook.lean: the logbook's path to its store, reading, notes and limits (chapter 19).
The export, which writes into a host queue window, stands in Machine/Exports.lean. -/

namespace Sys2Proof.Machine

/-- The bytes of a record with its CRC-32C (R594). -/
def recBytes (r : LogRec) : List Byte :=
  let head := le 2 (recLen r) ++ le 2 r.code ++ le 1 r.sev ++ [r.flags] ++ le 1 r.source ++ le 1 0 ++ le 8 r.seq
    ++ le 8 r.tide
  head ++ le 4 (crc32c (head ++ zeros 4 ++ r.payload)) ++ r.payload

def bytesOf (l : List LogRec) : Nat := l.foldl (fun a r => a + recLen r) 0

/-- The half of the MRAM tail that is being filled (R598). -/
def curHalf (s : State) : List LogRec := if s.log.filling = 0 then s.log.half0 else s.log.half1

/-- Closes the half being filled; the other one is filled next where it is free (R598). -/
def closeHalf (s : State) : State :=
  let l := s.log
  if l.filling ≥ 2 then s
  else
    let other := 1 - l.filling
    { s with log := { l with closed := l.closed ++ [l.filling],
                             filling := if l.closed.contains other then 2 else other } }

/-- Stores one record: its seq, its place in the MRAM tail, and LOG_ALERT (R594, R598, R607). -/
def storeRec (r : LogRec) (s : State) : State :=
  let r : LogRec := { r with seq := s.log.seq }
  let first := (curHalf s).isEmpty
  let l := { s.log with seq := s.log.seq + 1, firstRan := if first then s.clk.ran else s.log.firstRan }
  let s : State := { s with log := if l.filling = 0 then { l with half0 := l.half0 ++ [r] } else { l with half1 := l.half1 ++ [r] } }
  if r.sev ≥ s.par.log.alert then
    raise 0x1080 (le 8 r.seq ++ le 2 r.code ++ le 1 r.sev ++ le 1 0 ++ le 8 r.tide) s
  else s

/-- Answers the LOG_NOTE whose record was stored, or was not (R606). -/
def answerNote (tag seq : Nat) (s : State) : State :=
  match s.log.notes.find? (fun n => n.tag == tag) with
  | none => s
  | some n =>
    let s := { s with log := { s.log with notes := s.log.notes.filter fun m => m.tag != tag } }
    let v := win s n.job.win
    if v.sid == n.job.sid && (v.inflight.getD {}).code == 0x1042 then ok n.job.win (le 8 seq) s else s

/-- Writes records of the staging buffer to the MRAM tail in order; what finds no free half stays (R597, R598). -/
def flushRecs : List LogRec → State → State
  | [], s => { s with log := { s.log with staging := [] } }
  | r :: rest, s =>
    let s := if s.log.filling < 2 && bytesOf (curHalf s) + recLen r > 32768 then closeHalf s else s
    if s.log.filling ≥ 2 then { s with log := { s.log with staging := r :: rest } }
    else flushRecs rest (if r.tag = 0 then storeRec r s else answerNote r.tag s.log.seq (storeRec r s))

def flushStaging (s : State) : State := flushRecs s.log.staging s

/-- Own records that wait enter the reserve of the tide in their order (R597). -/
def admitOwn : List LogRec → State → State
  | [], s => { s with log := { s.log with ownWait := [] } }
  | r :: rest, s =>
    if ownBytes s.log.staging + recLen r ≤ 4096 then
      admitOwn rest { s with log := { s.log with staging := s.log.staging ++ [r] } }
    else { s with log := { s.log with ownWait := r :: rest } }

/-- The FLOOD record of a flood that ended (R605). -/
def floodEnd (s : State) : State :=
  match s.log.flood with
  | some (a, b, x, y) =>
    if s.log.floodNow then s
    else logOwn 0x10F4 6 (le 4 a ++ le 4 b ++ le 8 x ++ le 8 y) { s with log := { s.log with flood := none } }
  | none => s

/-- Notes whose record was dropped or displaced are answered with seq 0 (log entry 18). -/
def lostNotes (s : State) : State :=
  (s.log.notes.filter fun n => !(s.log.staging.any fun r => r.tag == n.tag)).foldl
    (fun s n => answerNote n.tag 0 s) s

/-- LOG_STAGING_FLUSH (R594, R596, R597, R605). -/
def execLogStagingFlush (s : State) : Res :=
  doneIn [.host, .log, .out] s (
    let s := lostNotes (flushStaging s)
    let s := floodEnd s
    let s := { s with log := { s.log with taken := bytesOf s.log.staging - ownBytes s.log.staging, floodNow := false } }
    admitOwn s.log.ownWait s)

/-- LOG_HALF_CLOSE (R598): the next record does not fit, or 6,000 tides have passed since the half's first record. -/
def execLogHalfClose (s : State) : Res :=
  doneIn [.log] s (
    let h := curHalf s
    let tight := match s.log.staging with | r :: _ => bytesOf h + recLen r > 32768 | [] => false
    if s.log.filling < 2 && !h.isEmpty && (tight || s.clk.ran ≥ s.log.firstRan + 6000) then closeHalf s else s)

/-- 192 MB (R600). -/
def carryMax : Nat := 201326592

/-- Bytes of records of a severity or above in the store (R600). -/
def bytesFrom (f : Nat) (store : List (List LogRec)) : Nat :=
  store.foldl (fun a seg => a + bytesOf (seg.filter fun r => r.sev ≥ f)) 0

/-- The floor used for a reclaim (R600). -/
def raiseFloor : Nat → Nat → List (List LogRec) → Nat
  | 0, f, _ => f
  | n + 1, f, store => if f < 7 && bytesFrom f store > carryMax then raiseFloor n (f + 1) store else f

/-- Reclaims the oldest segment (R600): the records carried and the state after the drops are reported. -/
def reclaim (seg : List LogRec) (s : State) : List LogRec × State :=
  let f := raiseFloor 7 s.par.log.floor s.log.store
  let none_ := f == 7 && bytesFrom 7 s.log.store > carryMax
  let keep := if none_ then [] else seg.filter fun r => r.sev ≥ f
  let drop := if none_ then seg else seg.filter fun r => r.sev < f
  let keep := keep.map fun r => { r with flags := r.flags ||| 8 }
  match drop with
  | [] => (keep, s)
  | d :: ds =>
    let lo := ds.foldl (fun a r => min a r.seq) d.seq
    let hi := ds.foldl (fun a r => max a r.seq) d.seq
    let per := (List.range 8).flatMap fun k => le 4 (drop.filter fun r => r.sev == k).length
    let s := logOwn 0x10F1 4 (le 1 f ++ zeros 3 ++ per ++ le 8 lo ++ le 8 hi) s
    (keep, raise 0x1081 (le 1 f ++ zeros 3 ++ le 4 drop.length ++ le 8 hi) s)

/-- 8,192 segments (R599). -/
def segmentMax : Nat := 8192

/-- Puts one segment into the store, reclaiming the oldest one where none is free (R599, R600). -/
def storeSegment (recs : List LogRec) (s : State) : State :=
  if s.log.store.length < segmentMax then { s with log := { s.log with store := s.log.store ++ [recs] } }
  else match s.log.store with
    | [] => s
    | old :: rest =>
      let x := reclaim old s
      { x.2 with log := { x.2.log with store := rest ++ [x.1 ++ recs] } }

/-- LOG_SEGMENT_COPY (R598, R600). -/
def execLogSegmentCopy (s : State) : Res :=
  doneIn [.host, .log, .out] s (match s.log.closed with
    | [] => s
    | h :: rest =>
      let recs := if h = 0 then s.log.half0 else s.log.half1
      let s := storeSegment recs s
      let l := s.log
      let l := if h = 0 then { l with half0 := [] } else { l with half1 := [] }
      { s with log := { l with closed := rest, filling := if l.filling ≥ 2 then h else l.filling } })

/-- LOG_SUPPRESSED_WRITE (R602, R605). -/
def execLogSuppressedWrite (s : State) : Res :=
  doneIn [.log] s (
    if s.clk.tide % 100 != 0 then s
    else s.log.supp.foldl (fun s x =>
      logOwn 0x10F0 3 (le 2 x.1 ++ le 1 x.2.sev ++ le 1 0 ++ le 4 x.2.count ++ le 8 x.2.first ++ le 8 x.2.last) s)
      { s with log := { s.log with supp := [] } })

/-- Inserts a record by seq. -/
def insertSeq (r : LogRec) : List LogRec → List LogRec
  | [] => [r]
  | x :: t => if r.seq ≤ x.seq then r :: x :: t else x :: insertSeq r t

/-- The stored records in seq order (R600, R603). -/
def storedRecs (s : State) : List LogRec :=
  (s.log.store.flatten ++ s.log.half0 ++ s.log.half1).foldr insertSeq []

/-- LOG_STATUS (R606). -/
def logStatusBytes (s : State) : List Byte :=
  let rs := storedRecs s
  le 8 (match rs with | r :: _ => r.seq | [] => 0) ++ le 8 (match rs.getLast? with | some r => r.seq | none => 0)
    ++ le 4 (bytesOf rs) ++ le 4 s.log.skipped
    ++ (List.range 8).flatMap (fun k => le 4 (rs.filter fun r => r.sev == k).length)
    ++ le 1 s.par.log.floor ++ le 1 s.log.exports.length ++ le 2 0 ++ le 4 s.log.suppTotal.toNat
    ++ le 4 s.log.dropTotal.toNat

def execLogStatus (w : Nat) (s : State) : Res :=
  answered s (onCmd w 0x1001 anyPayload (fun _ s => ok w (logStatusBytes s) s) s)

/-- As many whole records as fit in a number of bytes. -/
def takeFit : Nat → List LogRec → List LogRec
  | _, [] => []
  | n, r :: t => if recLen r ≤ n then r :: takeFit (n - recLen r) t else []

/-- LOG_READ (R603). -/
def logReadF (w : Nat) (p : List Byte) (s : State) : State :=
  let rs := (storedRecs s).filter fun r => r.seq ≥ u64 p 0 && r.sev ≥ u8 p 8
  let out := takeFit 4076 rs
  let next := match rs.drop out.length with | r :: _ => r.seq | [] => s.log.seq
  ok w (le 2 out.length ++ le 2 0 ++ le 8 next ++ out.flatMap recBytes) s

def execLogRead (w : Nat) (s : State) : Res :=
  answered s (onCmd w 0x1002 (fun p => u8 p 8 > 7) (logReadF w) s)

/-- LOG_NOTE (R601, R605, R606): the response waits for the store, or carries seq 0 where the note is suppressed. -/
def logNoteF (w : Nat) (p : List Byte) (s : State) : State :=
  let tag := s.log.noteTag + 1
  let r := recOf 0x10E0 (u8 p 0) 5 (le 1 w ++ le 1 (callerOrigin s w) ++ zeros 6 ++ p.drop 4) s
  let x := limited r s
  if x.1 then ok w (le 8 0) x.2
  else
    let s := stage { r with tag } x.2
    { s with log := { s.log with noteTag := tag, notes := s.log.notes ++ [{ job := jobOf w s, tag }] } }

def execLogNote (w : Nat) (s : State) : Res := doneIn [.host, .log, .out] s (onCmd w 0x1042 (fun p => u8 p 0 > 4) (logNoteF w) s)

/-- LOG_LIMIT_SET (R601, R606). -/
def logLimitBad (p : List Byte) : Bool :=
  let c := u16 p 0
  c / 256 == 0 || c / 256 > 0x11 || c % 256 ≥ 0xF0 || u16 p 2 > 1000 || u16 p 4 == 0 || u16 p 4 > 1000

def logLimitF (w : Nat) (p : List Byte) (s : State) : State :=
  let asked := s.changes.filterMap fun c => match c.setting with | .logLimit k _ _ => some k | _ => none
  let codes := (asked ++ s.par.log.coded ++ s.log.limitCodes).foldr insertAscending []
  if !codes.contains (u16 p 0) && codes.length ≥ 64 then refuse w stLIMIT s
  else change w (.logLimit (u16 p 0) (u16 p 2) (u16 p 4)) s

def execLogLimitSet (w : Nat) (s : State) : Res := doneIn [.host, .changes, .out] s (onCmd w 0x1043 logLimitBad (logLimitF w) s)

/-- The longest run of records in seq order that a start recovers from the MRAM tail (R599): the model's tail holds no
bad record, so it is all of it, each half a segment. -/
def recoverTail (s : State) : Nat × State :=
  let mark (l : List LogRec) := l.map fun r => { r with flags := r.flags ||| 4 }
  let a := mark s.log.half0
  let b := mark s.log.half1
  let early : Bool := match a, b with | x :: _, y :: _ => x.seq ≤ y.seq | _, _ => true
  let segs := (if early then [a, b] else [b, a]).filter fun l => !l.isEmpty
  let s := { s with log := { s.log with half0 := [], half1 := [], closed := [], filling := 0, firstRan := 0 } }
  (a.length + b.length, segs.foldl (fun s l => storeSegment l s) s)

end Sys2Proof.Machine
end

