-- ==== Sys2Proof/Machine/Gnss.lean ====
section
/-! DEFINITION. Sys2Proof/Machine/Gnss.lean: the GNSS baseband (chapter 09). The edge of the false-signal states stands in
Machine/Reference.lean. -/

namespace Sys2Proof.Machine

/-! ## Signals (R278) -/

/-- Signal codes in the order of the rows of R278. -/
def signalCodes : List Nat := [0x01, 0x02, 0x03, 0x04, 0x10, 0x11, 0x20, 0x21, 0x30, 0x31]

/-- Carrier frequency of a signal in 10 kHz, at GLONASS frequency number 0 for its two (R277, R278, R306). -/
def carrierOf (sig : Nat) : Int :=
  match sig with
  | 0x03 => 122760
  | 0x04 | 0x11 | 0x21 => 117645
  | 0x30 => 160200
  | 0x31 => 124600
  | _ => 157542

def rowOf (sig : Nat) : Nat := signalCodes.findIdx (· == sig)

/-- Band of a signal code. -/
def bandOf (sig : Nat) : Nat :=
  if [0x01, 0x02, 0x10, 0x20, 0x30].contains sig then 0 else if sig == 0x03 || sig == 0x31 then 1 else 2

/-- The channel correlates the data component alone. -/
def dataOnly (sig : Nat) : Bool := sig == 0x01 || sig == 0x30 || sig == 0x31

/-- Tracked as BOC(1,1). -/
def isBoc (sig : Nat) : Bool := sig == 0x02 || sig == 0x10 || sig == 0x20

def isGlonass (sig : Nat) : Bool := sig / 16 == 3

/-- The satellite number is one of the signal's system, and so is the GLONASS frequency number (R279). -/
def satOk (sig sat : Nat) : Bool := 1 ≤ sat && sat ≤ [32, 36, 63, 24].getD (sig / 16) 0

def gloOk (sig : Nat) (glo : Int) : Bool := !isGlonass sig || (-7 ≤ glo && glo ≤ 6)

/-- Chip rate of a signal in kHz (R278). -/
def chipRate (sig : Nat) : Int :=
  if isGlonass sig then 511 else if [0x04, 0x11, 0x21].contains sig then 10230 else 1023

/-- Carrier of a signal in Hz; GLONASS channels lie 562.5 kHz and 437.5 kHz apart (log entry 114). -/
def carrierHz (sig : Nat) (glo : Int) : Int :=
  10000 * carrierOf sig + (if sig == 0x30 then 562500 * glo else if sig == 0x31 then 437500 * glo else 0)

/-- Centre frequency of a band in Hz (R277). -/
def centreHz (band : Nat) : Int := [1588000000, 1236000000, 1176450000].getD band 0

/-- Rate of the carrier NCO for a Doppler in 2^-8 Hz: of the signal's place in the passband (R277, R293). -/
def carrierRateOf (sig : Nat) (glo doppler : Int) : BitVec 48 :=
  BitVec.ofInt 48 ((256 * (carrierHz sig glo - centreHz (bandOf sig)) + doppler) * 2 ^ 48 / (256 * 122760000))

/-- Rate of the code NCO for a Doppler in 2^-8 Hz, aided by the carrier (R293, R294). -/
def codeRateOf (sig : Nat) (glo doppler : Int) : BitVec 48 :=
  BitVec.ofInt 48 (1000 * chipRate sig * (256 * carrierHz sig glo + doppler) * 2 ^ 48 / (256 * carrierHz sig glo * 122760000))

/-- An NCO runs for a tide of 10 ms at its rate (R293). -/
def runNco (nco rate : BitVec 48) : BitVec 48 := nco + rate * 1227600

/-- Loop and spacing defaults (R278, R292, R294). -/
def loopDefault (sig : Nat) : LoopPar :=
  let t := match sig with
    | 0x02 | 0x20 | 0x30 | 0x31 => 10
    | 0x10 => 4
    | _ => 20
  if isBoc sig then { tMs := t, dN := 8, dF := 64 }
  else if [0x04, 0x11, 0x21].contains sig then { tMs := t, dN := 32, dF := 64 }
  else { tMs := t, dN := 8, dF := 32 }

/-- Loop parameters in force for a signal code on an antenna (R294). -/
def loopOf (s : State) (sig ant : Nat) : LoopPar := tget (loopDefault sig) s.par.gnss.loops (2 * sig + ant)

/-! ## Access -/

def updGnss (f : Gnss → Gnss) (s : State) : State := { s with gnss := f s.gnss }

def chanOf (s : State) (c : Nat) : Chan := tget {} s.gnss.chans c

def setChan (c : Nat) (v : Chan) (s : State) : State := updGnss (fun g => { g with chans := tput {} g.chans c v }) s

def updChan (c : Nat) (f : Chan → Chan) (s : State) : State := setChan c (f (chanOf s c)) s

def antOf (c : Nat) : Nat := if c < 192 then 0 else 1

def rfIdx (c sig : Nat) : Nat := 3 * antOf c + bandOf sig

def rfOf (s : State) (r : Nat) : RfChan := tget {} s.gnss.rf r

def updRf (r : Nat) (f : RfChan → RfChan) (s : State) : State :=
  updGnss (fun g => { g with rf := tput {} g.rf r (f (rfOf s r)) }) s

def antenna (s : State) (a : Nat) : Antenna := tget {} s.gnss.ant a

def updAnt (a : Nat) (f : Antenna → Antenna) (s : State) : State :=
  updGnss (fun g => { g with ant := tput {} g.ant a (f (antenna s a)) }) s

def fsBand (s : State) (b : Nat) : FsBand := tget {} s.gnss.bands b

def updBand (b : Nat) (f : FsBand → FsBand) (s : State) : State :=
  updGnss (fun g => { g with bands := tput {} g.bands b (f (fsBand s b)) }) s

/-- The statistic group of an antenna (R311). -/
def gStat (a : Nat) : Nat := 12 + a

/-- A signal code is served on an antenna: it is not disabled (R309). -/
def signalOn (s : State) (a sig : Nat) : Bool := signalCodes.contains sig && !s.gnss.stopped.contains (a, rowOf sig)

/-- The channel is the target of a waiting move, or of a start at the next edge (R289, R303). -/
def reservedCh (s : State) (c : Nat) : Bool :=
  s.gnss.moves.any (fun m => m.dst == c) || s.gnss.starts.any fun x => x.1 == c

/-! ## Acquisition -/

/-- A channel as it is started in PULL_IN (R289, R290, R291). -/
def freshChan (s : State) (a sig sat : Nat) (glo doppler : Int) (cn0 : Nat) (phase : Int) : Chan :=
  let l := loopOf s sig a
  let glo := if isGlonass sig then glo else 0
  { st := 1, signal := sig, sat, glo, doppler, cn0, phase
    carrierRate := carrierRateOf sig glo doppler, codeRate := codeRateOf sig glo doppler
    tMs := if dataOnly sig then 1 else l.tMs, dN := l.dN, dF := l.dF,
    half := !dataOnly sig, slip := true, slipRan := s.clk.ran, startTide := s.clk.tide }

/-- Returns a request to firmware with a status. -/
def giveBack (r : AcqRequest) (st : Nat) (s : State) : State :=
  updGnss (fun g => { g with returned := (r, st) :: g.returned }) s

/-- Starts searches from the queue while fewer than eight run (R288). -/
def startSearches : Nat → State → State
  | 0, s => s
  | k + 1, s =>
    match s.gnss.queue with
    | [] => s
    | r :: q =>
      if s.gnss.running.length ≥ 8 then s
      else startSearches k (count (gStat r.antenna) 0
        (updGnss (fun g => { g with queue := q, running := g.running ++ [r] }) s))

/-- An antenna tracks a signal of a satellite already, or starts it at the next edge. -/
def tracks (s : State) (a sig sat : Nat) : Bool :=
  (s.gnss.chans ++ s.gnss.starts).any fun x => antOf x.1 == a && x.2.st != 0 && x.2.st != 5 && x.2.signal == sig && x.2.sat == sat

/-- The channel that tracks another signal of the satellite, or the signal on the other antenna, which aids a start (R290). -/
def aidOf (s : State) (a sig sat : Nat) : Option Chan :=
  if tracks s a sig sat then none
  else (s.gnss.chans.find? fun x =>
    x.2.st != 0 && x.2.st != 5 && x.2.signal / 16 == sig / 16 && x.2.sat == sat).map (·.2)

/-- A channel that firmware can start a signal on: IDLE, or LOST and released by the start (R291, R303, log entry 111). -/
def startable (s : State) (c : Nat) : Bool :=
  ((chanOf s c).st == 0 || (chanOf s c).st == 5) && !reservedCh s c

def freeChan (s : State) (a : Nat) : Option Nat :=
  let l := (List.range 192).map (· + 192 * a)
  (l.find? fun c => (chanOf s c).st == 0 && !reservedCh s c).orElse fun _ => l.find? (startable s)

/-- A start that waits for the next edge (R289). -/
def addStart (c : Nat) (v : Chan) (s : State) : State := updGnss (fun g => { g with starts := g.starts ++ [(c, v)] }) s

/-- A request is of the form that R288 gives. -/
def acqOk (r : AcqRequest) : Bool :=
  r.antenna ≤ 1 && satOk r.signal r.sat && 500 ≤ r.halfWidth && r.halfWidth ≤ 50000 && r.window ≤ 64 && 1 ≤ r.nonCoh && r.nonCoh ≤ 64

/-- ACQUISITION_REQUEST (R279, R288, R290, R309, R310). -/
def execAcquisitionRequest (r : AcqRequest) (s : State) : Res :=
  doneIn [.stats, .gnss] s (
    let same (x : AcqRequest) := x.antenna == r.antenna && x.signal == r.signal && x.sat == r.sat
    if clusterOff s || r.antenna > 1 then s
    else if !signalOn s r.antenna r.signal || (r.antenna == 1 && s.pr.level ≥ 3) then giveBack r stCANCELLED s
    else if !satOk r.signal r.sat then giveBack r stFIELD s
    else if r.aided then
      match aidOf s r.antenna r.signal r.sat, freeChan s r.antenna with
      | none, _ => giveBack r stSTATE s
      | some v, some c => count (gStat r.antenna) 3 (addStart c
          (freshChan s r.antenna r.signal r.sat v.glo (v.doppler * carrierHz r.signal v.glo / carrierHz v.signal v.glo) v.cn0
            (v.phase * chipRate r.signal / chipRate v.signal)) s)
      | some _, none => giveBack r stNORES s
    else if !acqOk r then giveBack r stFIELD s
    else if s.gnss.running.any same then giveBack r stBUSY s
    else if s.gnss.queue.length ≥ 64 then giveBack r stNORES s
    else startSearches 8 (updGnss (fun g => { g with queue := g.queue ++ [r] }) s))

/-- ACQUISITION_RESULT (R279, R289, R310): firmware starts a detection's channel at the next tide edge. -/
def execAcquisitionResult (antenna signal sat : Nat) (found : Option AcqHit) (s : State) : Res :=
  doneIn [.stats, .gnss] s (
    let same (x : AcqRequest) := x.antenna == antenna && x.signal == signal && x.sat == sat
    if !(s.gnss.running.any same) then s
    else
      let s := updGnss (fun g => { g with running := g.running.eraseP same }) s
      let s := match found with
        | none => count (gStat antenna) 2 s
        | some h =>
          let s := count (gStat antenna) 1 s
          if h.channel < 384 && gloOk signal h.gloFreq && !clusterOff s && !(antenna == 1 && s.pr.level ≥ 3) && antOf h.channel == antenna && startable s h.channel
          then addStart h.channel (freshChan s antenna signal sat h.gloFreq h.doppler h.cn0 h.phase) s
          else s
      if clusterOff s then s else startSearches 8 s)

/-! ## Notches, jamming and antennas -/

def gnssNotch (rf notch kind : Nat) (off : Int) (s : State) : State :=
  raise 0x0681 (le 1 rf ++ le 1 notch ++ le 1 kind ++ le 1 0 ++ leI 4 off) s

def notchPar (s : State) (rf n : Nat) : NotchPar := tget {} s.par.gnss.notches (4 * rf + n)

def notchOf (s : State) (rf n : Nat) : Notch := tget {} (rfOf s rf).notches n

/-- Offsets in steps of 122.76 MHz / 2^20, to the nearest, and in Hz (R282; log entry 114). -/
def notchSteps (hz : Int) : Int := (2097152 * hz + 122760000) / 245520000

def notchHz (n : Int) : Int := (245520000 * n + 1048576) / 2097152

/-- The bin of 256 steps in which an offset lies (R283). -/
def binOf (n : Int) : Int := (n + 128) / 256

/-- A notch acts on the RF channel: engaged on a line, or fixed. -/
def notchActs (s : State) (rf n : Nat) : Bool :=
  (notchPar s rf n).mode == 2 || ((notchPar s rf n).mode == 1 && (notchOf s rf n).engaged)

def setNotch (rf n : Nat) (v : Notch) (s : State) : State :=
  updRf rf (fun x => { x with notches := tput {} x.notches n v, notchChange := some s.clk.ran
                              notchFirst := x.notchFirst.orElse fun _ => some s.clk.ran }) s

/-- Lines declared on an RF channel that no notch follows (R283). -/
def waitingLines (s : State) (rf : Nat) : List Line :=
  (rfOf s rf).lines.filter fun l => l.run ≥ 3 && !([0, 1, 2, 3].any fun n => (notchPar s rf n).mode == 1
    && (notchOf s rf n).engaged && binOf (notchOf s rf n).offset == l.bin)

def freeNotches (s : State) (rf : Nat) : List Nat :=
  [0, 1, 2, 3].filter fun n => (notchPar s rf n).mode == 1 && !(notchOf s rf n).engaged

/-- A declared line takes a free adaptive notch, where no stronger line waits for it; one that takes none is counted once
(R283). -/
def assignLine (rf : Nat) (off : Int) (l : Line) (s : State) : State :=
  let stronger := (waitingLines s rf).filter fun x => x.level > l.level
  let free := freeNotches s rf
  match if stronger.length < free.length then free.head? else none with
  | some n => gnssNotch rf n 1 (notchHz off) (count (gStat (rf / 3)) 9 (setNotch rf n { engaged := true, offset := off } s))
  | none =>
    if l.counted then s
    else gnssNotch rf 0xFF 2 (notchHz off) (count (gStat (rf / 3)) 10 (updRf rf (fun x => { x with
      lines := x.lines.map fun y => if y.bin == l.bin then { y with counted := true } else y }) s))

/-- NOTCH_ENGAGE (R282 to R284): the line at an offset within the passband. -/
def execNotchEngage (rf : Nat) (offsetHz : Int) (s : State) : Res :=
  doneIn [.host, .stats, .gnss, .out] s (
    if rf > 5 || offsetHz.natAbs > 30000000 then s
    else match (waitingLines s rf).find? fun l => l.bin == binOf (notchSteps offsetHz) with
      | none => s
      | some l => assignLine rf (notchSteps offsetHz) l s)

/-- NOTCH_RELEASE (R283, R284): its line has stayed low for 100 tides. -/
def execNotchRelease (rf notch : Nat) (s : State) : Res :=
  doneIn [.host, .gnss, .out] s (
    if rf > 5 || notch > 3 || (notchPar s rf notch).mode != 1 || !(notchOf s rf notch).engaged
        || (notchOf s rf notch).low < 100 then s
    else gnssNotch rf notch 0 (notchHz (notchOf s rf notch).offset) (setNotch rf notch {} s))

def gnssJamming (rf kind : Nat) (s : State) : State :=
  raise 0x0680 (le 1 rf ++ le 1 kind ++ le 1 (rfOf s rf).jiIn ++ le 1 (rfOf s rf).jiOut ++ le 4 0) s

/-- JAM_ENTER (R286). -/
def execJamEnter (rf : Nat) (s : State) : Res :=
  doneIn [.host, .gnss, .out] s (if rf > 5 || (rfOf s rf).jammed || (rfOf s rf).above < 10 then s
    else gnssJamming rf 1 (updRf rf (fun x => { x with jammed := true }) s))

/-- JAM_EXIT (R286). -/
def execJamExit (rf : Nat) (s : State) : Res :=
  doneIn [.host, .gnss, .out] s (if rf > 5 || !(rfOf s rf).jammed || (rfOf s rf).below < 100 then s
    else gnssJamming rf 0 (updRf rf (fun x => { x with jammed := false }) s))

def gnssAntenna (a kind : Nat) (s : State) : State := raise 0x0682 (le 1 a ++ le 1 kind ++ le 2 0) s

def biasOf (s : State) (a : Nat) : Nat := tget 0 s.par.gnss.bias a

/-- ANTENNA_SHORT (R281). -/
def execAntennaShort (antenna : Nat) (s : State) : Res :=
  doneIn [.host, .gnss, .out] s (if antenna > 1 || biasOf s antenna == 0 || (Machine.antenna s antenna).ant == 2 then s
    else gnssAntenna antenna 2 (updAnt antenna (fun x => { x with ant := 2, retry := s.clk.ran + 6000 }) s))

/-- BIAS_RETRY (R281). -/
def execBiasRetry (antenna : Nat) (s : State) : Res :=
  let x := Machine.antenna s antenna
  doneIn [.host, .gnss, .out] s (if antenna > 1 || x.ant != 2 || s.clk.ran < x.retry then s
    else gnssAntenna antenna 3 (updAnt antenna (fun x => { x with ant := 0 }) s))

/-- ANTENNA_OPEN (R281): the bias stays on. -/
def execAntennaOpen (antenna : Nat) (s : State) : Res :=
  doneIn [.host, .gnss, .out] s (if antenna > 1 || biasOf s antenna == 0 || (Machine.antenna s antenna).ant != 0 then s
    else gnssAntenna antenna 1 (updAnt antenna (fun x => { x with ant := 1 }) s))

/-! ## Sample lanes -/

/-- The channels of an antenna that are listed. -/
def chansOf (s : State) (a : Nat) : List Nat := (s.gnss.chans.map (·.1)).filter fun c => antOf c == a

/-- Marks a slip of a channel (R295). -/
def slipped (s : State) (v : Chan) : Chan := { v with slip := true, slipRan := s.clk.ran }

/-- A channel that begins to coast (R296). -/
def coast (s : State) (v : Chan) : Chan := { slipped s v with st := 4, coastRan := s.clk.ran }

def lose (c : Nat) (s : State) : State := count (gStat (antOf c)) 5 (updChan c (fun v => { v with st := 5 }) s)

/-- LANE_ALIGNMENT_LOSS (R28, R296). -/
def execLaneAlignmentLoss (antenna : Nat) (s : State) : Res :=
  doneIn [.host, .stats, .gnss, .out] s (
    if antenna > 1 || !(Machine.antenna s antenna).lane then s
    else
      let s := updAnt antenna (fun x => { x with lane := false }) s
      let s := each (chansOf s antenna) (fun c s =>
        let v := chanOf s c
        if v.st == 1 || v.st == 2 || v.st == 3 then
          count (gStat antenna) 4 (setChan c (coast s v) s)
        else s) s
      gnssAntenna antenna 4 s)

/-- LANE_REALIGN (R28, R296): within 100 tides a coasting channel returns to PULL_IN. -/
def execLaneRealign (antenna : Nat) (s : State) : Res :=
  doneIn [.host, .stats, .gnss, .out] s (
    if antenna > 1 || (Machine.antenna s antenna).lane then s
    else
      let s := updAnt antenna (fun x => { x with lane := true }) s
      let s := each (chansOf s antenna) (fun c s =>
        let v := chanOf s c
        if v.st != 4 then s
        else if s.clk.ran ≤ v.coastRan + 100 then setChan c { slipped s v with st := 1 } s
        else lose c s) s
      gnssAntenna antenna 5 s)

/-- COAST_TIMEOUT (R296). -/
def execCoastTimeout (ch : Nat) (s : State) : Res :=
  let v := chanOf s ch
  doneIn [.stats, .gnss] s (if v.st == 4 && s.clk.ran ≥ v.coastRan + 100 then lose ch s else s)

/-! ## Lock -/

/-- A report is of the channel's current placement (R64). -/
def current (s : State) (r : ChanReport) : Bool :=
  let v := chanOf s r.ch
  v.st != 0 && v.epoch == r.epoch && v.startTide ≤ r.tide

/-- A report of a channel: a stale one is counted and discarded (R64, R302). -/
def chanReport (r : ChanReport) (f : Chan → State → State) (s : State) : State :=
  let v := chanOf s r.ch
  if current s r then f v s
  else count (gStat (antOf r.ch)) 7 s

/-- CHANNEL_LOCK (R295): out of CODE_ONLY the lock time starts afresh. -/
def execChannelLock (r : ChanReport) (s : State) : Res :=
  doneIn [.stats, .gnss] s (chanReport r (fun v s =>
    if v.st == 1 then setChan r.ch { v with st := 2 } s
    else if v.st == 3 then setChan r.ch { slipped s v with st := 2 } s
    else s) s)

/-- CHANNEL_LOCK_LOSS (R295). -/
def execChannelLockLoss (r : ChanReport) (s : State) : Res :=
  doneIn [.stats, .gnss] s (chanReport r (fun v s =>
    if v.st == 2 then count (gStat (antOf r.ch)) 4 (setChan r.ch { slipped s v with st := 3 } s) else s) s)

/-- CHANNEL_LOST (R295). -/
def execChannelLost (r : ChanReport) (s : State) : Res :=
  doneIn [.stats, .gnss] s (chanReport r (fun v s => if v.st == 1 || v.st == 2 || v.st == 3 then lose r.ch s else s) s)

/-- SIDE_PEAK_CORRECTION (R292). -/
def execSidePeakCorrection (r : ChanReport) (later : Bool) (s : State) : Res :=
  doneIn [.stats, .gnss] s (chanReport r (fun v s =>
    if isBoc v.signal && (v.st == 1 || v.st == 2 || v.st == 3) then
      count (gStat (antOf r.ch)) 4 (setChan r.ch { slipped s v with phase := v.phase + (if later then 1 else -1) } s)
    else s) s)

/-- BIT_SYNC (R294): the configured T from here on. -/
def execBitSync (r : ChanReport) (s : State) : Res :=
  doneIn [.stats, .gnss] s (chanReport r (fun v s =>
    if dataOnly v.signal && !v.bitSync then
      setChan r.ch { v with bitSync := true, tMs := (loopOf s v.signal (antOf r.ch)).tMs } s
    else s) s)

/-- SECONDARY_CODE_ALIGNMENT (R278). -/
def execSecondaryCodeAlignment (r : ChanReport) (s : State) : Res :=
  doneIn [.stats, .gnss] s (chanReport r (fun v s =>
    if dataOnly v.signal then s else setChan r.ch { v with secondary := true } s) s)

/-- The signal's channel for navigation words decoded with the epoch before its move (R302). -/
def navWords (s : State) (r : ChanReport) : Option Nat :=
  (chanOf s r.ch).movedTo.bind fun c =>
    let v := chanOf s c
    if v.st != 0 && v.epoch == r.epoch + 1 && r.tide < v.startTide then some c else none

/-- FRAME_PREAMBLE (R295, R302): navigation words of bits that ended before a move are accepted with the old epoch. -/
def execFramePreamble (r : ChanReport) (s : State) : Res :=
  doneIn [.stats, .gnss] s (
    let put (c : Nat) (s : State) := updChan c (fun v => if dataOnly v.signal then { v with half := true } else v) s
    if current s r then put r.ch s
    else match navWords s r with
      | some c => put c (count (gStat (antOf r.ch)) 8 s)
      | none => chanReport r (fun _ s => s) s)

/-! ## Moves -/

/-- The move of a signal at its edge (R63, R301, R303): carried out, or withdrawn. -/
def signalMove (ch : Nat) (s : State) : State :=
  match s.gnss.moves.find? fun m => m.src == ch && m.tide ≤ s.clk.tide with
  | none => s
  | some m =>
    let s := updGnss (fun g => { g with moves := g.moves.erase m }) s
    let a := chanOf s m.src
    if (a.st == 1 || a.st == 2 || a.st == 3) && (chanOf s m.dst).st == 0 then
      let s := setChan m.dst { a with epoch := a.epoch + 1, moved := true, startTide := s.clk.tide, movedTo := none } s
      let s := setChan m.src { movedTo := some m.dst } s
      finishOpt m.job stOK (count (gStat (antOf m.src)) 6 s)
    else finishOpt m.job stSTATE s

/-- Every move that is due at the edge (R301). -/
def dueMoves (s : State) : State :=
  each ((s.gnss.moves.filter fun m => m.tide ≤ s.clk.tide).map (·.src)) signalMove s

/-! ## Measurements -/

def lockTime (s : State) (v : Chan) : Nat := min 65535 (s.clk.ran - v.slipRan)

/-- The accumulated carrier phase in 2^-16 cycle: whole cycles, and the accumulator's part of a cycle (R293, R299; log entry
114). -/
def carrierPhase (cycles : Int) (nco : BitVec 48) : Int := 65536 * cycles + nco.toNat / 2 ^ 32

/-- The entry of one channel at an epoch (R299): a channel that coasts runs at its last rates (R296). -/
def entryFor (s : State) (c : Nat) (v : Chan) (raw : RawMeas) : MeasEntry :=
  let r := rfOf s (rfIdx c v.signal)
  let good := v.st != 4 && v.st != 5
  let fl : Nat := bit (raw.prValid && good) + 2 * bit (v.st == 2) + 4 * bit v.half + 8 * bit v.slip
    + 16 * bit (match r.notchFirst with | some n => n < s.clk.ran | none => false) + 32 * bit v.suspect + 64 * bit v.moved + 128 * bit r.jammed
  { ch := c, signal := v.signal, sat := v.sat, st := v.st, epoch := v.epoch, cn0 := if v.st == 4 then v.cn0 else raw.cn0, glo := v.glo,
    range := raw.range, carrier := carrierPhase raw.cycles v.carrierNco, doppler := if v.st == 4 then v.doppler else raw.doppler, lockTime := lockTime s v,
    flags := BitVec.ofNat 16 fl }

def entryBytes (e : MeasEntry) : List Byte :=
  le 2 e.ch ++ le 1 e.signal ++ le 1 e.sat ++ le 1 e.st ++ le 1 e.epoch.toNat ++ le 1 e.cn0 ++ leI 1 e.glo
    ++ le 8 e.range ++ leI 8 e.carrier ++ leI 4 e.doppler ++ le 2 e.lockTime ++ le 2 e.flags.toNat

/-- The header of a measurement record (R298). -/
def recordHeader (s : State) (n : Nat) : List Byte :=
  let fs := (fsBand s 0).st + 4 * (fsBand s 1).st + 16 * (fsBand s 2).st
  let fl := bit (clusterDown s) + 2 * bit (!(antenna s 0).lane) + 4 * bit (!(antenna s 1).lane) + 8 * bit s.time.prov
  le 8 s.clk.tide ++ le 2 n ++ le 1 fs ++ le 1 fl ++ (List.range 6).flatMap (fun r => le 1 (rfOf s r).jiIn)
    ++ (List.range 6).flatMap (fun r => le 1 (rfOf s r).jiOut)

/-- Copies of the record to the host streams of this epoch (R300): a record dropped counts for the antenna, the reference
antenna where the stream carries both (log entry 66). -/
def feedObs (es : List MeasEntry) (s : State) : State :=
  s.gnss.streams.foldl (fun s x =>
    if s.clk.tide % (5 * x.a) != 0 || !ownsQwin s x.qwin x.sid then s
    else
      let l := es.filter fun e => x.b.testBit (antOf e.ch)
      let r := feed x.qwin 2 attHost (recordHeader s l.length ++ l.flatMap entryBytes) s
      if r.1 then r.2 else count (gStat (if x.b.testBit 0 then 0 else 1)) 14 r.2) s

/-- What a channel's measurement of an epoch is: that of a channel whose signal moved here at this edge was still taken on
its old channel (R297, R301). -/
def rawFor (s : State) (raw : List RawMeas) (c : Nat) : Option RawMeas :=
  (raw.find? fun m => m.channel == c).orElse fun _ =>
    if (chanOf s c).moved then raw.find? fun m => (chanOf s m.channel).movedTo == some c else none

/-- What one channel latches: the raw values are kept, but for a channel that runs open-loop; an indicator below 0.5 is a slip, and so is the time in CODE_ONLY
and COASTING (R295, R297). -/
def latchChan (raw : List RawMeas) (c : Nat) (s : State) : State :=
  let v := chanOf s c
  if v.st == 0 then s
  else match rawFor s raw c with
    | none => if v.st == 3 || v.st == 4 then setChan c (slipped s v) s else s
    | some m =>
      let v := if v.st == 4 then v else
        { v with cn0 := m.cn0, doppler := m.doppler, lockInd := m.lockInd, carrierNco := m.carrierNco, codeNco := m.codeNco
                 carrierRate := m.carrierRate, codeRate := m.codeRate, loop := m.loop }
      if v.st == 3 || v.st == 4 then setChan c (slipped s v) s
      else if (v.st == 1 || v.st == 2) && (m.low || m.lockInd < 500) then
        count (gStat (antOf c)) 4 (setChan c (slipped s v) s)
      else setChan c v s

/-- Measurements of channels that a signal left before this edge are stale (R302). -/
def staleRaw (raw : List RawMeas) (s : State) : State :=
  raw.foldl (fun s m => match (chanOf s m.channel).movedTo with
    | some c => if (chanOf s m.channel).st == 0 && (chanOf s c).startTide < s.clk.tide
        then count (gStat (antOf m.channel)) 7 s else s
    | none => s) s

/-- Channels of disabled signals become IDLE (R309). -/
def endChans (s : State) : State :=
  each (s.gnss.chans.map (·.1)) (fun c s => if (chanOf s c).ending then setChan c {} s else s) s

/-- The edge of an epoch whose record has not been latched (R297). -/
def latchDue (s : State) : Bool := s.clk.tide % 5 == 0 && s.gnss.latchRan != some s.clk.ran

/-- The record goes into the berth pool for the running cluster, which takes it (R297, R310, R420, R425): one that the pool
refuses is lost to it. -/
def recordIn (es : List MeasEntry) (s : State) : State :=
  let r := if clusterOff s then (false, s) else passData 174 attHost (berths (24 + 32 * es.length)) s
  updGnss (fun g => { g with latchRan := some s.clk.ran, recTide := s.clk.tide, entries := es, recTaken := r.1 }) r.2

/-- MEASUREMENT_LATCH (R297 to R301, R309, R310): once at every edge with a tide number divisible by 5. The moves of the edge
stand in its record. -/
def latchAll (raw : List RawMeas) (s : State) : State :=
  if !latchDue s then s
  else
    let s := dueMoves s
    let s := each (s.gnss.chans.map (·.1)) (latchChan raw) (staleRaw raw s)
    let es := (s.gnss.chans.filter fun x => x.2.st != 0).map fun x =>
      entryFor s x.1 x.2 ((rawFor s raw x.1).getD
        { channel := x.1, cn0 := 0, range := 0, cycles := 0, doppler := 0, lockInd := 0, prValid := false })
    let s := recordIn es s
    let s := es.foldl (fun s e => updChan e.ch (fun v =>
      { v with slip := v.st == 3 || v.st == 4, moved := false, flags := e.flags }) s) s
    let s := each [0, 1, 2, 3, 4, 5] (fun r s => updRf r (fun x =>
      let now := if x.notchChange == some s.clk.ran then x.notchChange else none
      { x with notchChange := now, notchFirst := now }) s) s
    endChans (feedObs es s)

def execMeasurementLatch (raw : List RawMeas) (s : State) : Res :=
  doneIn [.host, .stats, .pool, .gnss, .log, .out] s (latchAll raw s)

/-! ## The false-signal evaluation -/

/-- A value in 2^-16 cycle mapped into −0.5 to below +0.5 cycle (R306). -/
def wrapCycle (x : Int) : Int := (x + 32768) % 65536 - 32768

/-- exp(j2π 2^i/65536) for i from 0 to 15, real and imaginary part in units of 2^-40. -/
def unitRoots : List (Int × Int) :=
  [(1099511622723, 105414357), (1099511607563, 210828713), (1099511546924, 421657418), (1099511304369, 843314774),
   (1099510334147, 1686629052), (1099506453265, 3373254134), (1099490929780, 6746476518), (1099428836573, 13492699036),
   (1099180475430, 26983366121), (1098187217867, 53950478471), (1094217178761, 107770985514), (1078384820155, 214504077523),
   (1015816288660, 420764883643), (777472127994, 777472127994), (0, 1099511627776), (-1099511627776, 0)]

/-- exp(j2πx) for an angle in 2^-16 cycle, in units of 2^-40 (R306). -/
def phasor (x : Int) : Int × Int :=
  let k := (x % 65536).toNat
  (unitRoots.zip (List.range 16)).foldl (fun z r => if k.testBit r.2
    then ((z.1 * r.1.1 - z.2 * r.1.2) / 1099511627776, (z.1 * r.1.2 + z.2 * r.1.1) / 1099511627776) else z) (1099511627776, 0)

def phasorSum (l : List Int) : Int × Int := l.foldl (fun z x => (z.1 + (phasor x).1, z.2 + (phasor x).2)) (0, 0)

/-- The argument of a phasor in 2^-16 cycle, rounded down (R306). -/
def phasorArg (z : Int × Int) : Int :=
  let t0 : Int := if z.2 ≥ 0 then 0 else -32768
  [14, 13, 12, 11, 10, 9, 8, 7, 6, 5, 4, 3, 2, 1, 0].foldl (fun t i =>
    let c := phasor (t + 2 ^ i)
    if c.1 * z.2 - c.2 * z.1 ≥ 0 then t + 2 ^ i else t) t0

/-- A thousand times the magnitude of the mean of n phasors, to the nearest (R306, R312). -/
def phasorMag (z : Int × Int) (n : Nat) : Nat :=
  let q := (z.1 * z.1 + z.2 * z.2).toNat
  (2 * Nat.sqrt (1000000 * q) / (n * 1099511627776) + 1) / 2

/-- The magnitude of the mean of n phasors is at least x/100, and at most x/100 (R306). -/
def magAtLeast (z : Int × Int) (n x : Nat) : Bool := 10000 * (z.1 * z.1 + z.2 * z.2).toNat ≥ (x * n * 1099511627776) ^ 2

def magAtMost (z : Int × Int) (n x : Nat) : Bool := 10000 * (z.1 * z.1 + z.2 * z.2).toNat ≤ (x * n * 1099511627776) ^ 2

/-- An angle of 2^-16 cycle in 1/1,000 cycle, to the nearest (R312). -/
def milliCycles (x : Int) : Int := (2000 * x + 65536) / 131072

def subEcef (a b : Ecef) : Ecef := { x := a.x - b.x, y := a.y - b.y, z := a.z - b.z }

def addEcef (a b : Ecef) : Ecef := { x := a.x + b.x, y := a.y + b.y, z := a.z + b.z }

/-- A length is within 2 m to 300 m (R304), coordinates in 0.1 mm. -/
def lengthOk (d : Ecef) : Bool :=
  let q := d.x * d.x + d.y * d.y + d.z * d.z
  400000000 ≤ q && q ≤ 9000000000000

/-- A quotient to the nearest. -/
def divNear (a b : Int) : Int := (2 * a + b) / (2 * b)

def dotEcef (a b : Ecef) : Int := a.x * b.x + a.y * b.y + a.z * b.z

/-- Unit vectors of north, east and up at a point, in units of 10^-9: up is normal to the WGS 84 ellipsoid there (R317, R331; log
entry 116). -/
def localAxes (p : Ecef) : Ecef × Ecef × Ecef :=
  let z := p.z * 100673949674 / 100000000000
  let n := Nat.sqrt (p.x * p.x + p.y * p.y + z * z).toNat
  let h := Nat.sqrt (p.x * p.x + p.y * p.y).toNat
  let u : Ecef := if n = 0 then { x := 1000000000, y := 0, z := 0 }
    else { x := divNear (p.x * 1000000000) n, y := divNear (p.y * 1000000000) n, z := divNear (z * 1000000000) n }
  let e : Ecef := if h = 0 then { x := 0, y := 1000000000, z := 0 }
    else { x := divNear (-p.y * 1000000000) h, y := divNear (p.x * 1000000000) h, z := 0 }
  ({ x := divNear (u.y * e.z - u.z * e.y) 1000000000, y := divNear (u.z * e.x - u.x * e.z) 1000000000
     z := divNear (u.x * e.y - u.y * e.x) 1000000000 }, e, u)

/-- An offset of north, east and up in mm at a point, in ECEF and 0.1 mm (R317). -/
def offsetEcef (at_ : Ecef) (p : Int × Int × Int) : Ecef :=
  let a := localAxes at_
  let one (f : Ecef → Int) : Int := divNear (p.1 * f a.1 + p.2.1 * f a.2.1 + p.2.2 * f a.2.2) 100000000
  { x := one (·.x), y := one (·.y), z := one (·.z) }

/-- The phase centre of an antenna in a band (R317). -/
def phaseCentre (s : State) (mon : Bool) (band : Nat) (arp : Ecef) : Ecef :=
  addEcef arp (offsetEcef arp (tget (0, 0, 0) (if mon then s.par.ref.monPco else s.par.ref.refPco) band))

/-- The baseline of a band where it is fixed and of usable length (R304, R317). -/
def baseline (s : State) (band : Nat) : Option Ecef :=
  match s.ref.refArp, s.ref.monArp with
  | some a, some b =>
    let d := subEcef (phaseCentre s true band b) (phaseCentre s false band a)
    if lengthOk d then some d else none
  | _, _ => none

/-- An entry of the epoch's record meets the conditions of R305. -/
def fsEntryOk (p : FsPar) (e : MeasEntry) : Bool :=
  e.st == 2 && e.flags.getLsbD 1 && e.flags.getLsbD 2 && !e.flags.getLsbD 3 && e.lockTime ≥ 100 && e.cn0 ≥ 4 * p.cn0Min

/-- The signals that enter the evaluation of a band, with the entries of both antennas (R305). -/
def fsSignals (s : State) (band : Nat) : List (MeasEntry × MeasEntry) :=
  let p := s.par.gnss.fs
  if s.gnss.recTide != s.clk.tide || !s.gnss.recTaken then []
  else (s.gnss.entries.filter fun e => antOf e.ch == 0 && bandOf e.signal == band && !isGlonass e.signal && fsEntryOk p e
      && Config.satElev (e.signal / 16) e.sat s.clk.tide ≥ p.elevMin).filterMap fun e =>
    (s.gnss.entries.find? fun m => antOf m.ch == 1 && m.signal == e.signal && m.sat == e.sat && fsEntryOk p m).map fun m => (e, m)

/-- dot(B, u)/λ in 2^-16 cycle, to the nearest: B in 0.1 mm, u in 10^-9, the carrier in 10 kHz (R306). -/
def geometric (b u : Ecef) (f10k : Int) : Int :=
  let n := (b.x * u.x + b.y * u.y + b.z * u.z) * f10k * 65536
  (2 * n + 299792458000000000) / 599584916000000000

/-- The tests of R306 on signals given by their channels, d and g in 2^-16 cycle. -/
def judgeSignals (p : FsPar) (tide : Nat) (l : List (Nat × Nat × Int × Int)) : FsResult :=
  let n := l.length
  let beta := phasorArg (phasorSum (l.map fun x => x.2.2.1 - x.2.2.2))
  let r := l.map fun x => (x.1, x.2.1, wrapCycle (x.2.2.1 - x.2.2.2 - beta))
  let above := (r.filter fun x => 1000 * x.2.2.natAbs > 65536 * p.rMax).length
  let zm := phasorSum (l.map fun x => x.2.2.1)
  let zg := phasorSum (l.map fun x => x.2.2.2)
  let fail := above * 100 > p.fMax * n || (magAtLeast zm n p.mHi && magAtMost zg n p.gLo)
  { kind := if fail then 2 else 1, n, f := (2000 * above / n + 1) / 2, m := phasorMag zm n, g := phasorMag zg n
    beta := milliCycles beta, tide, r }

/-- The signal of an entry: its code times 256, plus its satellite. -/
def fsWho (e : MeasEntry) : Nat := 256 * e.signal + e.sat

/-- evaluate(b, k) of R306, on that epoch's record. -/
def evaluate (s : State) (band : Nat) : FsResult :=
  let l := fsSignals s band
  match baseline s band with
  | none => { n := l.length, tide := s.clk.tide, r := l.map fun x => (x.1.ch, fsWho x.1, 0) }
  | some b =>
    if l.length < s.par.gnss.fs.nMin then { n := l.length, tide := s.clk.tide, r := l.map fun x => (x.1.ch, fsWho x.1, 0) }
    else judgeSignals s.par.gnss.fs s.clk.tide (l.map fun x => (x.1.ch, fsWho x.1, wrapCycle (x.1.carrier - x.2.carrier),
      wrapCycle (geometric b (Config.satDir (x.1.signal / 16) x.1.sat s.clk.tide) (carrierOf x.1.signal))))

/-- FALSE_SIGNAL_EVAL (R305, R306, R307, R310): one evaluation per band and epoch. -/
def execFalseSignalEval (band us : Nat) (s : State) : Res :=
  doneIn [.stats, .gnss] s (
    if band > 2 || s.clk.tide % 100 != 0 || clusterOff s || s.pr.level ≥ 3
        || (match (fsBand s band).next with | some e => e.tide == s.clk.tide | none => false) then s
    else if us > 9000 then count (gStat 0) 13 s
    else
      let e := evaluate s band
      let s := updBand band (fun x => { x with next := some e }) s
      if e.kind == 2 then count (gStat 0) 12 s else s)

def gnssFalse (band kind : Nat) (s : State) : State :=
  let e := (fsBand s band).last
  raise 0x0683 (le 1 band ++ le 1 kind ++ le 1 e.n ++ le 1 0 ++ le 2 e.f ++ le 2 e.m ++ le 2 e.g ++ le 2 0 ++ le 8 e.tide) s

/-- The state of a band after an evaluation (R307), and the run that goes with it. -/
def fsNext (p : FsPar) (x : FsBand) (kind : Nat) : Nat × Nat :=
  match kind with
  | 2 => if x.st == 3 then (3, 0)
    else
      let run := if x.st == 2 then x.run + 1 else 1
      if run ≥ p.fsFail then (3, 0) else (2, run)
  | 1 => if x.st == 3 then (if x.run + 1 ≥ p.fsPass then (1, 0) else (3, x.run + 1)) else (1, 0)
  | _ => if x.st == 3 then (3, x.run) else (0, 0)

/-- SUSPECT of the signals of a band after an evaluation, on whichever channels they are now (R307). -/
def markSuspects (band : Nat) (e : FsResult) (s : State) : State :=
  each (s.gnss.chans.map (·.1)) (fun c s =>
    let v := chanOf s c
    if v.st == 0 || bandOf v.signal != band then s
    else match e.r.find? fun x => x.2.1 == 256 * v.signal + v.sat with
      | none => setChan c { v with suspect := false } s
      | some x => if e.kind == 0 then s else setChan c { v with suspect := 1000 * x.2.2.natAbs > 65536 * s.par.gnss.fs.rMax } s) s

/-- Takes a band's evaluation into force (R307, R308, R315). -/
def takeEval (band : Nat) (s : State) : State :=
  let x := fsBand s band
  match x.next with
  | none => s
  | some e =>
    if s.clk.tide ≤ e.tide then s
    else
      let r := fsNext s.par.gnss.fs x e.kind
      let s := markSuspects band e (updBand band (fun x => { x with st := r.1, run := r.2, last := e, next := none }) s)
      if x.st != 3 && r.1 == 3 then logIt 0x06 30 6 0 [band] (gnssFalse band 1 s)
      else if x.st == 3 && r.1 != 3 then gnssFalse band 2 s
      else if x.st != 0 && r.1 == 0 then gnssFalse band 3 s
      else if x.st == 0 && r.1 != 0 then gnssFalse band 4 s
      else s

/-- A band becomes UNTESTED, with ALARM kept (R304, R307, R310). -/
def fsUntest (b : Nat) (s : State) : State :=
  let x := fsBand s b
  let s := updBand b (fun x => { x with next := none }) s
  if x.st == 1 || x.st == 2 then gnssFalse b 3 (updBand b (fun x => { x with st := 0, run := 0 }) s) else s

/-- Every band is UNTESTED while the cluster is down (R310). -/
def fsDown (s : State) : State := each [0, 1, 2] fsUntest s

/-- Bands without a fixed baseline of usable length are UNTESTED (R304). -/
def fsBaselines (s : State) : State := each [0, 1, 2] (fun b s => if (baseline s b).isNone then fsUntest b s else s) s

/-! ## Calibration -/

/-- The calibration of an RF channel is void (R287, R313). -/
def calVoid (s : State) (rf : Nat) : Bool :=
  !(antenna s (rf / 3)).lane || [0, 1, 2, 3].any fun n => notchActs s rf n

/-- JI_CAL_COMPLETE (R287): the command ends with its last RF channel. -/
def execJiCalComplete (rf mean : Nat) (s : State) : Res :=
  doneIn [.host, .gnss, .log, .out] s (
    match (rfOf s rf).cal with
    | none => s
    | some c =>
      if s.clk.ran < c.ends then s
      else
        let v := calVoid s rf
        let s := updRf rf (fun x => { x with cal := none, quiet := if v then x.quiet else some mean }) s
        let rest := [0, 1, 2, 3, 4, 5].filter fun r => match (rfOf s r).cal with | some d => d.job == c.job | none => false
        let bad := c.bad || v
        if rest.isEmpty then finish c.job (if bad then stSTATE else stOK) s
        else each rest (fun r s => updRf r (fun x => { x with cal := x.cal.map fun d => { d with bad } }) s) s)

/-! ## Edges and disabling -/

/-- The quiet level of an RF channel: calibrated at the site, or at manufacture (R287). -/
def quietOf (r : Nat) (x : RfChan) : Nat := x.quiet.getD (Config.quietLevel r)

/-- Power at the converter in 0.25 dB from the gain in 0.5 dB, which holds the samples at one magnitude: none at the full gain of
60 dB (R280, R285; log entry 114). -/
def powerIn (gain : Nat) : Nat := 2 * (120 - gain)

/-- The rise of a bin above the median in the ended tide in 0.25 dB (R283). -/
def binLevel (e : EdgeIn) (r : Nat) (b : Int) : Nat :=
  match e.lines.find? fun l => l.1 == r && l.2.1 == b with | some l => l.2.2 | none => 0

/-- Lines of an RF channel after the ended tide: bins at or above DET_DB (R283). -/
def linesAfter (detDb : Nat) (e : EdgeIn) (r : Nat) (old : List Line) : List Line :=
  (e.lines.filter fun l => l.1 == r && l.2.2 ≥ 4 * detDb).map fun l =>
    match old.find? fun o => o.bin == l.2.1 with
    | some o => { o with level := l.2.2, run := o.run + 1 }
    | none => { bin := l.2.1, level := l.2.2, run := 1 }

/-- The run of tides in which the line of an engaged notch stayed below DET_DB − 3 dB (R283). -/
def notchLow (detDb : Nat) (e : EdgeIn) (r : Nat) (n : Notch) : Notch :=
  if n.engaged then { n with low := if binLevel e r (binOf n.offset) < 4 * (detDb - 3) then n.low + 1 else 0 } else n

/-- Gain, indicators and lines of one RF channel for the ended tide (R280, R283, R285, R286). -/
def rfEdge (p : GnssPar) (e : EdgeIn) (r : Nat) (x : RfChan) : RfChan :=
  let g := min 120 (e.gain.getD r x.gain)
  let o := match e.power[r]? with | some w => min 255 (w - quietOf r x) | none => x.jiOut
  { x with gain := g, jiIn := min 255 (powerIn g - quietOf r x), jiOut := o, lines := linesAfter p.detDb e r x.lines
           notches := x.notches.foldl (fun t n => tput {} t n.1 (notchLow p.detDb e r n.2)) []
           above := if o ≥ p.jamOn then x.above + 1 else 0
           below := if o < p.jamOff then x.below + 1 else 0 }

/-- An engaged adaptive notch follows its line (R283, R284). -/
def followLine (x : Nat × Nat × Int) (s : State) : State :=
  let n := notchOf s x.1 x.2.1
  if x.1 > 5 || x.2.1 > 3 || (notchPar s x.1 x.2.1).mode != 1 || !n.engaged || x.2.2.natAbs > 30000000
      || n.offset == notchSteps x.2.2 then s
  else setNotch x.1 x.2.1 { n with offset := notchSteps x.2.2 } s

/-- A signal starts on its channel, which coasts where the lane carries no samples (R28, R289, R290, R296): not while the cluster
is down (R310). The accumulators' phases at a start are unstated (log entry 1). -/
def startChan (x : Nat × Chan) (s : State) : State :=
  let c := chanOf s x.1
  if clusterOff s || !(c.st == 0 || c.st == 5) || !signalOn s (antOf x.1) x.2.signal then s
  else
    let v := { x.2 with startTide := s.clk.tide, slipRan := s.clk.ran, movedTo := c.movedTo
                        carrierNco := BitVec.ofNat 48 (drawn s), codeNco := BitVec.ofNat 48 (drawn (draw s)) }
    setChan x.1 (if (antenna s (antOf x.1)).lane then v else coast s v) (draw (draw s))

/-- Loop parameters come into use in a channel (R294, R312). -/
def takeLoop (l : LoopPar) (v : Chan) : Chan :=
  { v with tMs := if dataOnly v.signal && !v.bitSync then 1 else l.tMs, dN := l.dN, dF := l.dF, loopSet := none }

/-- What a channel does in the ended tide: its NCOs run, and parameters come into use at an integration boundary (R293,
R312). -/
def chanEdge (s : State) (v : Chan) : Chan :=
  let v := if 1 ≤ v.st && v.st ≤ 4 then
    { v with carrierNco := runNco v.carrierNco v.carrierRate, codeNco := runNco v.codeNco v.codeRate } else v
  match v.loopSet with
  | some (l, n) => if n ≤ s.clk.ran then takeLoop l v else v
  | none => v

/-- An open antenna whose current has come back is normal (R281, R315). -/
def antennaBack (e : EdgeIn) (a : Nat) (s : State) : State :=
  if (antenna s a).ant == 1 && e.loaded.getLsbD a then gnssAntenna a 0 (updAnt a (fun x => { x with ant := 0 }) s) else s

/-- What the baseband does at a tide edge: the lanes' sample counts (R28), gains and indicators of the ended tide (R280,
R285, R286, R311), NCOs (R293), antennas (R281), notches that follow their line (R283), bands without a baseline (R304), channels
that start (R289). -/
def gnssAtEdge (e : EdgeIn) (s : State) : State :=
  let p := s.par.gnss
  let s := each [0, 1] (fun a s => antennaBack e a (updAnt a (fun x => { x with count := e.count.getD a x.count }) s)) s
  let s := each (s.gnss.chans.map (·.1)) (fun c s => updChan c (chanEdge s) s) s
  let s := each [0, 1, 2, 3, 4, 5] (fun r s =>
    let j := (rfOf s r).jammed
    let s := updRf r (rfEdge p e r) s
    if j then count (gStat (r / 3)) 11 s else s) s
  let s := fsBaselines (e.follow.foldl (fun s x => followLine x s) (endChans s))
  s.gnss.starts.foldl (fun s x => startChan x s) (updGnss (fun g => { g with starts := [] }) s)

/-- Stops a signal code of an antenna at the edge (R309). -/
def stopSignal (a row : Nat) (s : State) : State :=
  let sig := signalCodes.getD row 0
  let mine (r : AcqRequest) := r.antenna == a && r.signal == sig
  let gone := s.gnss.running.filter mine ++ s.gnss.queue.filter mine
  let s := gone.foldl (fun s r => giveBack r stCANCELLED s) s
  let mv := s.gnss.moves.filter fun m => antOf m.src == a && (chanOf s m.src).signal == sig
  let s := updGnss (fun g => { g with
    running := g.running.filter (fun r => !mine r), queue := g.queue.filter (fun r => !mine r),
    starts := g.starts.filter (fun x => !(antOf x.1 == a && x.2.signal == sig)),
    moves := g.moves.filter (fun m => !mv.contains m),
    stopped := if g.stopped.contains (a, row) then g.stopped else g.stopped ++ [(a, row)] }) s
  let s := mv.foldl (fun s m => finishOpt m.job stSTATE s) s
  let s := each (chansOf s a) (fun c s => if (chanOf s c).st == 0 || (chanOf s c).signal != sig then s
    else if latchDue s then updChan c (fun v => { v with ending := true }) s else setChan c {} s) s
  let s := if clusterOff s then s else startSearches 8 s
  updStat (gStat a) (StatGroup.mark flPartial) s

/-- Starts a signal code of an antenna at the edge (R62). -/
def startSignal (a row : Nat) (s : State) : State :=
  updStat (gStat a) (StatGroup.mark flPartial) (updGnss (fun g => { g with stopped := g.stopped.erase (a, row) }) s)

/-! ## GNSS service commands -/

/-- GNSS_STATUS (R312). -/
def gnssStatusBytes (s : State) : List Byte :=
  (List.range 6).flatMap (fun r =>
      let x := rfOf s r
      le 1 r ++ le 1 (bit (antenna s (r / 3)).lane) ++ le 1 x.gain ++ le 1 x.jiIn ++ le 1 x.jiOut ++ le 1 (bit x.jammed)
        ++ le 1 ((([0, 1, 2, 3].filter fun n => notchActs s r n)).length) ++ le 1 0)
    ++ [0, 1].flatMap (fun a => le 1 (if (antenna s a).ant = 2 then 0 else biasOf s a) ++ le 1 (antenna s a).ant
        ++ le 2 ((chansOf s a).filter fun c => (chanOf s c).st == 2).length)
    ++ [0, 1, 2].flatMap fun b =>
        let x := fsBand s b
        le 1 x.st ++ le 1 x.last.n ++ le 1 x.run ++ le 1 0

def execGnssStatus (w : Nat) (s : State) : Res :=
  answered s (onCmd w 0x0601 anyPayload (fun _ s => ok w (gnssStatusBytes s) s) s)

/-- GNSS_CHANNEL (R314). -/
def gnssChannelBytes (s : State) (c : Nat) : List Byte :=
  let v := chanOf s c
  le 2 c ++ le 1 v.st ++ le 1 (if v.st = 0 then 0 else v.signal) ++ le 1 v.sat ++ le 1 v.epoch.toNat ++ le 1 v.cn0
    ++ le 1 v.tMs ++ le 1 v.dN ++ le 1 v.dF ++ leI 2 v.lockInd ++ leI 4 v.doppler
    ++ le 2 (if v.st = 0 then 0 else lockTime s v) ++ le 2 v.flags.toNat
    ++ le 1 (bit (s.gnss.moves.any fun m => m.dst == c)) ++ zeros 3 ++ le 8 v.startTide

def execGnssChannel (w : Nat) (s : State) : Res :=
  answered s (onCmd w 0x0602 (fun p => u16 p 0 > 383) (fun p s => ok w (gnssChannelBytes s (u16 p 0)) s) s)

/-- GNSS_FS_STATUS (R312, R313). -/
def gnssFsBytes (s : State) (b : Nat) : List Byte :=
  let x := fsBand s b
  let e := x.last
  le 1 b ++ le 1 x.st ++ le 1 e.n ++ le 1 0 ++ le 8 e.tide ++ le 2 e.f ++ le 2 e.m ++ le 2 e.g ++ leI 2 e.beta
    ++ le 2 e.r.length ++ le 2 0 ++ e.r.flatMap fun y => le 2 y.1 ++ leI 2 (milliCycles y.2.2)

def execGnssFsStatus (w : Nat) (s : State) : Res :=
  answered s (onCmd w 0x0603 (fun p => u8 p 0 > 2) (fun p s =>
    needCluster w (fun s => ok w (gnssFsBytes s (u8 p 0)) s) s) s)

/-- GNSS_STATS (R311, R312). -/
def execGnssStats (w : Nat) (s : State) : Res :=
  answered s (onCmd w 0x0604 (fun p => u8 p 0 > 1) (fun p s => ok w (snapshot (gStat (u8 p 0)) 15 s) s) s)

/-- GNSS_NOTCH_SET (R282, R312, R313). -/
def notchBad (p : List Byte) : Bool :=
  u8 p 0 > 5 || u8 p 1 > 3 || u8 p 2 > 2 || u8 p 3 > 2 || (iAt p 4 4).natAbs > 30000000 || u8 p 8 < 10 || u8 p 8 > 40

def execGnssNotchSet (w : Nat) (s : State) : Res :=
  doneIn [.host, .changes, .out] s (onCmd w 0x0640 notchBad (fun p s => change w (.notch (u8 p 0) (u8 p 1)
    { mode := u8 p 2, width := u8 p 3, offset := iAt p 4 4, depth := u8 p 8 }) s) s)

/-- GNSS_SIGNAL_ENABLE (R309, R312, R313). -/
def gnssSignalF (w : Nat) (p : List Byte) (s : State) : State :=
  let a := u8 p 0
  if a = 0 && u16 p 2 = 0 && s.ref.on then refuse w stSTATE s
  else
    let s := each (List.range 10) (fun i s =>
      let on := (u16 p 2).testBit i
      if on == !s.gnss.stopped.contains (a, i) && !(s.switches.any fun x => x.fn == .gnssSignal a i) then s
      else switch (.gnssSignal a i) on s) s
    ok w (le 8 (nextTide s)) s

def execGnssSignalEnable (w : Nat) (s : State) : Res :=
  doneIn [.host, .switches, .out] s (onCmd w 0x0641 (fun p => u8 p 0 > 1 || u16 p 2 ≥ 1024) (gnssSignalF w) s)

/-- GNSS_MOVE (R65, R301, R303, R312, R313). -/
def gnssMoveF (w : Nat) (p : List Byte) (s : State) : State :=
  let a := u16 p 0
  let b := u16 p 2
  let st := (chanOf s a).st
  if (chanOf s b).st != 0 || reservedCh s b then refuse w stBUSY s
  else if !(st == 1 || st == 2 || st == 3) then refuse w stSTATE s
  else
    let old := s.gnss.moves.find? fun m => m.src == a
    let m : SignalMove := { src := a, dst := b, tide := nextTide s, job := some (jobOf w s) }
    let s := respond w stACCEPTED [] (updGnss (fun g => { g with moves := g.moves.filter (fun x => x.src != a) ++ [m] }) s)
    match old with | some o => finishOpt o.job stCANCELLED s | none => s

def execGnssMove (w : Nat) (s : State) : Res :=
  doneIn [.host, .gnss, .log, .out] s (onCmd w 0x0642 (fun p => u16 p 0 > 383 || u16 p 2 > 383 || antOf (u16 p 0) != antOf (u16 p 2))
    (fun p s => needCluster w (gnssMoveF w p) s) s)

/-- GNSS_BIAS_SET (R281, R312). -/
def execGnssBiasSet (w : Nat) (s : State) : Res :=
  doneIn [.host, .changes, .out] s (onCmd w 0x0643 (fun p => u8 p 0 > 1 || u8 p 1 > 2) (fun p s => change w (.bias (u8 p 0) (u8 p 1)) s) s)

/-- GNSS_FS_SET (R312, R313). -/
def fsSetBad (p : List Byte) : Bool :=
  u16 p 0 < 50 || u16 p 0 > 400 || u8 p 2 < 5 || u8 p 2 > 90 || u8 p 3 < 50 || u8 p 3 > 99 || u8 p 4 < 10 || u8 p 4 > 90
    || u8 p 5 < 4 || u8 p 5 > 20 || u8 p 6 == 0 || u8 p 6 > 10 || u8 p 7 == 0 || u8 p 8 < 5 || u8 p 8 > 45 || u8 p 9 < 25
    || u8 p 9 > 45 || u8 p 4 ≥ u8 p 3

def fsOf (p : List Byte) : FsPar :=
  { rMax := u16 p 0, fMax := u8 p 2, mHi := u8 p 3, gLo := u8 p 4, nMin := u8 p 5, fsFail := u8 p 6, fsPass := u8 p 7,
    elevMin := u8 p 8, cn0Min := u8 p 9 }

def execGnssFsSet (w : Nat) (s : State) : Res :=
  doneIn [.host, .changes, .out] s (onCmd w 0x0644 fsSetBad (fun p s => change w (.fsPar (fsOf p)) s) s)

/-- GNSS_LOOP_SET (R294, R312, R313). -/
def loopBad (p : List Byte) : Bool :=
  u8 p 1 == 0 || u8 p 1 > 3 || !(allowedT (u8 p 0)).contains (u8 p 2) || u8 p 3 == 0 || u8 p 3 > 20 || u16 p 4 < 4
    || u16 p 4 > 120 || u8 p 6 == 0 || u8 p 6 > 100 || u8 p 7 < 2 || u8 p 7 > 64 || u8 p 8 < u8 p 7 || u8 p 8 > 64

def execGnssLoopSet (w : Nat) (s : State) : Res :=
  doneIn [.host, .changes, .out] s (onCmd w 0x0645 loopBad (fun p s => change w (.loop (u8 p 0) (u8 p 1)
    { tMs := u8 p 2, fll := u8 p 3, pll := u16 p 4, dll := u8 p 6, dN := u8 p 7, dF := u8 p 8 }) s) s)

/-- GNSS_JI_CAL (R287, R312, R313). -/
def gnssJiCalF (w : Nat) (p : List Byte) (s : State) : State :=
  let rs := if u8 p 0 = 0xFF then [0, 1, 2, 3, 4, 5] else [u8 p 0]
  if rs.any fun r => calVoid s r then refuse w stSTATE s
  else
    let c : JiCal := { ends := s.clk.ran + 100, job := jobOf w s }
    let old := rs.filterMap fun r => (rfOf s r).cal.map (·.job)
    let s := respond w stACCEPTED [] (each rs (fun r s => updRf r (fun x => { x with cal := some c }) s) s)
    old.eraseDups.foldl (fun s j =>
      if [0, 1, 2, 3, 4, 5].any fun r => (rfOf s r).cal.any fun d => d.job == j then s else finish j stCANCELLED s) s

def execGnssJiCal (w : Nat) (s : State) : Res :=
  doneIn [.host, .gnss, .log, .out] s (onCmd w 0x0646 (fun p => u8 p 0 > 5 && u8 p 0 != 0xFF) (gnssJiCalF w) s)

/-- GNSS_OBS_STREAM (R300, R312, R313). -/
def gnssObsF (w : Nat) (p : List Byte) (s : State) : State :=
  let q := u8 p 0
  let rest := s.gnss.streams.filter fun x => x.qwin != q
  if !winOwnsQwin s w q then refuse w stDENIED s
  else if u8 p 1 = 0 then ok w [] (updGnss (fun g => { g with streams := rest }) s)
  else if rest.length ≥ 4 then refuse w stLIMIT s
  else ok w [] (updGnss (fun g => { g with
    streams := rest ++ [{ sid := callerSid s w, qwin := q, a := u8 p 1, b := u8 p 2 }] }) s)

def execGnssObsStream (w : Nat) (s : State) : Res :=
  doneIn [.host, .gnss, .out] s (onCmd w 0x0647 (fun p => u8 p 0 > 15 || !([0, 1, 2, 4, 20].contains (u8 p 1)) || u8 p 2 == 0 || u8 p 2 > 3)
    (gnssObsF w) s)

/-- Takes a changed GNSS setting (R284, R294, R312): a channel's next integration boundary falls within its T after the edge; where,
is unstated (log entries 1 and 68). -/
def applyGnssSetting (x : Setting) (s : State) : State :=
  let g := s.par.gnss
  let put (g' : GnssPar) (s : State) : State := { s with par := { s.par with gnss := g' } }
  match x with
  | .notch rf n v =>
    let old := notchOf s rf n
    let stays := v.mode == 1 && (notchPar s rf n).mode == 1 && old.engaged
    let s := if old.engaged && !stays then gnssNotch rf n 0 (notchHz old.offset) s else s
    let s := setNotch rf n (if v.mode == 2 then { offset := notchSteps v.offset } else if stays then old else {}) s
    put { g with notches := tput {} g.notches (4 * rf + n) v } s
  | .bias a v =>
    let was := (antenna s a).ant
    let s := updAnt a (fun y => { y with ant := 0 }) (put { g with bias := tput 0 g.bias a v } s)
    if was = 0 then s else gnssAntenna a 0 s
  | .fsPar v => put { g with fs := v } s
  | .loop sig as v =>
    let one (a : Nat) (s : State) : State :=
      if !as.testBit a then s
      else
        let g := s.par.gnss
        let s : State := { s with par := { s.par with gnss := { g with
          loops := tput (loopDefault sig) g.loops (2 * sig + a) v } } }
        each (chansOf s a) (fun c s =>
          let k := chanOf s c
          if k.st == 0 || k.signal != sig then s
          else
            let d := drawn s % ((k.tMs + 9) / 10 + 1)
            draw (setChan c (if d = 0 then takeLoop v k else { k with loopSet := some (v, s.clk.ran + d) }) s)) s
    one 1 (one 0 s)
  | _ => s

end Sys2Proof.Machine
end

