-- ==== Sys2Proof/Machine/Rtcm.lean ====
section
/-! DEFINITION. Sys2Proof/Machine/Rtcm.lean: RTCM 10403.3 messages (R322, R324, R326, R335): the transport frame, the MSM and
station messages that the module sends, and what it reads of a vehicle's. The standard's field layouts stand outside the spec (log
entry 115). -/

namespace Sys2Proof.Machine

/-! ## Bit fields -/

/-- A bit field: its width and its value. -/
abbrev Fld := Nat × Nat

/-- A signed field. -/
def sFld (w : Nat) (v : Int) : Fld := (w, (v % (2 ^ w : Nat)).toNat)

/-- Fields one after the other from the most significant bit of the first byte; the last byte is filled with zeros. -/
def packBits (fs : List Fld) : List Byte :=
  let n := fs.foldl (fun a f => a + f.1) 0
  let v := fs.foldl (fun a f => a * 2 ^ f.1 + f.2 % 2 ^ f.1) 0
  be ((n + 7) / 8) (v * 2 ^ ((8 - n % 8) % 8))

/-- The field of w bits from bit i of a message given as a number of n bits. -/
def bitsAt (v n i w : Nat) : Nat := v / 2 ^ (n - i - w) % 2 ^ w

/-! ## The transport frame (R322) -/

def crc24Bit : Nat → Nat → Nat
  | 0, c => c
  | k + 1, c => crc24Bit k (if c < 2 ^ 23 then 2 * c else (2 * c) ^^^ 0x1864CFB)

/-- CRC-24Q. -/
def crc24q (b : List Byte) : Nat := b.foldl (fun c x => crc24Bit 8 (c ^^^ (x.toNat * 2 ^ 16))) 0

/-- A message in its frame: preamble, six zero bits with the length, and the CRC. -/
def rtcmFrame (m : List Byte) : List Byte :=
  let f := be 1 0xD3 ++ be 2 (m.length % 1024) ++ m
  f ++ be 3 (crc24q f)

/-- The messages of complete frames one after the other; none where a preamble, a length or a CRC is wrong. The fuel is the number
of bytes. -/
def rtcmMessages : Nat → List Byte → Option (List (List Byte))
  | 0, b => if b.isEmpty then some [] else none
  | k + 1, b =>
    if b.isEmpty then some []
    else
      let n := beAt b 1 2
      let f := b.take (n + 3)
      if u8 b 0 != 0xD3 || n ≥ 1024 || b.length < n + 6 || beAt b (n + 3) 3 != crc24q f then none
      else (rtcmMessages k (b.drop (n + 6))).map fun l => (f.drop 3) :: l

/-! ## Scales and identifiers (R324) -/

/-- The MSM signal identifier of the component that a channel correlates. -/
def msmId (sig : Nat) : Nat :=
  match sig with
  | 0x02 | 0x20 => 31
  | 0x03 => 16
  | 0x04 | 0x11 | 0x21 => 23
  | 0x31 => 8
  | _ => 2

/-- The signal code of an MSM signal identifier of a system, where the baseband serves it. -/
def signalOfId (sys id : Nat) : Option Nat := signalCodes.find? fun c => c / 16 == sys && msmId c == id

/-- The system and the MSM type of a message number: GPS, GLONASS, Galileo, BeiDou are 0, 3, 1, 2 as in the signal codes. -/
def msmKind (num : Nat) : Option (Nat × Nat) :=
  let t := num % 10
  if t != 4 && t != 7 then none
  else match num / 10 with
    | 107 => some (0, t)
    | 108 => some (3, t)
    | 109 => some (1, t)
    | 112 => some (2, t)
    | _ => none

/-- The epoch time field of a system for the instant of a number of ms of module time, under a UTC offset: ms of the week, or for
GLONASS the day of the week and the ms of the day of UTC + 3 h (R324). -/
def epochField (sys ms : Nat) (utc : Int) : Nat :=
  let week : Int := 604800000
  let gps : Int := ms - 19000 - 315964800000
  match sys with
  | 3 =>
    let g : Int := ms - 1000 * utc + 10800000 - 315964800000
    let d := (g % week).toNat
    d / 86400000 * 2 ^ 27 + d % 86400000
  | 2 => ((gps - 14000) % week).toNat
  | _ => (gps % week).toNat

/-- The lock time indicator of MSM4 and of MSM7 for a lock of a number of ms. -/
def lockIndicator4 (ms : Nat) : Nat := if ms < 32 then 0 else min 15 (Nat.log2 ms - 4)

def lockIndicator7 (ms : Nat) : Nat :=
  if ms < 64 then ms
  else
    let n := Nat.log2 ms - 5
    if n ≥ 21 then 704 else 32 * (n + 1) + (ms - 2 ^ (n + 5)) / 2 ^ n

/-! ## MSM -/

/-- A cell of an MSM: pseudorange in 2^-29 ms, phase-range in 2^-31 ms where it is valid, lock in ms, half-cycle ambiguity, C/N0 in
0.25 dB-Hz, phase-range rate in 0.1 mm/s, and the GLONASS frequency number. -/
structure MsmCell where
  sat   : Nat
  id    : Nat
  range : Int
  phase : Option Int
  lock  : Nat
  half  : Bool
  cn0   : Nat
  rate  : Int
  glo   : Int
  deriving DecidableEq, Repr, Inhabited

/-- A value in a signed field of w bits, or the field's invalid value where there is none or it does not fit. -/
def cellFld (w : Nat) (v : Option Int) : Fld :=
  match v with
  | some x => if x.natAbs < 2 ^ (w - 1) then sFld w x else (w, 2 ^ (w - 1))
  | none => (w, 2 ^ (w - 1))

/-- The cells of a message by satellite, then by identifier. -/
def cellsInOrder (cs : List MsmCell) : List MsmCell :=
  let sats := (cs.map (·.sat)).foldr insertAscending []
  let ids := (cs.map (·.id)).foldr insertAscending []
  sats.flatMap fun a => ids.filterMap fun i => cs.find? fun c => c.sat == a && c.id == i

/-- An MSM4 or MSM7 (R324): station, epoch time, multiple message bit, IODS 0, clock steering and external clock indicators,
smoothing 0, the masks, then satellite data and signal data. -/
def msmMessage (num station epoch : Nat) (more steered ext : Bool) (cs : List MsmCell) : List Byte :=
  let seven := num % 10 == 7
  let sats := (cs.map (·.sat)).foldr insertAscending []
  let ids := (cs.map (·.id)).foldr insertAscending []
  let l := cellsInOrder cs
  let has (a i : Nat) : Bool := l.any fun c => c.sat == a && c.id == i
  let first (a : Nat) : MsmCell := (l.find? fun c => c.sat == a).getD { sat := a, id := 0, range := 0, phase := none, lock := 0, half := false, cn0 := 0, rate := 0, glo := 0 }
  let rough (a : Nat) : Int := divNear (first a).range (2 ^ 19)
  let speed (a : Nat) : Int := divNear (first a).rate 10000
  let mask (w : Nat) (p : Nat → Bool) : Fld := (w, (List.range w).foldl (fun v i => 2 * v + bit (p (i + 1))) 0)
  let head : List Fld := [(12, num), (12, station), (30, epoch), (1, bit more), (3, 0), (7, 0), (2, bit steered), (2, bit ext), (1, 0),
    (3, 0), mask 64 (sats.contains ·), mask 32 (ids.contains ·)] ++ sats.flatMap fun a => ids.map fun i => (1, bit (has a i))
  let fine (c : MsmCell) : Int := c.range - rough c.sat * 2 ^ 19
  let finePhase (c : MsmCell) : Option Int := c.phase.map fun p => p - rough c.sat * 2 ^ 21
  let ints : List Fld := sats.map fun a => (8, (min 255 (rough a / 1024)).toNat)
  let fracs : List Fld := sats.map fun a => (10, (rough a % 1024).toNat)
  packBits (head ++ (if seven then
      ints ++ sats.map (fun a => (4, if num / 10 == 108 then ((first a).glo + 7).toNat else 0)) ++ fracs
        ++ sats.map (fun a => cellFld 14 (some (speed a)))
        ++ l.map (fun c => cellFld 20 (some (fine c))) ++ l.map (fun c => cellFld 24 (finePhase c))
        ++ l.map (fun c => (10, lockIndicator7 c.lock)) ++ l.map (fun c => (1, bit c.half)) ++ l.map (fun c => (10, 4 * c.cn0))
        ++ l.map (fun c => cellFld 15 (some (c.rate - 10000 * speed c.sat)))
    else
      ints ++ fracs ++ l.map (fun c => cellFld 15 (some (divNear (fine c) 32)))
        ++ l.map (fun c => cellFld 22 ((finePhase c).map (divNear · 4)))
        ++ l.map (fun c => (4, lockIndicator4 c.lock)) ++ l.map (fun c => (1, bit c.half))
        ++ l.map (fun c => (6, min 63 ((c.cn0 + 2) / 4)))))

/-- A measurement entry as a cell (R299, R324): lock is the duration since the last SLIP in tides; the phase-range keeps a whole
number of cycles that the encoder fixes at its lock. -/
def cellOfEntry (e : MeasEntry) (lock align : Int) : MsmCell :=
  let f := carrierHz e.signal e.glo
  { sat := e.sat, id := msmId e.signal, range := divNear (e.range * 2 ^ 19 * 1000) 299792458
    phase := if e.flags.getLsbD 1 then some (divNear ((e.carrier + 65536 * align) * 2 ^ 15 * 1000) f) else none
    lock := (10 * lock).toNat, half := !e.flags.getLsbD 2, cn0 := e.cn0
    rate := divNear (-(e.doppler * 2997924580000)) (256 * f), glo := e.glo }

/-- What the module reads of a vehicle's MSM (R335): its system, its epoch time, and the satellite, the signal code and the C/N0 in
1/16 dB-Hz of each cell that the baseband serves. None of another message. -/
def readMsm (m : List Byte) : Option (Nat × Nat × List ObsSignal) :=
  let n := 8 * m.length
  let v := beAt m 0 m.length
  match msmKind (bitsAt v n 0 12) with
  | none => none
  | some (sys, t) =>
    let sats := (List.range 64).filter fun i => bitsAt v n (73 + i) 1 == 1
    let ids := (List.range 32).filter fun i => bitsAt v n (137 + i) 1 == 1
    let pairs := sats.flatMap fun a => ids.map fun i => (a + 1, i + 1)
    let cells := ((List.range pairs.length).zip pairs).filterMap fun x => if bitsAt v n (169 + x.1) 1 == 1 then some x.2 else none
    let base := 169 + pairs.length + sats.length * (if t == 7 then 36 else 18)
    let cn0At (i : Nat) : Nat := if t == 7 then bitsAt v n (base + 55 * cells.length + 10 * i) 10
      else 16 * bitsAt v n (base + 42 * cells.length + 6 * i) 6
    some (sys, bitsAt v n 24 30, ((List.range cells.length).zip cells).filterMap fun x =>
      (signalOfId sys x.2.2).map fun c => { signal := c, sat := x.2.1, cn0 := cn0At x.1 })

/-! ## Station messages (R326) -/

/-- 1005, or 1006 with the antenna height in 0.1 mm: the indicators of the systems sent, reference-station indicator 0, single
oscillator 1, quarter cycle 0, ITRF realisation year 0. -/
def stationMessage (station : Nat) (gps glo gal : Bool) (arp : Ecef) (height : Option Nat) : List Byte :=
  packBits ([(12, if height.isSome then 1006 else 1005), (12, station), (6, 0), (1, bit gps), (1, bit glo), (1, bit gal), (1, 0),
    sFld 38 arp.x, (1, 1), (1, 0), sFld 38 arp.y, (2, 0), sFld 38 arp.z] ++ match height with | some h => [(16, h)] | none => [])

/-- 1230: bias indicator 0, the C/A biases of L1 and L2, the P-code signals masked out. -/
def biasMessage (station : Nat) (l1 l2 : BitVec 16) : List Byte :=
  packBits [(12, 1230), (12, station), (1, 0), (3, 0), (4, 0b1010), (16, l1.toNat), (16, l2.toNat)]

end Sys2Proof.Machine
end

