-- ==== Sys2Proof/Machine/Reference.lean ====
section
/-! DEFINITION. Sys2Proof/Machine/Reference.lean: the reference station, corrections, the monitor rover, central vehicle
solutions and GNSS time (chapter 10), and the edge of the false-signal states (R307, R308). -/

namespace Sys2Proof.Machine

def updRef (f : Ref → Ref) (s : State) : State := { s with ref := f s.ref }

/-! ## Station states (R316) -/

def refEvent (old new cause : Nat) (s : State) : State := raise 0x0780 (le 1 old ++ le 1 new ++ le 1 cause ++ le 1 0) s

/-- The state FIXED or INHIBITED that the alarms ask for, with the cause of R345 (R332). -/
def fixedOr (s : State) : Nat × Nat :=
  if s.gnss.alarm then (4, 3) else if s.ref.integrity == 2 then (4, 4) else (3, 5)

/-- Enters a state at an edge: FIXED becomes INHIBITED under an alarm (R332), and BASELINE with a monitor ARP lasts one tide
(R319). -/
def enterRef (st cause : Nat) (s : State) : State :=
  let f := fixedOr s
  let x := if st == 3 && f.1 == 4 then f else (st, cause)
  let old := s.ref.st
  let s := updRef (fun r => { r with st := x.1, next := if x.1 == 2 && r.monArp.isSome then some (3, 2) else none, monLast := [],
                                     survey := if x.1 == 1 then r.survey else none }) s
  if old == x.1 then s else refEvent old x.1 x.2 s

/-- Enters a state at this edge, or inside a tide at the next one (R316). -/
def goRef (edge : Bool) (st cause : Nat) (s : State) : State :=
  if edge then enterRef st cause s else updRef (fun r => { r with next := some (st, cause) }) s

/-- Takes the alarms into the state at this edge (R332). -/
def recheckRef (s : State) : State :=
  let f := fixedOr s
  if (s.ref.st == 3 || s.ref.st == 4) && s.ref.st != f.1 then enterRef f.1 f.2 s else s

def setIntegrity (k : Nat) (s : State) : State :=
  if s.ref.integrity == k then s
  else raise 0x0781 (le 1 k ++ zeros 3 ++ le 4 s.ref.hDisc ++ leI 4 s.ref.vDisc)
    (updRef (fun r => { r with integrity := k, overRun := 0, clearRun := 0, floatRun := 0 }) s)

/-- The effects of new coordinates at an edge (R321). -/
def newCoordinates (s : State) : State :=
  let s := setIntegrity 0 s
  updRef (fun r => { r with stationDue := [0, 1, 2, 3], overRun := 0, clearRun := 0, floatRun := 0, monLast := [],
                            vehicles := r.vehicles.map fun v => (v.1, { v.2 with reset := true }) }) s

/-- A fresh survey from this edge or the next one, with the parameters of configuration (R318). -/
def surveyOf (edge : Bool) (s : State) : Survey :=
  { start := if edge then s.clk.tide else nextTide s, startRan := if edge then s.clk.ran else s.clk.ran + 1, minTides := s.par.ref.minTides, maxTides := s.par.ref.maxTides, limitMm := s.par.ref.limitMm }

/-- The station starts or resumes: with its coordinates, else with a survey (R320, R342). -/
def resumeRef (edge : Bool) (cause : Nat) (s : State) : State :=
  match s.ref.refArp, s.ref.monArp with
  | none, _ => goRef edge 1 cause (updRef (fun r => { r with survey := some (surveyOf edge s) }) s)
  | some _, none => goRef edge 2 cause s
  | some _, some _ => goRef edge 3 cause s

/-- The station starts with coordinates that are new: in BASELINE, else with a survey (R319, R320). -/
def freshRef (edge : Bool) (cause : Nat) (s : State) : State :=
  if s.ref.refArp.isNone then resumeRef edge cause s else goRef edge 2 cause s

/-- Starts the reference station, with the cause of R345 (R62, R342). -/
def startRef (edge : Bool) (cause : Nat) (s : State) : State :=
  updStat 14 (StatGroup.mark flPartial) (resumeRef edge cause (updRef (fun r => { r with on := true }) s))

/-- Stops it: its coordinates are kept (R342). -/
def stopRef (edge : Bool) (cause : Nat) (s : State) : State :=
  updStat 14 (StatGroup.mark flPartial) (goRef edge 0 cause (updRef (fun r => { r with on := false }) s))

/-- Starts and stops central positioning; enrolments are kept (R338). -/
def startPos (s : State) : State :=
  updRef (fun r => { r with posOn := true, vehicles := r.vehicles.map fun v => (v.1, { v.2 with reset := true, sets := [] }) }) s

def stopPos (s : State) : State :=
  updRef (fun r => { r with posOn := false, solving := [], ready := [], vehicles := r.vehicles.map fun v => (v.1, { v.2 with sets := [] }) }) s

/-! ## Surveys -/

def maxAxis (e : Ecef) : Nat := max e.x.natAbs (max e.y.natAbs e.z.natAbs)

def surveyDone (result sem : Nat) (s : State) : State := raise 0x0782 (le 1 result ++ zeros 3 ++ le 4 sem) s

/-- An antenna reference point from a mean band-0 phase centre (R318, R319). -/
def arpOf (s : State) (mon : Bool) (pc : Ecef) : Ecef :=
  subEcef pc (offsetEcef pc (tget (0, 0, 0) (if mon then s.par.ref.monPco else s.par.ref.refPco) 0))

def mapEcef (f : Int → Int) (e : Ecef) : Ecef := { x := f e.x, y := f e.y, z := f e.z }

/-- The mean of n vectors from their sum, rounded down (R318, R319). -/
def meanOf (n : Nat) (sum : Ecef) : Ecef := mapEcef (· / (n : Int)) sum

/-- n times the sum of squares less the square of the sum, per axis. -/
def spread (n : Nat) (sum squares : Ecef) : Ecef :=
  { x := n * squares.x - sum.x * sum.x, y := n * squares.y - sum.y * sum.y, z := n * squares.z - sum.z * sum.z }

/-- The least whole number whose square is at least a / b. -/
def rootUp (a b : Nat) : Nat :=
  let q := (a + b - 1) / b
  let r := Nat.sqrt q
  if r * r = q then r else r + 1

/-- The largest standard error of the mean over the axes in mm, rounded up; 0 before the second sample (R318, R344). -/
def semMm (v : Survey) : Nat :=
  if v.n < 2 then 0 else rootUp (maxAxis (spread v.n v.sum v.squares)) (100 * v.n * v.n * (v.n - 1))

/-- The standard error is at most the limit in each axis (R318). -/
def semWithin (v : Survey) : Bool :=
  2 ≤ v.n && maxAxis (spread v.n v.sum v.squares) ≤ (10 * v.limitMm) ^ 2 * (v.n * v.n * (v.n - 1))

/-- The survey with one more sample (R318). -/
def addSample (v : Survey) (p : Ecef) : Survey :=
  { v with n := v.n + 1, sum := addEcef v.sum p, squares := addEcef v.squares (mapEcef (fun a => a * a) p) }

/-- The running cluster has the measurement record of this tide's epoch (R297). -/
def recordNow (s : State) : Bool := s.gnss.recTide == s.clk.tide && s.gnss.recTaken

/-- Distinct numbers of a list, ascending. -/
def ascending (l : List Nat) : List Nat := l.foldr insertAscending []

/-- Satellites of a list of entries: system times 256 plus number. -/
def entrySats (l : List MeasEntry) : List Nat := ascending (l.map fun e => e.signal / 16 * 256 + e.sat)

/-- Entries of the reference antenna in this epoch's record with a pseudorange (R299). -/
def rangeEntries (s : State) : List MeasEntry :=
  if recordNow s then s.gnss.entries.filter fun e => e.ch < 192 && e.flags.getLsbD 0 else []

/-- Satellites whose pseudoranges a survey sample uses: GPS, Galileo and BeiDou (R318). -/
def surveySats (s : State) : Nat := (entrySats ((rangeEntries s).filter fun e => !isGlonass e.signal)).length

/-- The monitor rover's solution of this epoch is due from the encoded corrections, at most one in ten tides (R330). -/
def roverDue (s : State) : Bool :=
  (s.ref.st == 3 || s.ref.st == 4) && !clusterOff s && s.pr.level < 3 && !s.ref.encoded.isEmpty && s.ref.lastCorr == s.clk.tide
    && s.ref.lastSolve + 10 ≤ s.clk.tide + 1 && s.ref.roverAt != s.clk.tide + 1

/-- The monitor rover's solution of this epoch is due in BASELINE (R319). -/
def monitorDue (s : State) : Bool :=
  s.ref.st == 2 && s.ref.monSurvey && s.clk.tide % 10 == 0 && !clusterOff s && s.ref.next.isNone && s.pr.level < 3
    && recordNow s && s.ref.roverAt != s.clk.tide + 1

/-- The position engine is free for the monitor rover: the central solutions are complete or given up (R333). -/
def engineFree (s : State) : Bool := s.ref.solving.isEmpty

/-- It is free for a survey or time solution: the monitor rover has had its turn too (R333). -/
def engineLast (s : State) : Bool := engineFree s && !roverDue s && !monitorDue s

/-- SURVEY_SAMPLE (R318): a single-point solution of the band-0 phase centre from the pseudoranges of so many satellites of this
epoch's record. -/
def execSurveySample (sats : Nat) (pos : Ecef) (s : State) : Res :=
  doneIn [.host, .ref, .out] s (
    match s.ref.survey with
    | none => s
    | some v =>
      if s.ref.st != 1 || s.clk.tide % 100 != 0 || clusterOff s || sats < 6 || surveySats s < sats || s.clk.ran < v.startRan
          || s.ref.next.isSome || !engineLast s then s
      else
        let v := addSample v pos
        let s := updRef (fun r => { r with survey := some v }) s
        if s.clk.ran ≥ v.startRan + v.minTides && semWithin v then
          surveyDone 0 (semMm v) (updRef (fun r => { r with
            refArp := some (arpOf s false (meanOf v.n v.sum)), next := some (2, 1) }) s)
        else s)

/-- SURVEY_TIMEOUT (R318): the survey starts again at the next edge. -/
def execSurveyTimeout (s : State) : Res :=
  doneIn [.host, .ref, .out] s (
    match s.ref.survey with
    | none => s
    | some v =>
      if s.ref.st != 1 || clusterOff s || s.ref.next.isSome || s.clk.ran < v.startRan + v.maxTides then s
      else surveyDone 1 (semMm v) (updRef (fun r => { r with
        survey := some { start := nextTide s, startRan := s.clk.ran + 1, minTides := v.minTides, maxTides := v.maxTides
                         limitMm := v.limitMm } }) s))

def sumEcef (l : List Ecef) : Ecef := l.foldl addEcef { x := 0, y := 0, z := 0 }

/-- The spread of the last 600 monitor solutions (R319). -/
def monSpread (l : List Ecef) : Ecef := spread l.length (sumEcef l) (sumEcef (l.map (mapEcef fun a => a * a)))

/-- MONITOR_SURVEY_SOLUTION (R319): one solution of the band-0 phase centre, with its fix type as in R338. -/
def execMonitorSurveySolution (fix : Nat) (ratio100 : Nat) (pos : Ecef) (s : State) : Res :=
  doneIn [.host, .ref, .out] s (
    if !monitorDue s || !engineFree s then s
    else
      let l := if fix == 3 && ratio100 ≥ 300 then (pos :: s.ref.monLast).take 600 else []
      let s := updRef (fun r => { r with monLast := l, monFix := fix % 4, roverAt := s.clk.tide + 1 }) s
      let d := maxAxis (monSpread l)
      if l.length < 600 || d > 50 ^ 2 * (600 * 599) then s
      else
        let arp := arpOf s true (meanOf 600 (sumEcef l))
        let base := match s.ref.refArp with
          | some a => lengthOk (subEcef (phaseCentre s true 0 arp) (phaseCentre s false 0 a))
          | none => false
        let mm := rootUp d (100 * 600 * 599)
        if base then surveyDone 2 mm (updRef (fun r => { r with monArp := some arp, next := some (3, 2) }) s)
        else surveyDone 3 mm (updRef (fun r => { r with monLast := [] }) s))

/-! ## Corrections -/

def mountOf (s : State) (m : Nat) : MountPar := tget {} s.par.ref.mounts m

/-- An entry enters an MSM (R325). -/
def msmEntry (s : State) (e : MeasEntry) : Bool :=
  let b := (fsBand s (bandOf e.signal)).st
  recordNow s && e.ch < 192 && e.st == 2 && e.flags.getLsbD 0 && !e.flags.getLsbD 5 && Config.rtcmSignal e.signal
    && Config.satElev (e.signal / 16) e.sat s.gnss.recTide ≥ s.par.ref.maskDeg
    && (b == 1 || b == 2 || (b == 0 && !s.par.ref.requireFs))

/-- The message bodies of one system: its entries, split where they exceed 64 cells (R324). -/
def msmParts (es : List MeasEntry) : List (List MeasEntry) :=
  let sats := ascending (es.map (·.sat))
  let sigs := ascending (es.map (·.signal))
  if es.isEmpty then []
  else if sats.length * sigs.length ≤ 64 then [es]
  else
    let first := sats.take (64 / sigs.length)
    [es.filter (fun e => first.contains e.sat), es.filter fun e => !first.contains e.sat]

/-- Base message numbers of MSM4 by system in the order of R326: GPS, GLONASS, Galileo, BeiDou. -/
def msmSystems : List (Nat × Nat) := [(0, 1074), (3, 1084), (1, 1094), (2, 1124)]

/-- An entry as an MSM encodes it, with the lock duration since the last SLIP, not saturating (R324). -/
def msmCell (s : State) (e : MeasEntry) : MsmCell :=
  let n := (chanOf s e.ch).slipRan
  cellOfEntry e ((s.clk.ran : Int) - n) (Config.phaseAlign e.ch n)

/-- The MSM of a system's entries in its frame (R322, R324): the clock is steered while LOCKED, and external with 10 MHz. -/
def msmOf (s : State) (sys num k : Nat) (more : Bool) (es : List MeasEntry) : List Byte :=
  rtcmFrame (msmMessage num s.par.ref.stationId (epochField sys (10 * k) (utcOfs s.rtc)) more (s.time.st == 2) s.time.ext10m
    (es.map (msmCell s)))

/-- The MSM messages of an epoch, the multiple bit set on all but the last (R324, R326). -/
def msmMessages (s : State) (m : MountPar) (k : Nat) : List Byte :=
  let all := msmSystems.flatMap fun (sys, num) =>
    (msmParts (s.gnss.entries.filter fun e => e.signal / 16 == sys && msmEntry s e)).map fun es =>
      (sys, num + (m.msm - 4), es)
  ((List.range all.length).zip all).flatMap fun (i, sys, num, es) => msmOf s sys num k (i + 1 < all.length) es

/-- The station messages of an epoch (R326). -/
def stationMessages (s : State) (m : MountPar) : List Byte :=
  let arp := s.ref.refArp.getD { x := 0, y := 0, z := 0 }
  let sent (sys : Nat) : Bool := s.gnss.entries.any fun e => e.signal / 16 == sys && msmEntry s e
  rtcmFrame (stationMessage s.par.ref.stationId (sent 0) (sent 3) (sent 1) arp (if m.station = 1 then some s.par.ref.refHeight else none))
    ++ (if sent 3 then rtcmFrame (biasMessage s.par.ref.stationId (Config.gloBias 0) (Config.gloBias 1)) else [])

/-- A correction epoch of a mountpoint falls on the running tide (R323). -/
def mountDue (s : State) (m : Nat) : Bool :=
  let x := mountOf s m
  let rate := min x.rate (if s.pr.level ≥ 2 then 5 else if s.pr.level = 1 then 10 else x.rate)
  rate != 0 && s.clk.tide % (100 / rate) == 0 && (s.ref.st == 3 || s.ref.st == 4)

/-- Station messages are due (R326): an edge divisible by station_tides has passed since the last ones. -/
def stationDue (s : State) (m : Nat) : Bool :=
  let n := (mountOf s m).stationTides
  let last := tget 0 s.ref.stationAt m
  s.ref.stationDue.contains m || last = 0 || (last - 1) / n < s.clk.tide / n

/-- Bytes of ASCII text. -/
def ascii (t : List Char) : List Byte := t.map fun c => BitVec.ofNat 8 c.toNat

def crlf : List Byte := [13, 10]

/-- A number in hexadecimal digits; the fuel is more than its digits. -/
def hexDigits : Nat → Nat → List Char
  | 0, _ => []
  | k + 1, n => (if n < 16 then [] else hexDigits k (n / 16)) ++ [(n % 16).digitChar]

/-- A chunk of HTTP/1.1's chunked transfer encoding (R327). -/
def chunk (b : List Byte) : List Byte := ascii (hexDigits 8 b.length) ++ crlf ++ b ++ crlf

/-- Data to a caster client: in a chunk for one of version 2.0 (R327). -/
def ntripData (two : Bool) (b : List Byte) : List Byte := if two then chunk b else b

/-- What a caster connection is sent waits for its frame port, in class 5 (R327, R402). -/
def toCaster (port conn : Nat) (b : List Byte) (s : State) : State :=
  updRef (fun r => { r with outbox := r.outbox ++ [{ port, cls := 5, out := .ntrip conn b }] }) s

/-- Sends an encoded epoch to caster clients and host streams (R327, R329). -/
def sendEpoch (m : Nat) (bytes : List Byte) (s : State) : State :=
  let s := (s.ref.clients.filter fun c => c.mount == m).foldl (fun s c => toCaster c.port c.conn (ntripData c.two bytes) s) s
  s.ref.streams.foldl (fun s x =>
    if x.a != 1 || x.b != m || !ownsQwin s x.qwin x.sid then s
    else
      let r := feed x.qwin 3 attCluster bytes s
      if r.1 then r.2 else count (gStat 0) 14 r.2) s

/-- The encoded messages of a mountpoint's epoch, in their order (R326). -/
def correctionBytes (s : State) (mount : Nat) : List Byte :=
  (if stationDue s mount then stationMessages s (mountOf s mount) else []) ++ msmMessages s (mountOf s mount) s.clk.tide

/-- CORRECTION_ENCODE (R51, R323, R326, R332): the encoded messages pass the berth pool, which may refuse them (R424). -/
def execCorrectionEncode (mount us : Nat) (s : State) : Res :=
  doneIn [.clk, .host, .stats, .pool, .ref, .out] s (
    if mount > 3 || clusterOff s || !mountDue s mount || s.ref.encoded.any (fun x => x.1 == mount) then s
    else
      let s := dueNow 5 s
      if us > 6000 then lateArrival 5 1 s
      else
        let k := s.clk.tide
        let st := stationDue s mount
        let bytes := correctionBytes s mount
        let sats := (entrySats (s.gnss.entries.filter (msmEntry s))).length
        let p := passData 190 attCluster (berths bytes.length) s
        if !p.1 then p.2 else
        let s := p.2
        let s := updRef (fun r => { r with
          encoded := r.encoded.filter (fun x => x.1 != mount) ++ [(mount, bytes)], lastCorr := k, sats,
          stationAt := if st then tput 0 r.stationAt mount (k + 1) else r.stationAt,
          stationDue := r.stationDue.filter fun x => x != mount }) s
        let s := inTime 5 (count 14 0 s)
        if s.ref.st == 4 then count 14 1 s else sendEpoch mount bytes s)

/-! ## The monitor rover -/

/-- A solution's discrepancy at the monitor position: the square of the horizontal part, and the vertical part, in 0.1 mm (R331). -/
def discrepancy (s : State) (pos : Ecef) : Nat × Int :=
  let c := phaseCentre s true 0 (s.ref.monArp.getD { x := 0, y := 0, z := 0 })
  let d := subEcef pos c
  let v := divNear (dotEcef d (localAxes c).2.2) 1000000000
  ((dotEcef d d - v * v).toNat, v)

/-- The integrity state after a solution, by the square of its horizontal and by its vertical discrepancy in 0.1 mm (R331). -/
def judgeIntegrity (fix h2 : Nat) (v : Int) (s : State) : State :=
  let p := s.par.ref
  let r := s.ref
  if fix != 3 then
    let s := updRef (fun r => { r with floatRun := r.floatRun + 1, clearRun := 0 }) s
    if r.integrity == 1 && r.floatRun + 1 ≥ 600 then setIntegrity 0 s else s
  else if h2 > (10 * p.hLim) ^ 2 || v.natAbs > 10 * p.vLim then
    let s := count 14 4 (updRef (fun r => { r with overRun := r.overRun + 1, clearRun := 0, floatRun := 0 }) s)
    if r.overRun + 1 ≥ p.nAlarm then setIntegrity 2 s else s
  else
    let s := updRef (fun r => { r with clearRun := r.clearRun + 1, overRun := 0, floatRun := 0 }) s
    if r.clearRun + 1 ≥ p.nClear then setIntegrity 1 s else s

/-- The encoded bytes of this epoch that the rover decodes: those of a mountpoint with MSM7 where there is one (R330). -/
def roverBytes (s : State) : List Byte :=
  ((s.ref.encoded.find? fun x => (mountOf s x.1).msm == 7).orElse fun _ => s.ref.encoded.head?).elim [] (·.2)

/-- MONITOR_ROVER_SOLVE (R330, R331, R332): from T+6,000 to T+9,000 µs, of the epoch's bytes as they decode; a later one is given
up. -/
def execMonitorRoverSolve (fix : Nat) (pos : Ecef) (us : Nat) (s : State) : Res :=
  doneIn [.host, .stats, .ref, .out] s (
    let k := s.clk.tide
    if !roverDue s || !engineFree s || us < 6000 || (rtcmMessages (roverBytes s).length (roverBytes s)).isNone then s
    else if us ≥ 9000 then updRef (fun r => { r with roverAt := k + 1 }) s
    else
      let d := discrepancy s pos
      let s := count 14 2 (updRef (fun r => { r with
        monFix := fix % 4, hDisc := (Nat.sqrt d.1 + 5) / 10, vDisc := divNear d.2 10, lastSolve := k + 1, roverAt := k + 1 }) s)
      let s := judgeIntegrity fix d.1 d.2 (if fix == 3 then count 14 3 s else s)
      let f := fixedOr s
      if s.ref.st != f.1 then updRef (fun r => { r with next := some f }) s else s)

/-- FS_STATE_EDGE (R153, R307, R308, R332). -/
def execFsStateEdge (s : State) : Res :=
  doneIn [.clk, .host, .time, .gnss, .ref, .log, .out] s (
    let was := s.gnss.alarm
    let s := each [0, 1, 2] takeEval s
    let now := [0, 1, 2].any fun b => (fsBand s b).st == 3
    let s := updGnss (fun g => { g with alarm := now }) s
    let s := if now && !was && (srcOf s 2).valid then invalidate 2 s else s
    recheckRef s)

/-! ## Central vehicle solutions -/

def slotOfVehicle (s : State) (v : Nat) : Option Nat :=
  match tget 0 s.ref.slots v with | 0 => none | n + 1 => some n

/-- The phase of a slot (R334). -/
def phaseOf (slot : Nat) : Nat := 5 * (slot % 2)

def posVehicle (s : State) (v : Nat) : PosVehicle := tget {} s.ref.vehicles v

def updPos (v : Nat) (f : PosVehicle → PosVehicle) (s : State) : State :=
  updRef (fun r => { r with vehicles := tput {} r.vehicles v (f (posVehicle s v)) }) s

/-- The observation key of a vehicle (R335, R338). -/
def obsKeyOf (s : State) (v : Nat) : List Byte := key16 (tget ({} : VehicleCfg) s.par.fleet.vehicles v).obsKey

/-- The nonce of an observation datagram (kind 0) and of a solution record (kind 1), from the tide and seq fields as they
stand in it (R335, R338). -/
def obsNonce (v kind : Nat) (tide seq : List Byte) : List Byte := le 1 v ++ le 1 kind ++ le 2 0 ++ tide ++ seq ++ le 2 0

/-- The tag of an observation datagram verifies (R335). -/
def obsTagOk (s : State) (d : List Byte) : Bool :=
  let n := 16 + u16 d 10
  gcmTag (obsKeyOf s (u8 d 3)) (obsNonce (u8 d 3) 0 ((d.drop 4).take 4) ((d.drop 8).take 2)) (d.take n) == (d.drop n).take 16

/-- The messages of an observation datagram (R335). -/
def obsMessages (d : List Byte) : Option (List (List Byte)) := rtcmMessages (u16 d 10) (slice d 16 (u16 d 10))

/-- Its MSMs: system, epoch time and signals. -/
def obsMsms (d : List Byte) : List (Nat × Nat × List ObsSignal) := ((obsMessages d).getD []).filterMap readMsm

/-- Every MSM names the instant of epoch k to the millisecond (R335, R336). -/
def obsEpochOk (s : State) (d : List Byte) (k : Nat) : Bool :=
  (obsMsms d).all fun m => m.2.1 == epochField m.1 (10 * k) (utcOfs s.rtc)

/-- The observations held of a vehicle for an epoch (R336). -/
def obsSet (s : State) (v k : Nat) : Option ObsSet := (posVehicle s v).sets.find? fun x => x.tide == k

/-- The sets of a vehicle with one more datagram's frames for an epoch: at most four datagrams (R335, R336; log entry 113). -/
def addObs (k now : Nat) (sigs : List ObsSignal) (l : List ObsSet) : List ObsSet :=
  let x := (l.find? fun x => x.tide == k).getD { tide := k }
  let y := if x.parts ≥ 4 then x else { x with parts := x.parts + 1, obs := x.obs ++ sigs }
  (l.filter fun x => x.tide != k && x.tide ≥ now) ++ [y]

/-- receive(d) of R336: the signals of its frames join those held for the epoch. Its cut-off has passed too when the engine has
started on the epoch (R337). -/
def receiveObs (d : List Byte) (us : Nat) (s : State) : State :=
  let v := u8 d 3
  let seq := u16 d 8
  let n := u16 d 10
  let k := fullTide s.clk.tide (u32 d 4)
  let newer := match (posVehicle s v).lastSeq with
    | none => true
    | some l => let x := (seq + 65536 - l) % 65536
      1 ≤ x && x ≤ 32767
  if u16 d 0 != 0x9E50 || u8 d 2 != 1 || n < 6 || n > 1440 || d.length != 32 + n || (obsMessages d).isNone then count 14 6 s
  else match slotOfVehicle s v with
    | none => count 14 7 s
    | some slot =>
      if !obsTagOk s d || !newer then count 14 8 s
      else if k % 10 != phaseOf slot || !obsEpochOk s d k then count 14 9 s
      else if s.clk.tide > k || (s.clk.tide == k && (us > 3000 || s.ref.solveTide == k)) then count 14 10 s
      else count 14 5 (updPos v (fun x => { x with
        lastSeq := some seq, obsTide := k, sets := addObs k s.clk.tide ((obsMsms d).flatMap (·.2.2)) x.sets }) s)

/-- OBS_DATAGRAM_RX (R335, R336): on a field port, to the configured UDP port. -/
def execObsDatagramRx (port udp : Nat) (d : List Byte) (us : Nat) (s : State) : Res :=
  doneIn [.stats, .ref] s (
    if clusterOff s || !s.ref.posOn || port < 2 || port > 9 || udp != s.par.ref.obsPort then s else receiveObs d us s)

/-- Vehicles enrolled in slots of the phase of a tide. -/
def phaseVehicles (s : State) (k : Nat) : List Nat :=
  let top := if s.pr.level ≥ 2 then 0 else if s.pr.level = 1 then 48 else 96
  (s.ref.slots.filter fun x => match x.2 with | 0 => false | n + 1 => n < top && k % 10 == phaseOf n).map (·.1)

/-- A signal of a vehicle is usable at an epoch: the reference antenna has it too, and it is not SUSPECT (R337). -/
def usableObs (s : State) (o : ObsSignal) : Bool :=
  recordNow s && s.gnss.entries.any fun e =>
    e.ch < 192 && e.signal == o.signal && e.sat == o.sat && e.flags.getLsbD 0 && !e.flags.getLsbD 5

/-- Inserts a signal by falling C/N0, behind those of the same C/N0. -/
def insertObs (o : ObsSignal) : List ObsSignal → List ObsSignal
  | [] => [o]
  | x :: l => if x.cn0 < o.cn0 then o :: x :: l else x :: insertObs o l

/-- The signals that the engine uses: the 64 usable ones with the highest C/N0 (R333). -/
def engineObs (s : State) (l : List ObsSignal) : List ObsSignal :=
  ((l.filter (usableObs s)).foldl (fun a o => insertObs o a) []).take 64

/-- Elements of a solution's state: position and velocity, and an ambiguity for each signal (R333). -/
def stateElements (l : List ObsSignal) : Nat := 6 + l.length

/-- Code and phase measurements of a solution (R333). -/
def measurements (l : List ObsSignal) : Nat := 2 * l.length

/-- Satellites of a list of signals. -/
def satsOf (l : List ObsSignal) : Nat := (ascending (l.map fun o => o.signal / 16 * 256 + o.sat)).length

/-- CENTRAL_SOLVE (R333, R337): at T+3,000 µs, once in a tide. -/
def execCentralSolve (s : State) : Res :=
  doneIn [.clk, .ref] s (
    let k := s.clk.tide
    if clusterOff s || !s.ref.posOn || k % 5 != 0 || s.ref.solveTide == k then s
    else
      let vs := phaseVehicles s k
      let s := if vs.isEmpty then s else dueNow 6 s
      let go := vs.filterMap fun v => (obsSet s v k).map fun x => (v, engineObs s x.obs)
      let s := updRef (fun r => { r with solving := go, solveTide := k }) s
      each vs (fun v s => updPos v (fun x => { x with sets := x.sets.filter fun y => y.tide > k }) s) s)

/-- Fix and reason of a record made with a number of satellites (R338). -/
def fixReason (s : State) (x : Solution) (sats : Nat) : Nat × Nat :=
  if s.gnss.alarm then (0, 1) else if s.ref.integrity == 2 then (0, 2)
  else if !(s.ref.st == 3 || s.ref.st == 4) then (0, 3)
  else if sats < 5 then (0, 4) else (x.fix, 0)

/-- Bytes 0 to 63 of a solution record (R338). -/
def solutionBytes (s : State) (x : Solution) (sats : Nat) : List Byte :=
  let v := posVehicle s x.vehicle
  let f := fixReason s x sats
  let p := if f.1 = 0 then { x := 0, y := 0, z := 0 } else x.pos
  le 2 0x9E51 ++ le 1 1 ++ le 1 x.vehicle ++ le 4 s.ref.solveTide ++ le 2 v.recSeq ++ le 1 f.1 ++ le 1 f.2 ++ le 1 sats
    ++ le 1 (bit v.reset) ++ le 2 (if f.1 = 3 then min x.ratio 65535 else 0) ++ leI 8 p.x ++ leI 8 p.y ++ leI 8 p.z
    ++ leI 4 x.vel.x ++ leI 4 x.vel.y ++ leI 4 x.vel.z ++ le 2 (min x.sigmaH 65535) ++ le 2 (min x.sigmaV 65535) ++ zeros 8

/-- POS_FIX_CHANGE, at most 16 in a tide (R345). -/
def fixChange (v old new reason : Nat) (s : State) : State :=
  if old == new then s
  else if s.ref.fixEvents < 16 then
    raise 0x0783 (le 1 v ++ le 1 old ++ le 1 new ++ le 1 reason) (updRef (fun r => { r with fixEvents := r.fixEvents + 1 }) s)
  else updRef (fun r => { r with otherFix := r.otherFix + 1, toFixed := r.toFixed + bit (new == 3),
                                 toFloat := r.toFloat + bit (new == 2), toNone := r.toNone + bit (new == 0) }) s

/-- A solution record with its tag (R338). -/
def solutionRecord (s : State) (x : Solution) (sats : Nat) : List Byte :=
  let b := solutionBytes s x sats
  b ++ gcmTag (obsKeyOf s x.vehicle)
    (obsNonce x.vehicle 1 (le 4 s.ref.solveTide) (le 2 (posVehicle s x.vehicle).recSeq)) b

/-- Sends the record of one solution: to the vehicle, the fleet service and host streams (R337, R338, R329). -/
def sendSolution (y : Solution × Nat) (s : State) : State :=
  let x := y.1
  let v := x.vehicle
  let b := solutionBytes s x y.2
  let rec_ := solutionRecord s x y.2
  let f := fixReason s x y.2
  let old := (posVehicle s v).fix
  let c := tget ({} : VehicleCfg) s.par.fleet.vehicles v
  let s := updPos v (fun y => { y with recSeq := (y.recSeq + 1) % 65536, reset := false, fix := f.1, reason := f.2,
                                       record := b }) s
  let s := count 14 11 (sendDatagram v c.fieldPort c.addr c.posUdp rec_ s)
  let s := if f.1 == 3 then count 14 12 s else s
  let s : State := { s with fleet := { s.fleet with solutions := tput [] s.fleet.solutions v rec_ } }
  let s := s.ref.streams.foldl (fun s y =>
    if y.a != 2 || !ownsQwin s y.qwin y.sid then s
    else
      let r := feed y.qwin 4 attCluster rec_ s
      if r.1 then r.2 else count (gStat 0) 14 r.2) s
  fixChange v old f.1 f.2 s

/-- The records of an epoch leave together (R337). -/
def sendReady (s : State) : State :=
  s.ref.ready.foldl (fun s y => sendSolution y s) (updRef (fun r => { r with ready := [] }) s)

/-- The satellites that the engine used for a vehicle of this tide. -/
def usedSats (s : State) (v : Nat) : Nat :=
  match s.ref.solving.find? fun x => x.1 == v with | some x => satsOf x.2 | none => 0

/-- CENTRAL_SOLUTIONS_COMPLETE (R337, R338): those later than T+9,000 µs are discarded; the records leave with the phase's
last solution. -/
def execCentralSolutionsComplete (sols : List Solution) (us : Nat) (s : State) : Res :=
  doneIn [.clk, .host, .stats, .pool, .ports, .ref, .fleet, .out] s (
    let mine := sols.filter fun x => s.ref.solving.any fun y => y.1 == x.vehicle
    if clusterOff s || !s.ref.posOn || s.ref.solveTide != s.clk.tide || mine.isEmpty then s
    else
      let done_ := mine.map fun x => (x, usedSats s x.vehicle)
      let s := updRef (fun r => { r with solving := r.solving.filter fun v => !(mine.any fun x => x.vehicle == v.1) }) s
      let s := if us > 9000 then lateArrival 6 mine.length s else inTime 6 (updRef (fun r => { r with ready := r.ready ++ done_ }) s)
      if s.ref.solving.isEmpty then sendReady s else s)

/-! ## GNSS time -/

/-- Entries that a time solution takes: no SUSPECT signal, and no band in ALARM (R339). -/
def timeEntries (s : State) : List MeasEntry :=
  (rangeEntries s).filter fun e => !e.flags.getLsbD 5 && (fsBand s (bandOf e.signal)).st != 3

/-- A pseudorange in 2^-10 m less the receiver group delay of its band and the antenna cable delay, both in 0.1 ns (R339). -/
def timeRange (s : State) (e : MeasEntry) : Int :=
  e.range - divNear ((Config.groupDelay (bandOf e.signal) + s.par.ref.cableDelay) * 299792458 * 1024) 10000000000

/-- The reference phase centre, fixed or the running survey mean (R339). -/
def timeCentre (s : State) : Option Ecef :=
  if s.ref.st != 1 then s.ref.refArp.map (phaseCentre s false 0)
  else match s.ref.survey with
    | some v => if v.n = 0 then none else some (meanOf v.n v.sum)
    | none => none

/-- The measurement of a time solution: TAI, 19 s ahead of GPS time, less module time, in ns (R339). -/
def timeOffset (s : State) (c : Ecef) : Int :=
  Config.gpsTime ((timeEntries s).map fun e => (e.signal / 16, e.sat, timeRange s e)) c s.clk.tide + 19000000000

/-- TIME_SOLUTION (R339): of so many satellites and GPS satellites of this epoch's record, with its standard deviation. -/
def execTimeSolution (sats gpsSats sdNs : Nat) (s : State) : Res :=
  doneIn [.clk, .host, .time, .ref, .log, .out, .free] s (
    let have_ := entrySats (timeEntries s)
    match timeCentre s with
    | none => s
    | some c =>
      if s.ref.st == 0 || clusterOff s || s.clk.tide % 100 != 0 || sats < 5 || have_.length < sats || gpsSats < 2
          || (have_.filter (· < 256)).length < gpsSats || sdNs > 100 || s.gnss.alarm || !engineLast s then s
      else measure 2 (timeOffset s c) (updRef (fun r => { r with timeEpochs := (s.clk.tide :: r.timeEpochs).take 3 }) s))

/-- Takes the UTC parameters while LOCKED to GNSS (R181, R340). -/
def takeUtc (s : State) : State :=
  match s.ref.utcSet with
  | none => s
  | some (cur, nxt, at_) =>
    if s.time.st == 2 && s.time.src == 2 then
      let r := { s.rtc with ofs := BitVec.ofInt 16 cur }
      let r := if nxt == cur then r else { r with next := BitVec.ofInt 16 nxt, at_ := at_ % 2 ^ 48, armed := true }
      { s with rtc := r, ref := { s.ref with utcSet := none } }
    else s

/-- The RTC second at the end of day DN of week WNLSF under the offset before the change (R174, R340): the week is the one nearest
to the current one with that number modulo 256. -/
def endOfDay (s : State) (dtLs : Int) (d : Nat × Nat) : Nat :=
  let week := (s.clk.tide / 100 - 315964819) / 604800
  let near := week + 128 - (week + 128 + 256 - d.1 % 256) % 256
  ((315964800 : Int) + (604800 * near + 86400 * d.2 : Nat) + dtLs + 19 - rtcEpoch).toNat

/-- UTC_PARAMETERS_DECODE (R181, R340): ΔtLS, ΔtLSF, and week WNLSF with day DN. -/
def execUtcParametersDecode (gps suspect : Bool) (dtLs dtLsf : Int) (endDay : Nat × Nat) (s : State) : Res :=
  doneIn [.rtc, .ref] s (
    if clusterOff s || suspect || (!gps && s.ref.gpsUtc) then s
    else takeUtc (updRef (fun r => { r with
      gpsUtc := r.gpsUtc || gps, utcSet := some (dtLs + 19, dtLsf + 19, endOfDay s dtLs endDay) }) s))

/-! ## The caster -/

/-- The head of a caster answer (R327; log entry 34): in version 2.0 an HTTP/1.1 status line, the version and chunked transfer
encoding; in version 1.0 the line of NTRIP 1.0 where it has one. -/
def ntripHead (two : Bool) (status : Nat) (ok1 : List Char) : List Byte :=
  let code := [(status / 100).digitChar, (status / 10 % 10).digitChar, (status % 10).digitChar]
  if two then
    ascii ("HTTP/1.1 ".toList ++ code) ++ crlf ++ ascii "Ntrip-Version: Ntrip/2.0".toList ++ crlf
      ++ ascii "Transfer-Encoding: chunked".toList ++ crlf ++ crlf
  else if status = 200 then ascii ok1 ++ crlf ++ crlf
  else ascii ("HTTP/1.0 ".toList ++ code) ++ crlf ++ crlf

/-- The sourcetable: one STR record of each enabled mountpoint (R327). -/
def sourcetable (s : State) : List Byte :=
  ([0, 1, 2, 3].flatMap fun m =>
    if (mountOf s m).rate = 0 then [] else ascii "STR;".toList ++ Config.strFields m ++ crlf) ++ ascii "ENDSOURCETABLE".toList ++ crlf

/-- The answer of a mountpoint: it does not exist, the user is not let in, or the connection is a client (R327). -/
def askMount (port conn : Nat) (two : Bool) (m : Nat) (auth : Option Nat) (s : State) : State :=
  let x := mountOf s m
  let say (status : Nat) (s : State) : State := toCaster port conn (ntripHead two status "ICY 200 OK".toList) s
  if m > 3 || x.rate = 0 then say 404 s
  else if x.auth && !(match auth with | some u => s.par.ref.users.contains u | none => false) then say 401 s
  else say 200 (updRef (fun y => { y with
    clients := y.clients.filter (fun c => c.conn != conn) ++ [{ conn, port, mount := m, two }] }) s)

/-- A request that opens a connection, and its TCP port and version (R327). -/
def opensOf (r : NtripReq) : Option (Nat × Bool) :=
  match r with | .sourcetable t v | .mount t v _ _ | .serverRole t v => some (t, v) | _ => none

/-- NTRIP_REQUEST (R327, R328): GGA sentences are read and ignored. -/
def execNtripRequest (port conn : Nat) (r : NtripReq) (s : State) : Res :=
  doneIn [.stats, .ref, .out] s (
    if !hostUp s || !s.par.ref.casterPorts.getLsbD port || !(portOf s port).enabled
        || (match opensOf r with | some x => x.1 != s.par.ref.casterTcp | none => false) then s
    else if (opensOf r).isSome && (s.ref.clients.filter fun c => c.conn != conn).length ≥ 32 then
      count 14 13 (toCaster port conn (ntripHead ((opensOf r).any (·.2)) 503 []) s)
    else match r with
      | .sourcetable _ two =>
        toCaster port conn (ntripHead two 200 "SOURCETABLE 200 OK".toList ++ ntripData two (sourcetable s)
          ++ (if two then chunk [] else [])) s
      | .mount _ two m auth => askMount port conn two m auth s
      | .serverRole _ two => toCaster port conn (ntripHead two 501 []) s
      | .gga => s
      | .close => updRef (fun y => { y with clients := y.clients.filter fun c => c.conn != conn }) s
      | .backlog n =>
        if !(s.ref.clients.any fun c => c.conn == conn) then s
        else if n > 65536 then
          count 14 14 (updRef (fun y => { y with clients := y.clients.filter fun c => c.conn != conn }) s)
        else updRef (fun y => { y with clients := y.clients.map fun c => if c.conn == conn then { c with unsent := n } else c }) s)

/-! ## Edges and the cluster -/

/-- What the reference station does at a tide edge: a state that waits, the end of GNSS time, UTC parameters, and
POS_FIX_SUMMARY of the ended tide, raised before the number changes (R316, R339, R345). -/
def refSummary (s : State) : State :=
  let r := s.ref
  let s := if r.otherFix = 0 then s
    else raise 0x0784 (le 2 r.otherFix ++ le 2 r.toFixed ++ le 2 r.toFloat ++ le 2 r.toNone) s
  updRef (fun r => { r with fixEvents := 0, otherFix := 0, toFixed := 0, toFloat := 0, toNone := 0, encoded := [] }) s

def refAtEdge (s : State) : State :=
  let s := match s.ref.next with
    | some (st, cause) =>
      enterRef st cause s
    | none => s
  let s := match s.ref.timeEpochs with
    | e :: _ => if s.clk.tide > e + 300 then
        updRef (fun r => { r with timeEpochs := [] }) (if (srcOf s 2).valid then invalidate 2 s else s) else s
    | [] => s
  takeUtc s

/-- What stops with the cluster (R36, R304, R320): GNSS time, the bands, solutions under way. -/
def refDown (s : State) : State :=
  let s := fsDown s
  let s := if (srcOf s 2).valid then invalidate 2 s else s
  updRef (fun r => { r with solving := [], ready := [], timeEpochs := [], next := none, encoded := [] }) s

/-- The station resumes at the restore in BASELINE or FIXED with its coordinates, else with a fresh survey (R320). -/
def refRestored (s : State) : State := if s.ref.on && s.ref.next.isNone then resumeRef false 7 s else s

/-! ## Reference service commands -/

def ecefBytes (e : Ecef) : List Byte := leI 8 e.x ++ leI 8 e.y ++ leI 8 e.z

def zeroEcef : Ecef := { x := 0, y := 0, z := 0 }

def enrolled (s : State) : Nat := (s.ref.slots.filter fun x => x.2 != 0).length

/-- REF_STATUS (R344). -/
def refStatusBytes (s : State) : List Byte :=
  let r := s.ref
  let v := r.survey
  le 1 r.st ++ le 1 r.integrity ++ le 1 r.monFix ++ le 1 r.sats ++ le 2 s.par.ref.stationId ++ le 1 (enrolled s) ++ le 1 0
    ++ ecefBytes (r.refArp.getD zeroEcef) ++ ecefBytes (r.monArp.getD zeroEcef) ++ le 4 r.hDisc ++ leI 4 r.vDisc
    ++ le 8 r.lastCorr ++ le 8 (match v with | some x => x.start | none => 0)
    ++ le 4 (match v with | some x => semMm x | none => 0) ++ le 2 r.clients.length ++ le 2 0

def execRefStatus (w : Nat) (s : State) : Res :=
  answered s (onCmd w 0x0701 anyPayload (fun _ s => ok w (refStatusBytes s) s) s)

/-- POS_VEHICLE (R342). -/
def posVehicleBytes (s : State) (v : Nat) : List Byte :=
  let x := posVehicle s v
  le 1 ((slotOfVehicle s v).getD 0xFF) ++ zeros 3 ++ le 8 x.obsTide ++ (x.record ++ zeros 64).take 64

def execPosVehicle (w : Nat) (s : State) : Res :=
  answered s (onCmd w 0x0702 anyPayload (fun p s => needCluster w (fun s => ok w (posVehicleBytes s (u8 p 0)) s) s) s)

/-- REF_STATS (R341, R342). -/
def execRefStats (w : Nat) (s : State) : Res :=
  answered s (onCmd w 0x0703 anyPayload (fun _ s => needCluster w (fun s => ok w (snapshot 14 15 s) s) s) s)

/-- REF_ENABLE (R60, R342). -/
def execRefEnable (w : Nat) (s : State) : Res :=
  doneIn [.host, .switches, .out] s (onCmd w 0x0740 (fun p => u8 p 0 > 1) (fun p s => needCluster w (fun s =>
    ok w (le 8 (nextTide s)) (switch .reference (u8 p 0 == 1) s)) s) s)

/-- REF_SURVEY_START (R342, R343). -/
def surveyBad (p : List Byte) : Bool :=
  u32 p 0 < 6000 || u32 p 0 > 8640000 || u32 p 4 < u32 p 0 || u32 p 4 > 8640000 || u16 p 8 < 100 || u16 p 8 > 10000
    || u8 p 10 == 0 || u8 p 10 > 2

def execRefSurveyStart (w : Nat) (s : State) : Res :=
  doneIn [.host, .changes, .out] s (onCmd w 0x0741 surveyBad (fun p s => needCluster w (fun s =>
    if u8 p 10 == 2 && s.ref.monArp.isNone then refuse w stSTATE s
    else change w (.survey (u32 p 0) (u32 p 4) (u16 p 8) (u8 p 10 == 1)) s) s) s)

def ecefAt (p : List Byte) (i : Nat) : Ecef := { x := iAt p i 8, y := iAt p (i + 8) 8, z := iAt p (i + 16) 8 }

/-- REF_FIX_SET (R321, R342, R343): a given baseline is tested on the band-0 phase centres. -/
def fixSetBad (s : State) (p : List Byte) : Bool :=
  let a := ecefAt p 0
  let b := ecefAt p 28
  u8 p 26 > 2 || (u8 p 26 != 0 && b != zeroEcef)
    || (u8 p 26 == 0 && !lengthOk (subEcef (phaseCentre s true 0 b) (phaseCentre s false 0 a)))

def execRefFixSet (w : Nat) (s : State) : Res :=
  doneIn [.host, .changes, .out] s (onCmd w 0x0742 (fixSetBad s) (fun p s => needCluster w (fun s =>
    if u8 p 26 == 2 && s.ref.monArp.isNone then refuse w stSTATE s
    else change w (.refFix (ecefAt p 0) (u16 p 24) (u8 p 26) (ecefAt p 28)) s) s) s)

/-- REF_OUTPUT_SET (R342, R343). -/
def outputBad (p : List Byte) : Bool :=
  u8 p 0 > 3 || !(u8 p 1 == 4 || u8 p 1 == 7) || !([0, 1, 5, 10, 20].contains (u8 p 2)) || u8 p 3 > 1 || u16 p 4 < 100
    || u16 p 4 > 6000

def execRefOutputSet (w : Nat) (s : State) : Res :=
  doneIn [.host, .changes, .out] s (onCmd w 0x0743 outputBad (fun p s => needCluster w (fun s =>
    if s.ref.st == 0 then refuse w stSTATE s
    else
      let m : MountPar := { mountOf s (u8 p 0) with msm := u8 p 1, rate := u8 p 2, station := u8 p 3, stationTides := u16 p 4 }
      change w (.refOutput (u8 p 0) m) s) s) s)

/-- REF_INTEGRITY_SET (R342, R343). -/
def integrityBad (p : List Byte) : Bool :=
  u16 p 0 < 10 || u16 p 0 > 500 || u16 p 2 < 20 || u16 p 2 > 1000 || u8 p 4 == 0 || u8 p 4 > 10 || u16 p 6 < 10
    || u16 p 6 > 6000

def execRefIntegritySet (w : Nat) (s : State) : Res :=
  doneIn [.host, .changes, .out] s (onCmd w 0x0744 integrityBad (fun p s => needCluster w (fun s =>
    if s.ref.st == 0 then refuse w stSTATE s else change w (.refIntegrity (u16 p 0) (u16 p 2) (u8 p 4) (u16 p 6)) s) s) s)

/-- The slots once the enrolments that wait for their edge are taken (R334). -/
def slotsNext (s : State) : Tbl Nat :=
  s.changes.foldl (fun t c => match c.setting with | .enrol v n => tput 0 t v n | _ => t) s.ref.slots

/-- POS_ENROL (R334, R342, R343): enrolments that wait count. -/
def posEnrolF (w : Nat) (p : List Byte) (s : State) : State :=
  let v := u8 p 0
  let slot := u8 p 1
  let mine := tget 0 (slotsNext s) v
  if slot = 0xFF then change w (.enrol v 0) s
  else if (slotsNext s).any fun x => x.1 != v && x.2 == slot + 1 then refuse w stBUSY s
  else if mine != 0 && mine != slot + 1 then refuse w stSTATE s
  else change w (.enrol v (slot + 1)) s

def execPosEnrol (w : Nat) (s : State) : Res :=
  doneIn [.host, .changes, .out] s (onCmd w 0x0745 (fun p => u8 p 1 > 95 && u8 p 1 != 0xFF) (fun p s => needCluster w (posEnrolF w p) s) s)

/-- REF_STREAM (R329, R342, R343). -/
def refStreamF (w : Nat) (p : List Byte) (s : State) : State :=
  let q := u8 p 0
  let rest := s.ref.streams.filter fun x => x.qwin != q
  if !winOwnsQwin s w q then refuse w stDENIED s
  else if u8 p 1 = 0 then ok w [] (updRef (fun r => { r with streams := rest }) s)
  else if rest.length ≥ 4 then refuse w stLIMIT s
  else ok w [] (updRef (fun r => { r with
    streams := rest ++ [{ sid := callerSid s w, qwin := q, a := u8 p 1, b := u8 p 2 }] }) s)

def execRefStream (w : Nat) (s : State) : Res :=
  doneIn [.host, .ref, .out] s (onCmd w 0x0746 (fun p => u8 p 0 > 15 || u8 p 1 > 2 || u8 p 2 > 3) (refStreamF w) s)

/-- POS_ENABLE (R60, R338, R342). -/
def execPosEnable (w : Nat) (s : State) : Res :=
  doneIn [.host, .switches, .out] s (onCmd w 0x0747 (fun p => u8 p 0 > 1) (fun p s => needCluster w (fun s =>
    ok w (le 8 (nextTide s)) (switch .positioning (u8 p 0 == 1) s)) s) s)

/-- Takes a changed reference setting (R318, R321, R334, R342). -/
def applyRefSetting (x : Setting) (s : State) : State :=
  let put (f : RefPar → RefPar) (s : State) : State := { s with par := { s.par with ref := f s.par.ref } }
  match x with
  | .survey a b c mon =>
    let s := put (fun r => { r with minTides := a, maxTides := b, limitMm := c }) s
    let s := updRef (fun r => { r with refArp := none, monArp := if mon then none else r.monArp, monSurvey := mon }) s
    let s := newCoordinates s
    if s.ref.on then freshRef true 0 s else s
  | .refFix arp h mode mon =>
    let s := put (fun r => { r with refHeight := h }) s
    let s := updRef (fun r => { r with
      refArp := some arp, monArp := if mode = 0 then some mon else if mode = 1 then none else r.monArp,
      monSurvey := mode == 1 }) s
    let s := newCoordinates s
    if s.ref.on then freshRef true 0 s else s
  | .refOutput m v => put (fun r => { r with mounts := tput {} r.mounts m v }) s
  | .refIntegrity h v a c => put (fun r => { r with hLim := h, vLim := v, nAlarm := a, nClear := c }) s
  | .enrol v n =>
    updPos v (fun y => { y with reset := true, sets := [] }) (updRef (fun r => { r with slots := tput 0 r.slots v n }) s)
  | _ => s

end Sys2Proof.Machine
end

