-- ==== Sys2Proof/Machine/Resets.lean ====
section
/-! DEFINITION. Sys2Proof/Machine/Resets.lean: what the resets of R608 keep, and the revert of a trial, as shared
operations. -/

namespace Sys2Proof.Machine

/-- Resets before which the logbook's staging buffer reaches MRAM: those that the harbourmaster starts itself, and those
that follow the power-fail signal (R597). -/
def flushesFirst (kind : Nat) : Bool := [2, 4, 6, 7, 9].contains kind

/-- The reservation engine, the zones and the requests of a fleet service after a full reset: the halt latches alone are
kept, and the halt-input source is one in latched mode only (R369, R610). A channel's level is accepted anew (R372). -/
def keptFleet (latched : Bool) (f : Fleet) : Fleet :=
  { host := f.host, hostRelay := f.hostRelay, input := { active := f.input.active && (latched || f.input.disc), disc := f.input.disc } }

/-- The redundancy service after a full reset: the term and the checkpoints of the UFS partition are kept, and the seq given to
them (R542, R550, R616); a checkpoint stored in the last 300 tides still is one (R551). -/
def keptPr (kind ran : Nat) (p : Pr) : Pr :=
  { feeds := if kind = 1 then [] else p.feeds, term := p.term, takeovers := 0, ckptSeq := p.ckptSeq, own := p.own,
    stored := p.stored, storedRan := if p.storedRan.any (ran ≤ · + 300) then some 0 else none }

/-- A campaign pauses with the cluster and resumes from its record (R589). -/
def Campaign.paused (x : Campaign) : Campaign := if x.st = 1 ∨ x.st = 2 then { x with st := 3, was := x.st } else x

/-- The update service after a full reset: a load that is not verified is discarded, an install that runs leaves its slot
EMPTY, a scheduled activation is cancelled, campaigns pause, and what MRAM, UFS and OTP hold stays (R572, R575, R589, R609). -/
def keptUpd (active : Nat) (u : Upd) : Upd :=
  let keep := u.verified && u.st != 1 && u.st != 2
  { u with
    st := if u.trial.isSome then 6 else if u.ready then 4 else 0
    owner := none, total := if keep then u.total else 0, held := if keep then u.held else []
    verified := keep, job := none, sched := none
    camps := u.camps.foldl (fun t x => tput {} t x.1 x.2.paused) []
    slots := if u.st = 3 then tput (fwDefault (1 - active)) u.slots (1 - active) .empty else u.slots
    events := 0, unreported := 0, toHeld := 0, toCommitted := 0, toFailed := 0 }

/-- The logbook after a full reset: MRAM tail, UFS store and seq are kept, the staging buffer is lost (R597, R598). -/
def keptLog (l : Logb) : Logb :=
  { seq := l.seq, half0 := l.half0, half1 := l.half1, filling := l.filling, closed := l.closed, firstRan := l.firstRan,
    store := l.store, skipped := l.skipped, noteTag := l.noteTag }

/-- Metering after a full reset: the MRAM copies and the battery domain (R176, R498, R504). -/
def keptMeter (m : Meter) : Meter :=
  { copyA := m.copyA, copyB := m.copyB, loss := m.loss, batScales := m.batScales, mainOff := m.mainOff, run := m.run,
    log := m.log, overwritten := m.overwritten, fresh := m.fresh }

/-- Windows whose TLS connection a reset closes. -/
def tlsWindows (s : State) : List Nat := windows.filter fun w => (win s w).origin == 4 && (win s w).st != 1

/-- Outputs of the instant of a reset: the relays open, TWIN_CLM_OUT, TIME_Q and HOST_IRQ_N at rest, TLS connections gone
(R614). -/
def resetOuts (s : State) : List Output :=
  (if s.fleet.relays != 0 then [Output.pin pinRelay false, Output.pin (pinRelay + 1) false] else [])
    ++ (if s.pr.claimOut then [Output.pin pinClaim false] else [])
    ++ (if s.time.timeQ then [Output.pin pinTimeQ false] else [])
    ++ (if s.host.irqLow then [Output.irqN true] else [])
    ++ (tlsWindows s).map Output.tlsClosed

/-- A full reset of a kind: the ROM runs at T0 with what R610 keeps; module time and tide edges stop until the
harbourmaster loads them (R610, R614). -/
def fullReset (kind : Nat) (s : State) : State :=
  let s := if flushesFirst kind then flushStaging s else s
  { State.reset with
    clk := { tide := s.clk.tide }
    sys := { kind }
    boot := { s.boot with fwChanged := s.boot.fwChanged && !s.boot.trial }
    host := { sids := s.host.sids }
    cfg :=
      let c := (resetStore s).cfg
      { slots := c.slots, recs := c.recs, cur := c.cur, maps := c.maps }
    rtc := { s.rtc with commits := s.rtc.commits.map fun c => { c with job := none } }
    gnss := { rf := s.gnss.rf.foldl (fun t x => tput {} t x.1 { quiet := x.2.quiet }) [] }
    fleet := keptFleet s.par.fleet.latched s.fleet
    pr := keptPr kind s.clk.ran s.pr
    upd := keptUpd s.boot.activeArea s.upd
    meter := keptMeter s.meter
    log := keptLog s.log
    out := (resetOuts s).reverse ++ s.out
    free := s.free
    pending := s.pending }

/-- The image slots that hold an image under one record and none under another become EMPTY (R581). -/
def emptyFilled (old new : CtrlRec) (slots : Tbl (List Byte)) : Tbl (List Byte) :=
  each [0, 1, 2] (fun k t =>
    if tget Role.empty new.roles k == .empty && tget Role.empty old.roles k != .empty then tput [] t k [] else t) slots

/-- What a revert of the trial writes (R581): the saved control record stands again, the trial ends, its slot keeps its
install, and UPD_RESULT is due at the next start. -/
def revertState (cause : Nat) (s : State) : State :=
  match s.upd.trial with
  | none => s
  | some t =>
    let cur := ctrl s
    let n := 1 - s.cfg.cur
    let r : CtrlRec := { t.record with seq := (cur.seq + 1) % 2 ^ 32, crcOk := true }
    { s with
      cfg := { s.cfg with recs := tput {} s.cfg.recs n r, cur := n, slots := emptyFilled cur r s.cfg.slots }
      boot := { s.boot with trial := false, fwChanged := false }
      upd := { s.upd with trial := none, st := 4, ready := true, reverted := some (cause, u32 (fwHeader s s.boot.trialArea) 28) } }

/-- A revert that the harbourmaster starts: the REVERT reset into the previous slot (R581). -/
def revertReset (cause : Nat) (s : State) : State := fullReset 7 (revertState cause s)

/-- The harbourmaster restarts alone (R39, R94, R610, R617): relays open, sessions closed, the cluster stopped, control
queues emptied, every zone HALTED, and no claim waits on the quay bus. The module's own choices: the MSI-X table and PBA
return to their reset values with the sessions, since R610 has no row for them (log entry 17), and an accepted RESET that
waits for its edge is dropped (log entry 104); endpoint 0x82 sends no SESS_SUMMARY for the USB windows that the reset frees
(R76, R94; log entry 113). -/
def hmRestart (byCommand : Bool) (s : State) : State :=
  let s := if byCommand then flushStaging s else { s with log := { s.log with staging := [], ownWait := [], taken := 0 } }
  let s := emitAll (resetOuts s) { s with log := { s.log with
    exports := [], notes := [], spent := [], supp := [], suppTotal := 0, dropTotal := 0, flood := none, floodNow := false } }
  let s := each ((List.range 16).map (· + 112)) clearQ s
  let s := each (List.range 16) releaseQwin (each (List.range 8) releaseLt s)
  let pair := s.par.pr.pair
  let s := holdAll (if pair then refDown s else s)
  { s with
    sys := { s.sys with modState := 0, kind := 5, hmRuns := false, warm := true, tender := true, resetWait := none, startRan := s.clk.ran }
    host := { sids := s.host.sids }
    cluster := if pair || s.cluster.st == 0 then {}
      else { st := 1, declare_ := true, deferred := s.cluster.deferred, refill := s.cluster.refill }
    fleet := { s.fleet with relays := 0, released := 0, request := 0, requestNow := 0, batch := [], shadow := none,
                            accepted := [], lastHalt := allHalted, ootWait := 0 }
    lantern := { s.lantern with
      down := [], aired := [], inputs := [], formed := [], nextSteps := none, cond := [], recalls := [], condSet := [], condOut := false, parked := []
      nodes := s.lantern.nodes.foldl (fun t n => tput {} t n.1 { n.2 with join := none }) [] }
    time := { s.time with timeQ := false, freeze := [] }
    radio := { s.radio with ledgers := [], next := [] }
    pr := { s.pr with claimOut := false, last := if pair then none else s.pr.last, sending := none, rx := none,
                      handover := none, termSet := none, rehearsal := none, rehearseAsk := none, heard := [], demote := none,
                      silent := 0, takeover := false, report := [], baseline := none }
    upd := keptUpd s.boot.activeArea s.upd
    gnss := { s.gnss with streams := [] }
    ref := { s.ref with streams := [] }
    lampSign := { s.lampSign with streams := [] }
    quay := { s.quay with ch := s.quay.ch.map fun x =>
      (x.1, { x.2 with express := x.2.express.filter fun e => !e.claim }) }
    cfg := (resetStore s).cfg
    changes := []
    switches := [] }

/-- A HARBOURMASTER reset; during a trial the module reverts instead (R581, R609). -/
def hmReset (byCommand : Bool) (s : State) : State :=
  if s.boot.trial then revertReset 2 s else hmRestart byCommand s

end Sys2Proof.Machine
end

