-- ==== Sys2Proof/Machine/Update.lean ====
section
/-! DEFINITION. Sys2Proof/Machine/Update.lean: packages, installation, activation, trial and revert (chapter 18). -/

namespace Sys2Proof.Machine

def updUpd (f : Upd → Upd) (s : State) : State := { s with upd := f s.upd }

/-- 8 GB (R564). -/
def packageMax : Nat := 8589934592

/-- IDLE, or INSTALLED while an installed set waits (R592). -/
def restState (s : State) : State := updUpd (fun u => { u with st := if u.ready then 4 else 0, owner := none, job := none }) s

/-- UPD_RESULT (R593). -/
def updResult (kind cause status version : Nat) (s : State) : State :=
  let s := updUpd (fun u => { u with lastKind := kind, lastCause := cause }) s
  let s := raise 0x0F80 (le 1 kind ++ le 1 cause ++ le 2 status ++ le 4 version ++ le 8 s.clk.tide) s
  if kind = 4 ∨ kind = 6 then logIt 0x0F kind 3 0 [cause, status, version] s else s

/-! ## Package layout (R564 to R568) -/

def bodyOffset (b : List Byte) : Nat := u32 b 24

/-- The end of block i among n bytes. -/
def blockEnd (total off i : Nat) : Nat := min (off + (i + 1) * 65536) total

/-- The first block among those completed between two lengths whose CRC differs from its table entry (R573). -/
def badBlock (b : List Byte) (total old : Nat) : Option Nat :=
  let off := bodyOffset b
  (List.range (u32 b 20)).find? fun i =>
    let e := blockEnd total off i
    old < e && e ≤ b.length && crc32c (slice b (off + i * 65536) (e - (off + i * 65536))) != u32 b (128 + 4 * i)

/-- What the check of arriving bytes leaves: the bytes held and whether they passed (R573). -/
def checkArrived (total old : Nat) (b : List Byte) : List Byte × Bool :=
  let off := bodyOffset b
  if b.length < 128 || b.length < off then (b, true)
  else if old < off && crc32c (b.take (off - 4)) != u32 b (off - 4) then ([], false)
  else match badBlock b total (max old off) with
    | some i => (b.take (off + i * 65536), false)
    | none => (b, true)

/-- The manifest entries of a package (R566). -/
def manifestOf (b : List Byte) : List (List Byte) := entriesOf 96 (u16 b 18) (b.drop (bodyOffset b))

def partData (b e : List Byte) : List Byte := slice b (u64 e 8) (u64 e 16)

/-- The limit of a part in bytes (R567). -/
def partMax (part : Nat) : Nat :=
  match part with | 1 => 67108864 | 9 => 1024 | 16 => 4194304 | _ => 4294967296

/-- One entry is as R566 and R567 demand. -/
def entryOk (b e : List Byte) : Bool :=
  let part := u8 e 0
  let lo := bodyOffset b + 96 * u16 b 18
  ((1 ≤ part && part ≤ 9) || part == 16) && u16 e 2 == 0 && leAt e 78 18 == 0
    && u64 e 8 ≥ lo && u64 e 8 + u64 e 16 ≤ b.length - 96 && u64 e 16 ≤ partMax part
    && (if part = 16 then u16 e 76 != 0 else leAt e 72 6 == 0)

/-- The manifest's parts are those of its kind (R568). -/
def partsOk (kind : Nat) (m : List (List Byte)) : Bool :=
  let n (p : Nat) := (m.filter fun e => u8 e 0 == p).length
  match kind with
  | 1 => ([1, 2, 3, 4, 5, 6, 7, 8].all fun p => n p == 1) && n 9 ≤ 1 && n 16 == 0
    && sumOf (fun e => if 2 ≤ u8 e 0 ∧ u8 e 0 ≤ 8 then u64 e 16 else 0) m ≤ 4294967296
  | 2 => n 16 == m.length && noRepeat (m.map fun e => u16 e 76)
  | _ => n 9 == 1 && m.length == 1

/-! ## Keys (R569, R570) -/

/-- Number of a slot in the OTP key store: configuration 0 to 3, package 4 to 7. -/
def keyIndex (kind slot : Nat) : Nat := if kind = 1 then slot else 4 + slot

/-- The entries of a key record as kind, slot, action and key (R570). -/
def keyEntries (r : List Byte) : List (Nat × Nat × Nat × List Byte) :=
  (entriesOf 100 (u8 r 0) (r.drop 4)).map fun e => (u8 e 0, u8 e 1, u8 e 2, slice e 4 96)

/-- Applies one entry to the key store. -/
def applyKey (e : Nat × Nat × Nat × List Byte) (s : State) : State :=
  let (kind, slot, action, key) := e
  let i := keyIndex kind slot
  let k := keySlot s i
  let k := if action = 2 then { k with revoked := true } else if k.programmed then k else { k with programmed := true, key }
  updUpd (fun u => { u with keys := tput (keyDefault i) u.keys i k }) s

def applyKeys (r : List Byte) (s : State) : State := (keyEntries r).foldl (fun s e => applyKey e s) s

/-- An entry is well formed and allowed on the key store (R570): its reserved byte and a revoke's key are zero. -/
def keyEntryOk (signer : Nat) (raw : List Byte) (s : State) : Bool :=
  let i := keyIndex (u8 raw 0) (u8 raw 1)
  let k := keySlot s i
  let key := slice raw 4 96
  (u8 raw 0 == 1 || u8 raw 0 == 2) && u8 raw 1 ≤ 3 && u8 raw 3 == 0 &&
    (match u8 raw 2 with
     | 1 => !k.revoked && (!k.programmed || slotKey s i == key)
     | 2 => leAt key 0 96 == 0 && !(u8 raw 0 == 2 && u8 raw 1 == signer)
     | _ => false)

/-- Each entry is allowed after those before it. -/
def keyRunOk (signer : Nat) : List (List Byte) → State → Bool
  | [], s => [4, 5, 6, 7].any fun i => (keySlot s i).programmed && !(keySlot s i).revoked
  | e :: r, s => keyEntryOk signer e s && keyRunOk signer r (applyKey (u8 e 0, u8 e 1, u8 e 2, slice e 4 96) s)

/-- A key record as R570 demands. -/
def keyRecordOk (s : State) (signer : Nat) (r : List Byte) : Bool :=
  let n := u8 r 0
  1 ≤ n && n ≤ 8 && leAt r 1 3 == 0 && r.length == 4 + 100 * n && keyRunOk signer (entriesOf 100 n (r.drop 4)) s

/-- The key record that a package carries; no bytes without one. -/
def keyRecordOf (b : List Byte) : List Byte :=
  match (manifestOf b).find? fun e => u8 e 0 == 9 with | some e => partData b e | none => []

/-! ## Verification (R574) -/

/-- The manifest is as R566 to R568 and the key record as R570 (R574 step 6). -/
def manifestOk (s : State) (b : List Byte) : Bool :=
  let m := manifestOf b
  let kind := u8 b 16
  1 ≤ kind && kind ≤ 3 && 1 ≤ m.length && m.length ≤ 64 && m.all (entryOk b) && partsOk kind m
    && disjoint (m.map fun e => (u64 e 8, u64 e 16)) && (kind == 1 || leAt b 41 5 == 0)
    && (!(m.any fun e => u8 e 0 == 9) || keyRecordOk s (u8 b 17) (keyRecordOf b))

/-- Revision of the die that takes a part: EC9 0, RC9-A 1, RC9-B 2, GR9 3, MF9 4 (R566, R567). -/
def partRevision (part : Nat) : Nat :=
  match part with
  | 4 => min (Config.dieRevision 1) (Config.dieRevision 2)
  | 5 => Config.dieRevision 3
  | 6 => Config.dieRevision 4
  | _ => Config.dieRevision 0

/-- An import clashes with the store: the same image_id under another digest (R584). -/
def clashes (s : State) (e : List Byte) : Bool :=
  s.upd.images.any fun x => x.id == u16 e 76 && x.digest384 != slice e 24 48

/-- Entries that an import adds (R584). -/
def newImages (s : State) (b : List Byte) : List (List Byte) :=
  (manifestOf b).filter fun e => !(s.upd.images.any fun x => x.id == u16 e 76)

/-- The state allows the package (R574 step 8). -/
def stateOk (s : State) (b : List Byte) : Bool :=
  let m := manifestOf b
  m.all (fun e => u8 e 1 ≤ partRevision (u8 e 0))
    && (u8 b 16 != 1 || (u8 b 45 == 7 && u8 b 44 ≤ 4))
    && (u8 b 16 != 2 || (s.upd.images.length + (newImages s b).length ≤ 64 && !(m.any (clashes s))))

/-- The steps of R574: the status of the first failure, OK where all pass. -/
def verifyPackage (s : State) (b : List Byte) : Nat :=
  let n := b.length
  let off := bodyOffset b
  if !(u64 b 8 == n && n ≥ off + 96 + 96 * u16 b 18 && n ≤ packageMax) then stLENGTH
  else if !(b.take 4 == [0x45, 0x53, 0x39, 0x50] && u16 b 4 == 1 && u16 b 6 == 128
      && off == (128 + 4 * u32 b 20 + 4 + 65535) / 65536 * 65536 && u32 b 20 == (n - off + 65535) / 65536) then stFIELD
  else if !(u64 b 32 == 0 || u64 b 32 == Config.serial) then stFIELD
  else if u8 b 17 > 3 || (slotKey s (4 + u8 b 17)).isEmpty
      || !ecdsaOk (slotKey s (4 + u8 b 17)) (b.take (n - 96)) (b.drop (n - 96)) then stAUTH
  else if u8 b 40 < s.boot.otpEpoch || u8 b 40 > 63 then stFIELD
  else if !manifestOk s b then stFIELD
  else if (manifestOf b).any fun e => sha384 (partData b e) != slice e 24 48 then stINTEG
  else if !stateOk s b then stSTATE
  else stOK

/-! ## Loading (R572, R573) -/

/-- UPD_LOAD_BEGIN (R572, R591). -/
def updLoadBeginF (w : Nat) (p : List Byte) (s : State) : State :=
  if [1, 2, 3, 5, 6].contains s.upd.st then refuse w stBUSY s
  else ok w [] (updUpd (fun u => { u with st := 1, owner := some (w, callerSid s w), total := u64 p 0, held := [],
                                          verified := false }) s)

def execUpdLoadBegin (w : Nat) (s : State) : Res :=
  doneIn [.host, .upd, .out] s (onCmd w 0x0F40 (fun p => u64 p 0 > packageMax) (updLoadBeginF w) s)

/-- The session in a window owns the load (R572). -/
def ownsPackage (w : Nat) (s : State) : Bool := s.upd.owner == some (w, callerSid s w)

/-- UPD_LOAD_DATA (R573, R591): while no load is owned no session owns one, and DENIED fits as well as STATE (DESIGN CHOICE, log entry
113). -/
def updLoadDataF (w : Nat) (p : List Byte) (s : State) : State :=
  let h := s.upd.held
  if !ownsPackage w s then refuse w stDENIED s
  else if s.upd.st != 1 then refuse w stSTATE s
  else if u64 p 0 != h.length || h.length + u16 p 8 > s.upd.total then refuse w stFIELD s
  else
    let r := checkArrived s.upd.total h.length (h ++ p.drop 12)
    let s := updUpd (fun u => { u with held := r.1 }) s
    if r.2 then ok w (le 8 r.1.length) s else refuse w stINTEG s

def execUpdLoadData (w : Nat) (s : State) : Res :=
  doneIn [.host, .upd, .out] s (onCmd w 0x0F41 (fun p => u16 p 8 == 0 || u16 p 8 > 3820) (updLoadDataF w) s)

/-- UPD_LOAD_END (R574, R591). -/
def updLoadEndF (w : Nat) (_ : List Byte) (s : State) : State :=
  if !ownsPackage w s then refuse w stDENIED s
  else if s.upd.st != 1 then refuse w stSTATE s
  else if s.upd.held.length < s.upd.total then refuse w stLENGTH s
  else
    let j := jobOf w s
    respond w stACCEPTED [] (updUpd (fun u => { u with st := 2, job := some j }) s)

def execUpdLoadEnd (w : Nat) (s : State) : Res := doneIn [.host, .upd, .out] s (onCmd w 0x0F42 anyPayload (updLoadEndF w) s)

/-- The load is discarded (R572). -/
def dropLoad (s : State) : State := restState (updUpd (fun u => { u with held := [], total := 0, verified := false }) s)

/-- A session closes before its UPD_LOAD_END was accepted (R572). -/
def updRelease (w sid : Nat) (s : State) : State :=
  if s.upd.st == 1 && s.upd.owner == some (w, sid) then dropLoad s else s

/-! ## Installation (R575, R584) -/

/-- The slot that an install writes (R575). -/
def inactiveSlot (s : State) : Nat := 1 - s.boot.activeArea

def setSlot (k : Nat) (v : FwSlot) (s : State) : State :=
  updUpd (fun u => { u with slots := tput (fwDefault k) u.slots k v }) s

/-- The seal of a package's set: the digest of part 0x01 is its manifest entry's (R566, R611). -/
def sealOf (b : List Byte) : Seal :=
  let m := manifestOf b
  { boot := match m.find? fun e => u8 e 0 == 1 with | some e => slice e 24 48 | none => []
    manifest := sha384 m.flatten, version := u32 b 28, epoch := u8 b 40 }

/-- Writes the boot seal of an area, or clears it (R611). -/
def setSeal (k : Nat) (v : Option Seal) (s : State) : State :=
  let m : BitVec 2 := (1 : BitVec 2) <<< k
  { s with boot := { s.boot with sealOk := if v.isSome then s.boot.sealOk ||| m else s.boot.sealOk &&& ~~~m,
                                 seals := tput {} s.boot.seals k (v.getD {}) } }

/-- An install starts: the inactive slot holds no whole set until it ends (R575). -/
def beginInstall (j : Option Job) (s : State) : State :=
  let k := inactiveSlot s
  setSeal k none (setSlot k .empty (updUpd (fun u => { u with st := 3, job := j, owner := none, ready := false }) s))

/-- The set of a firmware package. -/
def setOf (b : List Byte) : FwSlot := .set (b.take 48) (manifestOf b) (keyRecordOf b)

/-- An image of a node package (R584). -/
def imageOf (b e : List Byte) : NodeImage :=
  let d := partData b e
  { id := u16 e 76, cls := u8 e 72, nnp := u8 e 73, hw := u16 e 74, version := u32 e 4, digest384 := slice e 24 48,
    digest256 := sha256 d, data := d }

/-- PACKAGE_VERIFY_COMPLETE (R574, R584, R593). -/
def execPackageVerifyComplete (s : State) : Res :=
  doneIn [.boot, .host, .upd, .log, .out] s (
    if s.upd.st != 2 then s
    else
      let b := s.upd.held
      let v := u32 b 28
      let r := verifyPackage s b
      let j := s.upd.job
      if r != stOK then finishOpt j r (updResult 7 0 r v (dropLoad s))
      else
        let s := updUpd (fun u => { u with verified := true }) s
        if u8 b 16 = 1 then beginInstall j s
        else if u8 b 16 = 2 then
          let new := (newImages s b).map (imageOf b)
          finishOpt j stOK (updResult 2 0 0 v (restState (updUpd (fun u => { u with images := u.images ++ new }) s)))
        else finishOpt j stOK (updResult 3 0 0 v (restState (applyKeys (keyRecordOf b) s))))

/-- INSTALL_COMPLETE (R575, R593, R611). -/
def execInstallComplete (readBackOk : Bool) (s : State) : Res :=
  doneIn [.boot, .host, .upd, .log, .out] s (
    if s.upd.st != 3 then s
    else
      let b := s.upd.held
      let j := s.upd.job
      let k := inactiveSlot s
      if readBackOk then
        let s := setSeal k (some (sealOf b)) (setSlot k (setOf b) s)
        finishOpt j stOK (updResult 1 0 0 (u32 b 28) (restState (updUpd (fun u => { u with ready := true }) s)))
      else finishOpt j stINTEG (updResult 7 0 stINTEG (u32 b 28) (restState s)))

/-- UPD_INSTALL (R575, R591). -/
def updInstallF (w : Nat) (_ : List Byte) (s : State) : State :=
  if !s.upd.verified || u8 s.upd.held 16 != 1 || !(s.upd.st == 0 || s.upd.st == 4) then refuse w stSTATE s
  else
    let j := jobOf w s
    respond w stACCEPTED [] (beginInstall (some j) s)

def execUpdInstall (w : Nat) (s : State) : Res := doneIn [.boot, .host, .upd, .out] s (onCmd w 0x0F47 anyPayload (updInstallF w) s)

/-! ## Activation (R576 to R578, R582) -/

/-- Schedules an activation, its tide checked (R576, R578, R591). -/
def schedule (w : Nat) (p : List Byte) (rollback : Bool) (s : State) : State :=
  let t := u64 p 0
  if s.cfg.apply.isSome then refuse w stBUSY s
  else if t < s.clk.tide + 100 then refuse w stLATE s
  else if t > s.clk.tide + 259200000 then refuse w stLIMIT s
  else
    let a : Activation := { tide := t, mode := u8 p 8, rollback, job := jobOf w s }
    respond w stACCEPTED (le 8 t) (updUpd (fun u => { u with st := 5, sched := some a }) s)

/-- The module is pilot in pair mode (R576). -/
def pairPilot (s : State) : Bool := pairMode s && !s.sys.tender

def activateBad (p : List Byte) : Bool := u8 p 8 > 1

/-- UPD_ACTIVATE (R576). -/
def updActivateF (w : Nat) (p : List Byte) (s : State) : State :=
  if pairPilot s || s.upd.st != 4 then refuse w stSTATE s else schedule w p false s

def execUpdActivate (w : Nat) (s : State) : Res := doneIn [.host, .upd, .out] s (onCmd w 0x0F44 activateBad (updActivateF w) s)

/-- UPD_ROLLBACK (R582). -/
def updRollbackF (w : Nat) (p : List Byte) (s : State) : State :=
  let h := fwHeader s (inactiveSlot s)
  if pairPilot s || !(s.upd.st == 0 || s.upd.st == 4) || fwSlotOf s (inactiveSlot s) == .empty then refuse w stSTATE s
  else if u8 h 40 < s.boot.otpEpoch then refuse w stFIELD s
  else schedule w p true s

def execUpdRollback (w : Nat) (s : State) : Res := doneIn [.host, .upd, .out] s (onCmd w 0x0F46 activateBad (updRollbackF w) s)

/-- What waits for a tide at or after the activation is cancelled (R578). -/
def cancelLater (e : Nat) (s : State) : State :=
  let s := match s.cfg.apply with
    | some a => if a.tide ≥ e then finish a.job stCANCELLED { s with cfg := { s.cfg with apply := none } } else s
    | none => s
  let s := match s.pr.termSet with | some t => if t.2 ≥ e then updPr (fun x => { x with termSet := none }) s else s | none => s
  match s.pr.handover with
  | some h => if h.tide > e then finish h.job stCANCELLED (updPr (fun x => { x with handover := none }) s) else s
  | none => s

/-- ACTIVATION_EDGE (R577, R578, R608): the harbourmaster state records the trial, the metering save and the logbook tail
are written, and the ACTIVATION reset follows. -/
def execActivationEdge (s : State) : Res :=
  done s (match s.upd.sched with
    | none => s
    | some a =>
      if s.clk.tide < a.tide then s
      else
        let s := cancelLater a.tide s
        let t : Trial := { mode := a.mode, record := ctrl s, defaulted := s.cfg.defaultedBit, start := s.clk.tide, job := a.job }
        let s := if s.meter.on then saveDone (beginSave 2 none s) else s
        let s := updUpd (fun u => { u with st := 6, sched := none, ready := false, trial := some t }) s
        fullReset 6 { s with boot := { s.boot with trial := true, trialArea := inactiveSlot s } })

/-! ## Trial (R579 to R581) -/

/-- Confirmation is ready at an edge (R579): a running module's dies report what the slot they were loaded from lists, but for
a failed one, which reports nothing. -/
def confirmReady (s : State) : Bool :=
  match s.upd.trial with
  | none => false
  | some t => s.boot.trial && s.sys.modState == 4 && (s.radio.dies.all fun d => d.2.st != 2)
      && (!s.cfg.defaultedBit || t.defaulted)

/-- What the update service does at a tide edge (R579). -/
def updAtEdge (s : State) : State :=
  let r := confirmReady s
  updUpd (fun u => { u with trial := u.trial.map fun t => { t with ready := r } }) s

/-- The steps of R580. -/
def confirm (t : Trial) (s : State) : State :=
  let k := s.boot.trialArea
  let h := fwHeader s k
  let keys := match fwSlotOf s k with | .set _ _ r => r | _ => []
  let s : State := { s with boot := { s.boot with activeArea := k, trial := false, otpEpoch := max s.boot.otpEpoch (u8 h 40) } }
  let s := if keys.isEmpty then s else applyKeys keys s
  let s := updUpd (fun u => { u with st := 0, trial := none }) s
  finish t.job stOK (updResult 5 0 0 (u32 h 28) s)

/-- CONFIRMATION (R579, R580): in AUTO mode at the edge at which it is ready, in HOST mode after UPD_CONFIRM. -/
def execConfirmation (s : State) : Res :=
  doneIn [.boot, .host, .upd, .log, .out] s (match s.upd.trial with
    | some t => if confirmReady s && (t.mode == 0 || t.asked) then confirm t s else s
    | none => s)

/-- UPD_CONFIRM (R579). -/
def updConfirmF (w : Nat) (_ : List Byte) (s : State) : State :=
  match s.upd.trial with
  | some t =>
    if t.ready && t.mode == 1 then ok w [] (updUpd (fun u => { u with trial := some { t with asked := true } }) s)
    else refuse w stSTATE s
  | none => refuse w stSTATE s

def execUpdConfirm (w : Nat) (s : State) : Res := doneIn [.host, .upd, .out] s (onCmd w 0x0F45 anyPayload (updConfirmF w) s)

/-- Tides of the confirmation window that are past: a correction that renumbers tides does not move it (R579). -/
def trialGone (s : State) (t : Trial) : Nat := t.gone + (s.clk.ran - t.since)

/-- TRIAL_WINDOW_EXPIRY (R579, R581, R608). -/
def execTrialWindowExpiry (s : State) : Res :=
  done s (match s.upd.trial with
    | some t => if s.boot.trial && s.sys.hmRuns && trialGone s t ≥ 30000 then revertReset 1 s else s
    | none => s)

/-- Cancels a scheduled activation (R590, R609). -/
def cancelActivation (s : State) : State :=
  match s.upd.sched with
  | none => s
  | some a => finish a.job stCANCELLED (restState (updUpd (fun u => { u with sched := none }) s))

/-- UPD_CANCEL (R581, R590, R591). -/
def updCancelF (w : Nat) (_ : List Byte) (s : State) : State :=
  if s.upd.st = 1 ∨ s.upd.st = 2 then
    if !ownsPackage w s then refuse w stDENIED s
    else
      let j := s.upd.job
      finishOpt j stCANCELLED (ok w [] (dropLoad s))
  else match s.upd.sched with
    | some a => if a.tide ≤ nextTide s then refuse w stSTATE s else cancelActivation (ok w [] s)
    | none => if s.boot.trial then revertReset 3 (ok w [] s) else refuse w stSTATE s

def execUpdCancel (w : Nat) (s : State) : Res := done s (onCmd w 0x0F43 anyPayload (updCancelF w) s)

/-! ## Queries (R590, R592) -/

/-- keys of UPD_STATUS (R592). -/
def keysWord (s : State) : Nat :=
  [0, 1, 2, 3].foldl (fun a i =>
    a + bit (keySlot s (4 + i)).programmed * 2 ^ i + bit (keySlot s (4 + i)).revoked * 2 ^ (4 + i)
      + bit (keySlot s i).programmed * 2 ^ (8 + i) + bit (keySlot s i).revoked * 2 ^ (12 + i)) 0

/-- UPD_STATUS (R592). -/
def updStatusBytes (s : State) : List Byte :=
  let u := s.upd
  let staged (n : Nat) := if u.verified then n else 0
  let mode := match u.trial, u.sched with | some t, _ => t.mode | _, some a => a.mode | _, _ => 0
  let owner := match u.owner with | some (w, _) => w | none => 0xFF
  let left := match u.trial with | some t => 30000 - trialGone s t | none => 0
  let sched := match u.sched with | some a => a.tide | none => 0
  le 1 u.st ++ le 1 (staged (u8 u.held 16)) ++ le 1 owner ++ le 1 mode ++ le 8 u.held.length ++ le 8 u.total
    ++ le 1 s.boot.activeArea ++ le 1 s.boot.otpEpoch ++ le 1 u.lastKind ++ le 1 u.lastCause
    ++ le 4 (u32 (fwHeader s s.boot.activeArea) 28) ++ le 4 (u32 (fwHeader s (inactiveSlot s)) 28)
    ++ le 4 (staged (u32 u.held 28)) ++ le 4 left ++ le 8 sched ++ le 2 (keysWord s) ++ le 2 0

def execUpdStatus (w : Nat) (s : State) : Res :=
  answered s (onCmd w 0x0F01 anyPayload (fun _ s => ok w (updStatusBytes s) s) s)

/-- Header and manifest of a staged package or a slot (R590). -/
def manifestWhich (s : State) (which : Nat) : List Byte × List (List Byte) :=
  let slot (k : Nat) : List Byte × List (List Byte) := match fwSlotOf s k with
    | .empty => ([], []) | .factory => (Config.factoryHeader, Config.factoryManifest) | .set h m _ => (h, m)
  if which = 0 then (if s.upd.verified then (s.upd.held.take 48, manifestOf s.upd.held) else ([], []))
  else slot (if which = 1 then s.boot.activeArea else inactiveSlot s)

/-- UPD_MANIFEST (R590): STATE where nothing is held. -/
def updManifestF (w : Nat) (p : List Byte) (s : State) : State :=
  let m := manifestWhich s (u8 p 0)
  if m.1.isEmpty && m.2.isEmpty then refuse w stSTATE s
  else match m.2[u16 p 2]? with
    | none => refuse w stFIELD s
    | some e => ok w ((m.1 ++ zeros 48).take 48 ++ (e ++ zeros 96).take 96) s

def execUpdManifest (w : Nat) (s : State) : Res :=
  answered s (onCmd w 0x0F02 (fun p => u8 p 0 > 2) (updManifestF w) s)

/-- UPD_IMAGES (R590). -/
def updImagesBytes (s : State) (first : Nat) : List Byte :=
  let l := (s.upd.images.drop first).take 32
  le 1 s.upd.images.length ++ le 1 l.length ++ le 2 0
    ++ l.flatMap fun x => le 2 x.id ++ le 1 x.cls ++ le 1 x.nnp ++ le 2 x.hw ++ le 2 0 ++ le 4 x.version ++ le 4 x.data.length

def execUpdImages (w : Nat) (s : State) : Res :=
  answered s (onCmd w 0x0F03 (fun p => u8 p 0 > 63) (fun p s => ok w (updImagesBytes s (u8 p 0)) s) s)

end Sys2Proof.Machine
end

