-- ==== Sys2Proof/Machine/Campaign.lean ====
section
/-! DEFINITION. Sys2Proof/Machine/Campaign.lean: node image campaigns (R264 to R268, R584 to R589). -/

namespace Sys2Proof.Machine

def camp (s : State) (c : Nat) : Campaign := tget {} s.upd.camps c

def updCamp (c : Nat) (f : Campaign → Campaign) (s : State) : State :=
  updUpd (fun u => { u with camps := tput {} u.camps c (f (tget {} u.camps c)) }) s

def cnode (s : State) (n : Nat) : CampNode := tget {} s.upd.nodes n

def updCnode (n : Nat) (f : CampNode → CampNode) (s : State) : State :=
  updUpd (fun u => { u with nodes := tput {} u.nodes n (f (tget {} u.nodes n)) }) s

/-- Nodes of a campaign. -/
def campNodes (s : State) (c : Nat) : List Nat := (s.upd.nodes.filter fun x => x.2.campaign == c).map (·.1)

def imageOfId (s : State) (i : Nat) : NodeImage := (s.upd.images.find? fun x => x.id == i).getD {}

/-- Blocks of 16 bytes of a campaign's image (R265). -/
def blocksOf (s : State) (c : Nat) : Nat := ((imageOfId s (camp s c).image).data.length + 15) / 16

/-! ## States (R586, R589, R593) -/

/-- UPD_CAMPAIGN: nodes COMMITTED, and FAILED and REVERTED together (R593). -/
def campEvent (c : Nat) (s : State) : State :=
  let ns := (campNodes s c).map fun n => (cnode s n).st
  raise 0x0F81 (le 1 c ++ le 1 (camp s c).st ++ le 2 (camp s c).image ++ le 2 (ns.filter (· == 4)).length
    ++ le 2 (ns.filter fun k => k == 5 || k == 6).length) s

def setCampSt (c st : Nat) (s : State) : State :=
  if (camp s c).st = st then s else campEvent c (updCamp c (fun x => { x with st }) s)

/-- HALTED and DONE (R589). -/
def judgeCamp (c : Nat) (s : State) : State :=
  let x := camp s c
  if x.st = 1 || x.st = 2 || x.st = 3 then
    if (campNodes s c).all fun n => 4 ≤ (cnode s n).st && (cnode s n).st ≤ 8 then setCampSt c 4 s
    else if x.activated ≥ 5 && x.broken * 100 ≥ x.abortPct * x.activated then
      (if x.st = 3 then updCamp c (fun y => { y with was := 2 }) s else setCampSt c 2 s)
    else s
  else s

/-- A node of a campaign changes its state: UPD_NODE for at most 16 changes in a tide (R586, R593). -/
def setCnode (n st : Nat) (s : State) : State :=
  let e := cnode s n
  if e.campaign = 0xFF || e.st = st then s
  else
    let s := updCnode n (fun x => { x with st }) s
    let s := updCamp e.campaign (fun x => { x with
      activated := x.activated + bit (st == 3)
      broken := x.broken + bit (e.st == 3 && (st == 5 || st == 6)) }) s
    let s := if s.upd.events < 16 then
        raise 0x0F82 (le 2 n ++ le 1 e.campaign ++ le 1 e.st ++ le 1 st ++ zeros 3)
          (updUpd (fun u => { u with events := u.events + 1 }) s)
      else updUpd (fun u => { u with unreported := u.unreported + 1, toHeld := u.toHeld + bit (st == 2),
                                     toCommitted := u.toCommitted + bit (st == 4), toFailed := u.toFailed + bit (st == 5) }) s
    judgeCamp e.campaign s

/-- UPD_NODE_SUMMARY of the ended tide (R593). -/
def campSummary (s : State) : State :=
  let u := s.upd
  let s := if u.unreported = 0 then s
    else raise 0x0F83 (le 2 u.unreported ++ le 2 u.toHeld ++ le 2 u.toCommitted ++ le 2 u.toFailed) s
  updUpd (fun u => { u with events := 0, unreported := 0, toHeld := 0, toCommitted := 0, toFailed := 0 }) s

/-- The campaign of a node sends (R589). -/
def sending (s : State) (n : Nat) : Bool :=
  let e := cnode s n
  e.campaign != 0xFF && ((camp s e.campaign).st == 1 || (camp s e.campaign).st == 2)

/-! ## Frames (R241, R265, R267, R588) -/

/-- The two FW_BEGIN frames (R265, R586, R587). -/
def sendBegin (n : Nat) (s : State) : State :=
  let c := camp s (cnode s n).campaign
  let m := imageOfId s c.image
  let half (h : Nat) := le 2 c.tag ++ le 4 m.data.length ++ le 1 h ++ slice m.digest256 (16 * h) 16
  updCnode n (fun x => { x with asked := true, begun := 0 }) (queueMsg n 0 0x28 uniTries (half 1) (queueMsg n 0 0x28 uniTries (half 0) s))

/-- At most wave nodes of the campaign take activation tides within any 100 tides, with a node at t (R588). -/
def waveOk (s : State) (c t : Nat) : Bool :=
  let l := ((campNodes s c).map fun n => (cnode s n).at_).filter (· != 0)
  (t :: l).all fun a => !(a ≤ t && t < a + 100) || (l.filter fun x => a ≤ x && x < a + 100).length < (camp s c).wave

/-- The earliest tide from base with room in the wave: base, or 100 tides after another node's (R588). -/
def waveTide (s : State) (c base : Nat) : Nat :=
  let l := ((campNodes s c).map fun n => (cnode s n).at_ + 100).filter (· > base)
  let cand := (base :: l).filter (waveOk s c)
  cand.foldl min (cand.headD base)

/-- FW_ACTIVATE of a HELD node (R588). -/
def sendActivate (n t : Nat) (s : State) : State :=
  let c := (cnode s n).campaign
  queueMsg n 0 0x2B uniTries (le 2 (camp s c).tag ++ le 4 t)
    (updCnode n (fun x => { x with at_ := t, sends := x.sends + 1, slot0 := (lnode s n).fwSlot }) (dropMsgs n 0x2B s))

/-- A HELD node takes its activation tide; a HALTED campaign sends none (R588, R589). -/
def activateHeld (n : Nat) (s : State) : State :=
  let e := cnode s n
  let c := camp s e.campaign
  if e.st != 2 || e.sends != 0 || c.st != 1 then s
  else
    let base := if c.mode = 0 then max c.tide (s.clk.tide + 200) else s.clk.tide + 200
    let base := if c.mode = 0 && c.tide > s.clk.tide then c.tide else base
    sendActivate n (waveTide s e.campaign base) s

/-- What campaigns do at a tide edge: FW_BEGIN to PENDING nodes, FW_ACTIVATE to HELD ones (R586, R588). -/
def campAtEdge (s : State) : State :=
  each ((s.upd.nodes.filter fun x => (x.2.st == 0 && !x.2.asked) || (x.2.st == 2 && x.2.sends == 0)).map (·.1)) (fun n s =>
    if !sending s n then s
    else if (cnode s n).st = 0 then sendBegin n s else activateHeld n s) s

/-! ## What nodes answer (R266, R267, R586, R587) -/

/-- Blocks that a report shows missing: bit i of the bitmap is block first_missing + i, set where it is held
(log entry 44). -/
def missingOf (total first bitmap : Nat) : List Nat :=
  ((List.range 64).map (first + ·)).filter fun b => b < total && !(bitmap.testBit (b - first))

/-- FW_STATUS (R266, R586, R587): every block held is HELD; no block held after some is a failed digest. -/
def fwStatusF (n epoch tide : Nat) (p : List Byte) (s : State) : State :=
  if !hears n s then s
  else if p.length != 16 then malformedMsg s
  else if !fresh n epoch tide s then dropStale s
  else
    let s := frameAccepted n s
    let e := cnode s n
    let c := camp s e.campaign
    let got := leAt p 2 3
    let total := blocksOf s e.campaign
    if e.campaign = 0xFF || u16 p 0 != c.tag || e.st != 1 then s
    else if got ≥ total then activateHeld n (setCnode n 2 (updCnode n (fun x => { x with blocks := got, todo := [] }) s))
    else if got = 0 && e.blocks != 0 then
      let s := updCnode n (fun x => { x with blocks := 0, fails := x.fails + 1, todo := [], pos := 0, asked := false, begun := 0 }) s
      let s := updCamp e.campaign (fun x => { x with pass := tput 0 x.pass (link s n).x 0 }) s
      setCnode n (if e.fails ≥ 2 then 5 else 0) s
    else updCnode n (fun x => { x with blocks := got, todo := missingOf total (leAt p 5 3) (leAt p 8 8) }) s

/-- An acknowledged firmware message (R586). -/
def campAcked (n : Nat) (m : NnpMsg) (s : State) : State :=
  let e := cnode s n
  if e.campaign = 0xFF then s
  else match m.kind with
    | 0x28 =>
      let s := updCnode n (fun x => { x with begun := x.begun + 1 }) s
      if e.st = 0 && e.begun ≥ 1 then setCnode n 1 s else s
    | 0x2B => if e.st = 2 then setCnode n 3 (updCnode n (fun x => { x with asked := false }) s) else s
    | 0x2C => if e.st = 3 then setCnode n 4 s else s
    | _ => s

/-- A firmware message that was given up: FW_BEGIN and FW_COMMIT are queued again (R586). -/
def campLost (n : Nat) (m : NnpMsg) (s : State) : State :=
  let e := cnode s n
  if e.campaign = 0xFF || m.left > 1 then s
  else if m.kind = 0x28 && e.st ≤ 1 then queueMsg n 0 0x28 uniTries m.body s
  else if m.kind = 0x2C && e.st = 3 then queueMsg n 0 0x2C uniTries m.body s
  else s

/-- A JOIN of a campaign's node (R586, R587). -/
def campJoined (n version : Nat) (s : State) : State :=
  let e := cnode s n
  let v := (imageOfId s (camp s e.campaign).image).version
  if e.campaign = 0xFF then s
  else if e.st = 1 then sendBegin n (dropMsgs n 0x28 s)
  else if e.st = 2 && version = v then setCnode n 3 (updCnode n (fun x => { x with asked := false }) s)
  else if e.st = 3 && version != v then setCnode n 6 s
  else s

/-- The first STATUS that shows the new slot: FW_COMMIT (R267). -/
def campStatus (n : Nat) (s : State) : State :=
  let e := cnode s n
  if e.campaign = 0xFF || e.st != 3 || e.asked || (lnode s n).fwSlot == e.slot0 then s
  else queueMsg n 0 0x2C uniTries (le 2 (camp s e.campaign).tag) (updCnode n (fun x => { x with asked := true }) s)

/-- A node becomes LOST while SENDING or ACTIVATING (R586). -/
def campNodeLost (n : Nat) (s : State) : State :=
  let e := cnode s n
  if e.st = 1 || e.st = 3 then setCnode n 5 s else s

/-- FW_ACTIVATE_RESEND (R586, R588, R589). -/
def execFwActivateResend (n : Nat) (s : State) : Res :=
  doneIn [.host, .lantern, .upd, .out] s (
    let e := cnode s n
    if e.campaign = 0xFF || e.st != 2 || e.sends = 0 || s.clk.tide + 50 < e.at_ then s
    else if e.sends ≥ 3 then setCnode n 5 (dropMsgs n 0x2B s)
    else if (camp s e.campaign).st != 1 then s
    else sendActivate n (waveTide s e.campaign (e.at_ + 200)) s)

/-! ## Blocks (R265, R268) -/

/-- Blocks that a frame of n octets of limit carries, for a node version (R236, R241, R265). -/
def blocksPer (limit version : Nat) : Nat := (limit - (if version = 3 then 21 else 17) - 9) / 16

/-- A unicast FW_FRAG carries one block: two would exceed 31 bytes (R237). -/
def uniBlocks (limit version : Nat) : Nat := min 1 (blocksPer limit version)

/-- FW_FRAG from a block on (R241). -/
def fragBody (s : State) (c b k : Nat) : List Byte :=
  le 2 (camp s c).tag ++ le 3 b ++ slice (imageOfId s (camp s c).image).data (16 * b) (16 * k)

/-- The nodes of a campaign that are SENDING on a transceiver. -/
def receivers (s : State) (c x : Nat) : List Nat :=
  (campNodes s c).filter fun n => (cnode s n).st == 1 && (link s n).x == x && (link s n).st != 0 && (link s n).st != 4

/-- The next firmware frame of a campaign on a transceiver, with what it changes (R265): the broadcast pass, then missing
blocks, by broadcast where 8 or more nodes lack one; version-1 nodes by unicast. -/
def nextFrag (c x : Nat) (s : State) : Option (CellFrame × State) :=
  let ns := receivers s c x
  let total := blocksOf s c
  let wide := ns.filter fun n => (lnode s n).version ≥ 2
  let lim (ack : Bool) := psduLimit s.par.radio.region (modeOf s x) ack
  let kb := blocksPer (lim false) 2
  let frame (n b k : Nat) : CellFrame :=
    let body := fragBody s c b k
    { x, kind := if n = 0xFFFF then .broadcast else .unicast, node := n, ackReq := n != 0xFFFF, expiry := 0,
      psdu := nnpPsdu s { node := n, x, kind := 0x29, body, dsn := s.lantern.dsn + 1 } (nextTide s) }
  let pass := tget 0 (camp s c).pass x
  if !wide.isEmpty && pass < total && kb > 0 then
    some (frame 0xFFFF pass (min kb (total - pass)), updCamp c (fun y => { y with pass := tput 0 y.pass x (pass + kb) }) s)
  else match ns.find? fun n => (lnode s n).version == 1 && (cnode s n).pos < total && uniBlocks (lim true) 1 > 0 with
    | some n =>
      let k := uniBlocks (lim true) 1
      let b := (cnode s n).pos
      some (frame n b (min k (total - b)), updCnode n (fun e => { e with pos := b + k }) s)
    | none =>
      match ns.flatMap fun n => (cnode s n).todo with
      | [] => none
      | b0 :: l =>
        let b := l.foldl min b0
        let lack := ns.filter fun n => (cnode s n).todo.contains b
        let drop (n : Nat) (s : State) := updCnode n (fun e => { e with todo := e.todo.filter (· != b) }) s
        let many := (lack.filter fun n => (lnode s n).version ≥ 2)
        if many.length ≥ 8 && kb > 0 then some (frame 0xFFFF b 1, each many drop s)
        else match lack.find? fun n => uniBlocks (lim true) (lnode s n).version > 0 with
          | some n => some (frame n b 1, drop n s)
          | none => none

/-- A recall waits on a transceiver (R268). -/
def recallWaits (s : State) (x : Nat) : Bool :=
  (s.lantern.recalls.any fun r => r.x == x) || s.lantern.down.any fun m => m.kind == 0x19 && msgX s m == x

/-- The next cell of a transceiver is one that firmware schedules (R201, R268). -/
def rule5Cell (s : State) (x : Nat) : Bool :=
  match cellFor s x (nextTide s) with | .send _ | .receive _ | .shared => true | _ => false

/-- A rule-5 cell of a transceiver counts in the run of a hundred over which the share of firmware blocks is kept (R268). -/
def countRule5 (x : Nat) (s : State) : State :=
  updUpd (fun u =>
    let n := tget 0 u.cells x
    if n ≥ 100 then { u with cells := tput 0 u.cells x 1, fwCells := tput 0 u.fwCells x 0 }
    else { u with cells := tput 0 u.cells x (n + 1) }) s

/-- Firmware blocks for the next tide's cells, within the configured share of each hundred rule-5 cells, where nothing else
waits (R51, R268, R645). -/
def fillFirmware (s : State) : State :=
  each (List.range 8) (fun x s =>
    if !rule5Cell s x then s
    else
      let s := countRule5 x s
      let used := tget 0 s.upd.fwCells x
      if clusterOff s || !s.lantern.resultIn || s.pr.level ≥ 3 || recallWaits s x
          || (used + 1) * 100 > s.par.lantern.fwShare * tget 0 s.upd.cells x then s
      else match [0, 1, 2, 3].findSome? fun c =>
          if (camp s c).st == 1 || (camp s c).st == 2 then nextFrag c x s else none with
        | none => s
        | some (f, t) =>
          match placeFrame f t with
          | none => s
          | some t => updLant (fun l => { l with dsn := l.dsn + 1 }) (updUpd (fun u => { u with fwCells := tput 0 u.fwCells x (used + 1) }) t)) s

/-! ## Pauses and ends (R589) -/

/-- Campaigns pause while the application cluster is down, and resume (R589). -/
def campPause (down : Bool) (s : State) : State :=
  each [0, 1, 2, 3] (fun c s =>
    let x := camp s c
    if down && (x.st == 1 || x.st == 2) then setCampSt c 3 (updCamp c (fun y => { y with was := x.st }) s)
    else if !down && x.st == 3 then setCampSt c x.was s else s) s

/-- Ends a campaign: nodes in PENDING, SENDING or HELD are STOPPED (R586, R589). -/
def stopCamp (c : Nat) (s : State) : State :=
  let s := updCamp c (fun x => { x with st := 5 }) s
  let s := each ((campNodes s c).filter fun n => (cnode s n).st ≤ 2) (fun n s =>
    setCnode n 8 ([0x28, 0x29, 0x2B].foldl (fun s k => dropMsgs n k s) s)) s
  campEvent c s

/-- A takeover ends every campaign of the former pilot (R589). -/
def endCamps (s : State) : State :=
  each [0, 1, 2, 3] (fun c s => if [1, 2, 3].contains (camp s c).st then stopCamp c s else s) s

/-! ## Commands (R584, R585, R590, R591) -/

/-- A campaign still works on a node (R585). -/
def inCampaign (s : State) (n : Nat) : Bool :=
  let e := cnode s n
  e.campaign != 0xFF && ([1, 2, 3].contains (camp s e.campaign).st || (e.st == 3 && (camp s e.campaign).st == 5))

/-- A campaign number is in use. -/
def campUsed (s : State) (c : Nat) : Bool :=
  [1, 2, 3].contains (camp s c).st || (campNodes s c).any (inCampaign s)

/-- The targets of a request (R585). -/
def campTargets (s : State) (p : List Byte) : List Nat :=
  let m := imageOfId s (u16 p 2)
  match u8 p 1 with
  | 0 => (entriesOf 2 (u16 p 20) (p.drop 24)).map fun e => u16 e 0
  | 1 => (s.par.lantern.nodes.filter fun c => c.groups.contains (u8 p 4)).map (·.node)
  | _ => (s.lantern.nodes.filter fun x => x.2.st != 0 && x.2.cls == m.cls && x.2.hw == m.hw).map (·.1)

/-- A target is SKIPPED (R585). -/
def skipped (s : State) (m : NodeImage) (n : Nat) : Bool :=
  let e := lnode s n
  e.st == 0 || e.cls != m.cls || e.hw != m.hw || e.fwVersion == m.version

def campaignBad (p : List Byte) : Bool :=
  u8 p 0 > 3 || u8 p 1 > 2 || u8 p 5 > 1 || u16 p 6 == 0 || u16 p 6 > 4096 || u8 p 8 == 0 || u8 p 8 > 100 || u16 p 20 > 1024
    || ((entriesOf 2 (u16 p 20) (p.drop 24)).any fun e => u16 e 0 > 4095)

/-- UPD_CAMPAIGN_START (R585, R588, R591). -/
def campaignStartF (w : Nat) (p : List Byte) (s : State) : State :=
  let c := u8 p 0
  let i := u16 p 2
  let ns := (campTargets s p).foldr insertAscending []
  if campUsed s c || !(s.upd.images.any fun x => x.id == i) || ns.any (inCampaign s) then refuse w stBUSY s
  else if u8 p 5 == 0 && u64 p 12 < s.clk.tide + 200 then refuse w stLATE s
  else
    let s := each (campNodes s c) (fun n s => updCnode n (fun _ => {}) s) s
    let tag := (s.upd.tag + 1) % 65536
    let m := imageOfId s i
    let x : Campaign := { st := 1, image := i, tag, mode := u8 p 5, wave := u16 p 6, abortPct := u8 p 8, tide := u64 p 12,
                          startTide := s.clk.tide }
    let s := updCamp c (fun _ => x) (updUpd (fun u => { u with tag }) s)
    let s := each ns (fun n s => updCnode n (fun _ => { campaign := c, st := if skipped s m n then 7 else 0 }) s) s
    judgeCamp c (campEvent c (ok w [] s))

def execUpdCampaignStart (w : Nat) (s : State) : Res :=
  doneIn [.host, .upd, .out] s (onCmd w 0x0F48 campaignBad (fun p s => needCluster w (campaignStartF w p) s) s)

/-- UPD_CAMPAIGN_STOP (R586, R589). -/
def campaignStopF (w : Nat) (p : List Byte) (s : State) : State :=
  if [1, 2, 3].contains (camp s (u8 p 0)).st then stopCamp (u8 p 0) (ok w [] s) else refuse w stSTATE s

def execUpdCampaignStop (w : Nat) (s : State) : Res :=
  doneIn [.host, .lantern, .upd, .out] s (onCmd w 0x0F49 (fun p => u8 p 0 > 3) (fun p s => needCluster w (campaignStopF w p) s) s)

/-- UPD_IMAGE_DELETE (R584): an image that is not held is out of range. -/
def imageDeleteF (w : Nat) (p : List Byte) (s : State) : State :=
  let i := u16 p 0
  if !(s.upd.images.any fun x => x.id == i) then refuse w stFIELD s
  else if [0, 1, 2, 3].any fun c => campUsed s c && (camp s c).image == i then refuse w stBUSY s
  else ok w [] (updUpd (fun u => { u with images := u.images.filter fun x => x.id != i }) s)

def execUpdImageDelete (w : Nat) (s : State) : Res :=
  doneIn [.host, .upd, .out] s (onCmd w 0x0F4A anyPayload (imageDeleteF w) s)

/-- UPD_CAMPAIGN_STATUS (R590). -/
def campaignStatusBytes (s : State) (c : Nat) : List Byte :=
  let x := camp s c
  let ns := (campNodes s c).map fun n => (cnode s n).st
  le 1 c ++ le 1 x.st ++ le 2 x.image ++ le 2 ns.length ++ le 2 0
    ++ (List.range 9).flatMap (fun k => le 2 (ns.filter (· == k)).length) ++ le 8 x.startTide

def execUpdCampaignStatus (w : Nat) (s : State) : Res :=
  answered s (onCmd w 0x0F04 (fun p => u8 p 0 > 3) (fun p s => ok w (campaignStatusBytes s (u8 p 0)) s) s)

/-- UPD_CAMPAIGN_NODE (R590). -/
def campaignNodeBytes (s : State) (n : Nat) : List Byte :=
  let e := cnode s n
  le 2 n ++ le 1 e.campaign ++ le 1 e.st ++ le 8 e.at_ ++ le 4 e.blocks

def execUpdCampaignNode (w : Nat) (s : State) : Res :=
  answered s (onCmd w 0x0F05 (fun p => u16 p 0 > 4095) (fun p s => ok w (campaignNodeBytes s (u16 p 0)) s) s)

end Sys2Proof.Machine
end

