-- ==== Sys2Proof/Machine/Board.lean ====
section
/-! DEFINITION. Sys2Proof/Machine/Board.lean: GPIO and thermal derating (chapter 21). -/

namespace Sys2Proof.Machine

/-! ## GPIO (R637 to R639) -/

def gpioMode (s : State) (i : Nat) : Nat := (tget ({} : GpioPar) s.par.gpio i).mode

def updGpio (f : Gpio → Gpio) (s : State) : State := { s with gpio := f s.gpio }

/-- From the start of a full reset until the harbourmaster runs every GPIO is an input, and their modes hold from the
configuration check on (R637). -/
def gpioUp (s : State) : Bool := (s.sys.modState ≥ 2 || s.sys.warm) && s.sys.modState != 6

/-- The pin is driven with its commanded level (R637): mode 3 in the pilot role alone, and not on factory defaults. -/
def gpioDrives (s : State) (i : Nat) : Bool :=
  gpioUp s && match gpioMode s i with
    | 0 => false
    | 1 => true
    | 2 => !s.gpio.outs.getLsbD i
    | _ => !s.sys.tender && !s.cfg.defaultedBit

/-- The level of a pin now (R638). -/
def gpioLevel (s : State) (i : Nat) : Bool := if gpioDrives s i then s.gpio.outs.getLsbD i else s.gpio.levels.getLsbD i

def pins16 : List Nat := List.range 16

/-- A word of 16 bits from a bit of each pin. -/
def word16 (f : Nat → Bool) : Nat := pins16.foldl (fun a i => a + bit (f i) * 2 ^ i) 0

/-- Records the levels of pins that changed. -/
def showGpio (s : State) : State :=
  let now : BitVec 16 := BitVec.ofNat 16 (word16 (gpioLevel s))
  let outs := (pins16.filter fun i => gpioDrives s i && now.getLsbD i != s.gpio.shown.getLsbD i).map fun i =>
    Output.pin (pinGpio + i) (now.getLsbD i)
  emitAll outs (updGpio (fun g => { g with shown := now }) s)

/-- The initial levels of outputs (R637). -/
def gpioStart (s : State) : State :=
  showGpio (updGpio (fun g => { g with
    outs := BitVec.ofNat 16 (word16 fun i => (tget ({} : GpioPar) s.par.gpio i).level) }) s)

/-- SYS_GPIO_SET at its edge (R638). -/
def applyGpio (x : Setting) (s : State) : State :=
  match x with
  | .gpio m v => showGpio (updGpio (fun g => { g with outs := (g.outs &&& ~~~m) ||| (v &&& m) }) s)
  | _ => s

/-- GPIO_INPUT_EDGE (R637, R639): ns is the time after the tide edge. -/
def execGpioInputEdge (pin : Nat) (level : Bool) (ns : Nat) (s : State) : Res :=
  doneIn [.gpio] s (
    if pin > 15 || s.gpio.levels.getLsbD pin == level then s
    else
      let m : BitVec 16 := (1 : BitVec 16) <<< pin
      let s := updGpio (fun g => { g with levels := g.levels ^^^ m }) s
      let sel := (tget ({} : GpioPar) s.par.gpio pin).edges.getLsbD (if level then 0 else 1)
      if !gpioUp s || gpioMode s pin != 0 || !sel then s
      else updGpio (fun g =>
        let e := tget ({} : GpioEdge) g.edges pin
        let e := if e.count = 0 then { e with level, first := nowNs s ns } else e
        { g with edges := tput {} g.edges pin { e with count := e.count + 1 } }) s)

/-- SYS_GPIO_EDGE at the end of the tide (R639). -/
def gpioSummary (s : State) : State :=
  let l := s.gpio.edges
  let s := l.foldl (fun s x =>
    raise 0x1181 (le 1 x.1 ++ le 1 (bit x.2.level) ++ le 2 x.2.count ++ leI 8 x.2.first) s) s
  updGpio (fun g => { g with edges := [] }) s

/-- SYS_GPIO (R638). -/
def sysGpioBytes (s : State) : List Byte :=
  le 2 (word16 (gpioLevel s)) ++ le 2 s.gpio.outs.toNat
    ++ le 4 (pins16.foldl (fun a i => a + gpioMode s i * 4 ^ i) 0)

def execSysGpio (w : Nat) (s : State) : Res :=
  answered s (onCmd w 0x1103 anyPayload (fun _ s => ok w (sysGpioBytes s) s) s)

/-- SYS_GPIO_SET (R638). -/
def sysGpioSetF (w : Nat) (p : List Byte) (s : State) : State :=
  let m : BitVec 16 := BitVec.ofNat 16 (u16 p 0)
  if pins16.any fun i => m.getLsbD i && gpioMode s i == 0 then refuse w stFIELD s
  else changeAt w (u64 p 4) (.gpio m (BitVec.ofNat 16 (u16 p 2))) s

def execSysGpioSet (w : Nat) (s : State) : Res := doneIn [.host, .changes, .out] s (onCmd w 0x1141 anyPayload (sysGpioSetF w) s)

/-! ## Thermal derating (R645, R646) -/

/-- Entry temperature of a level in 0.1 °C (R645). -/
def thermalEntry (level : Nat) : Int := 1000 + 50 * level

/-- The highest level whose entry temperature a mean exceeds (R645). -/
def thermalTop (mean : Int) : Nat :=
  if mean > 1200 then 4 else if mean > 1150 then 3 else if mean > 1100 then 2 else if mean > 1050 then 1 else 0

/-- The level after a mean (R645). -/
def thermalNext (level : Nat) (mean : Int) : Nat :=
  if thermalTop mean > level then thermalTop mean
  else if level > 0 && mean ≤ thermalEntry level - 30 then level - 1 else level

/-- Severity of a level change's record (R646). -/
def thermalSev (level : Nat) : Nat := match level with | 0 => 2 | 1 => 4 | 2 => 4 | 3 => 5 | _ => 6

/-- What a level change does beside its rates, which follow the level (R645): the monitor antenna's channels, the bands,
the application cluster. -/
def thermalApply (old new : Nat) (s : State) : State :=
  let s := if old < 3 && new ≥ 3 then
      fsDown (each ((List.range 192).map (· + 192)) (fun c s => setChan c {} s)
        (updGnss (fun g => { g with starts := g.starts.filter fun x => x.1 < 192 }) s))
    else s
  if old < 4 && new = 4 then
    updGnss (fun g => { g with queue := [], running := [] })
      { s with cluster := { s.cluster with declare_ := true, deferred := true } }
  else if old = 4 && new < 4 then { s with cluster := { s.cluster with deferred := false } }
  else s

/-- THERMAL_EVALUATION (R645, R646): mean is the mean plate temperature of the preceding 100 tides in 0.1 °C. -/
def execThermalEvaluation (mean : Int) (s : State) : Res :=
  doneIn [.cluster, .host, .gnss, .pr, .log, .out] s (
    if s.clk.tide % 100 != 0 then s
    else
      let old := s.pr.level
      let new := thermalNext old mean
      let s := updPr (fun p => { p with mean, peak := max p.peak mean, level := new }) s
      if new = old then s
      else
        let s := raise 0x0E84 (le 1 old ++ le 1 new ++ leI 1 (mean / 10) ++ le 1 0) s
        thermalApply old new (logIt 0x0E 40 (thermalSev new) 0 [old, new] s))

/-- The level from the first plate reading of a full reset (R645). -/
def thermalStart (plate : Int) (s : State) : State :=
  let l := thermalTop plate
  thermalApply 0 l (updPr (fun p => { p with level := l, mean := plate, peak := plate }) s)

end Sys2Proof.Machine
end

