-- ==== Sys2Proof/Machine/Exports.lean ====
section
/-! DEFINITION. Sys2Proof/Machine/Exports.lean: exports of the logbook to host queue windows (R604). -/

namespace Sys2Proof.Machine

/-- One item of an export: a record, or a range of dropped records; its first and last seq (R604). -/
structure ExportItem where
  first : Nat
  last : Nat
  record : Option LogRec

/-- The records held of a range of seq, with the ranges between them: every number was stored once (R594), so what is not held
was dropped by a reclaim (R604). -/
def exportSpan (from_ to_ : Nat) : List LogRec → List ExportItem
  | [] => if from_ ≤ to_ then [{ first := from_, last := to_, record := none }] else []
  | r :: rest =>
    (if from_ < r.seq then [{ first := from_, last := r.seq - 1, record := none }] else [])
      ++ { first := r.seq, last := r.seq, record := some r } :: exportSpan (r.seq + 1) to_ rest

/-- What an export still has to write, in order (R604). -/
def exportItems (s : State) (e : Export) : List ExportItem :=
  let top := min (e.to_ + 1) s.log.seq
  if top ≤ e.next then []
  else (exportSpan e.next (top - 1) ((storedRecs s).filter fun r => e.next ≤ r.seq && r.seq < top)).filter fun x =>
    match x.record with | some r => r.sev ≥ e.minSev | none => true

/-- The bytes of an item: a record, or the GAP record of a dropped range (R604, R605). -/
def itemBytes (s : State) (x : ExportItem) : List Byte :=
  match x.record with
  | some r => recBytes r
  | none => recBytes (recOf 0x10F3 4 0 (le 8 x.first ++ le 8 x.last) s)

/-- Items that fit in a number of bytes. -/
def takeItems (s : State) : Nat → List ExportItem → List ExportItem
  | _, [] => []
  | n, x :: t =>
    let k := (itemBytes s x).length
    if k ≤ n then x :: takeItems s (n - k) t else []

def setExport (e : Export) (s : State) : State :=
  { s with log := { s.log with exports := s.log.exports.map fun x => if x.job == e.job then e else x } }

def dropExport (e : Export) (s : State) : State :=
  { s with log := { s.log with exports := s.log.exports.filter fun x => x.job != e.job } }

/-- The next record of an export: kind 5, up to 16 kB, only where the window can admit it (R604). -/
def exportStep (e : Export) (s : State) : State :=
  let items := exportItems s e
  let now := takeItems s 16384 items
  let b := now.flatMap (itemBytes s)
  let r := if now.isEmpty then (1, s)
    else if !admits (128 + e.window) attHm (berths b.length) s then (0, s)
    else admitAll [128 + e.window] attHm (berths b.length) (berths b.length) (fun _ => { kind := 5, bytes := b }) s
  if r.1 = 0 then s
  else
    let past := match items.drop now.length with
      | x :: _ => x.first
      | [] => max e.next (min (e.to_ + 1) s.log.seq)
    if past > e.to_ then finish e.job stOK (dropExport e r.2) else setExport { e with next := past } r.2

/-- LOG_EXPORT_WRITE (R604). -/
def execLogExportWrite (w : Nat) (s : State) : Res :=
  doneIn [.host, .stats, .pool, .log, .out] s (match s.log.exports.find? fun e => e.job.win == w && e.job.sid == callerSid s w with
    | some e => if ownsQwin s e.window e.job.sid then exportStep e s else s
    | none => s)

/-- The last stored seq. -/
def lastSeq (s : State) : Nat := s.log.seq - 1

def logExportBad (p : List Byte) : Bool := u8 p 0 > 15 || u8 p 1 > 7

/-- LOG_EXPORT (R604, R606). -/
def logExportF (w : Nat) (p : List Byte) (s : State) : State :=
  let to_ := if u64 p 12 = 0 then lastSeq s else u64 p 12
  if u64 p 4 > to_ then refuse w stFIELD s
  else if !winOwnsQwin s w (u8 p 0) then refuse w stDENIED s
  else if s.log.exports.length ≥ 2 || s.log.exports.any (fun e => e.job.sid == callerSid s w) then refuse w stBUSY s
  else
    let e : Export := { job := jobOf w s, window := u8 p 0, minSev := u8 p 1, next := u64 p 4, to_ }
    respond w stACCEPTED [] { s with log := { s.log with exports := s.log.exports ++ [e] } }

def execLogExport (w : Nat) (s : State) : Res := doneIn [.host, .log, .out] s (onCmd w 0x1040 logExportBad (logExportF w) s)

/-- LOG_EXPORT_STOP (R604, R606). -/
def logExportStopF (w : Nat) (_ : List Byte) (s : State) : State :=
  match s.log.exports.find? fun e => e.job.sid == callerSid s w with
  | some e => finish e.job stCANCELLED (dropExport e (ok w [] s))
  | none => refuse w stSTATE s

def execLogExportStop (w : Nat) (s : State) : Res := doneIn [.host, .log, .out] s (onCmd w 0x1041 anyPayload (logExportStopF w) s)

end Sys2Proof.Machine
end

