-- ==== Sys2Proof/Machine/OnAir.lean ====
section
/-! DEFINITION. Sys2Proof/Machine/OnAir.lean: what the transceivers send in their cells and slots, and what they receive
(chapters 07, 11 and 17). -/

namespace Sys2Proof.Machine

/-! ## Frames the module builds -/

def hasFailedDie (s : State) : Bool := (die s 0).st == 2 || (die s 1).st == 2

/-- An EB (R210): the claim's flags, JOIN_CLOSED and DIE_FAILED. -/
def ebBytes (s : State) (x : Nat) : List Byte :=
  let k := s.clk.tide
  let flags := claimFlags s (s.fleet.horn.halt == allHalted) + 32 * bit (!takesJoins s x) + 64 * bit (hasFailedDie s)
  let b := le 2 0xA308 ++ le 2 s.par.radio.pan ++ le 2 (0xFE00 + x) ++ le 1 0x69 ++ le 1 s.par.radio.ebKeyIndex ++ le 2 0x3F00
    ++ le 2 0x8808 ++ le 2 0x1A06 ++ le 5 (asnSub k) ++ le 1 0 ++ le 2 0xF800 ++ le 1 1 ++ le 2 (claim s) ++ le 4 k
    ++ le 2 s.par.radio.segment ++ le 1 flags ++ le 1 (tget 0 s.par.radio.recChannel x)
  micFrame s.par.radio.ebKey (Config.transceiverEui x) (asnSub k) b

/-- A horn's copy of HB transceiver j (R367, R368). -/
def hornBytes (s : State) (j : Nat) (h : Horn) : List Byte :=
  let b := le 2 0xA949 ++ le 2 s.par.radio.pan ++ le 2 0xFFFF ++ le 2 (0xFE08 + j) ++ le 1 0x69 ++ le 1 s.par.fleet.hornKey
    ++ le 1 2 ++ le 1 (bit (h.ootSeq != 0) + 2 * h.live.toNat) ++ le 2 h.claim ++ le 4 h.tide ++ le 2 s.par.radio.segment
    ++ le 1 h.flags.toNat ++ le 1 h.ootSeq ++ le 2 h.frozenUs ++ le 8 h.halt.toNat
  let b := b ++ gcmTag (key16 (tget [] s.par.fleet.hornTag s.par.fleet.hornKey))
    (le 5 h.tide ++ le 2 s.par.radio.segment ++ le 1 (8 + j) ++ le 1 h.ootSeq ++ le 1 2 ++ le 2 0) b
  micFrame (tget [] s.par.fleet.hornMac s.par.fleet.hornKey) (Config.transceiverEui (8 + j)) (asnHb h.tide 0) b

/-- Clamps an integer between two bounds. -/
def clamp (lo hi v : Int) : Int := max lo (min hi v)

/-- An Enh-Ack (R211). -/
def enhAckBytes (dst dsn : Nat) (fp nack : Bool) (err : Int) : List Byte :=
  let tc := ((clamp (-2047) 2047 (-err)) % 4096).toNat
  let m := le 2 (if fp then 0x2A52 else 0x2A42) ++ le 1 dsn ++ le 2 dst ++ le 2 0x0F02 ++ le 2 (tc + 0x8000 * bit nack)
  withFcs m

/-! ## Whether a transceiver runs -/

/-- It may transmit: a region is configured, the module is pilot, and no power failure has turned the transmitters off
(R126, R537, R540). -/
def maySend (s : State) (x : Nat) : Bool := onAir s x && s.par.radio.region != 0 && !s.sys.tender && !s.pr.powerFail

/-- Ends a transceiver's cell of this tide. -/
def endCell (x : Nat) (s : State) : State :=
  { s with radio := { s.radio with cells := tput .idle s.radio.cells x .idle } }

/-- The budget entry that a transceiver's channel of this tide falls under (R218). -/
def entryX (s : State) (x : Nat) : Nat := entryOfChannel s x (chanNow s x)

/-- Whether a busy CCA stops a transmission: where listen-before-talk is on (R217). -/
def ccaStops (s : State) (x : Nat) (busy : Bool) : Bool := busy && (entryOf s (entryX s x)).lbt

/-- Sends a frame after CCA and ledger admission; answers whether it went on air (R217, R219). -/
def transmit (x slot : Nat) (k : AirKind) (busy : Bool) (psdu : List Byte) (s : State) : Bool × State :=
  if ccaStops s x busy then (false, count x 11 s)
  else
    let r := ledgerAdmits x (entryX s x) (airX s x psdu.length) k s
    if r.1 then (true, count x 0 (emit (.radio x s.clk.tide slot psdu) r.2)) else (false, r.2)

/-! ## Cells -/

/-- The oldest indirect frame of a node leaves its queue. -/
def popIndirect (node : Nat) (s : State) : State :=
  { s with radio := { s.radio with indirect := s.radio.indirect.eraseP fun f => f.node == node } }

/-- Waits for the acknowledgement of a transmission (R222). -/
def awaitAck (x node : Nat) (s : State) : State :=
  { s with radio := { s.radio with waiting := (x, node) :: s.radio.waiting } }

/-- A frame of firmware's in its cell (R197, R203, R217, R219, R222, R260, R262): a message that repeats counts the cells in which
it was on air, and a released frame that is held back waits for the next cell. -/
def sendScheduled (x slot : Nat) (busy : Bool) (f : CellFrame) (s : State) : State :=
  if f.kind != .broadcast && ((link s f.node).x != x || (link s f.node).st == 0 || (link s f.node).st == 4) then
    returned f.node stSTATE s
  else
    let r := transmit x slot .other busy f.psdu s
    if !r.1 then returned f.node stBUSY r.2
    else if f.kind == .unicast && f.ackReq then awaitAck x f.node r.2
    else returned f.node stOK (if f.kind == .broadcast then bcastSent x r.2 else r.2)

/-- A follow-on cell: the node's oldest indirect frame (R201, R216). -/
def sendFollowOn (x slot : Nat) (busy : Bool) (n : Nat) (s : State) : State :=
  match s.radio.indirect.find? fun i => i.node == n with
  | none => s
  | some i =>
    if (link s n).x != x || (link s n).st == 4 then s
    else
      let r := transmit x slot .other busy i.psdu (popIndirect n s)
      if r.1 then awaitAck x n r.2 else returned n stBUSY r.2

/-- A join answer in a recovery cell (R244). -/
def sendJoin (x : Nat) (busy : Bool) (s : State) : State :=
  match joinWaits s x with
  | none => s
  | some n =>
    match (lnode s n).join with
    | none => s
    | some j =>
      let r := transmit x 0 .other busy (joinPsdu s n j s.clk.tide) s
      if r.1 then awaitAck x n r.2 else r.2

/-- The transmission of a transceiver's cell (R201, R209): beacons only while the harbourmaster runs. -/
def runCell (x slot : Nat) (busy : Bool) (s : State) : State :=
  let c := cellNow s x
  let s := if sends s x c then endCell x s else s
  if !maySend s x then cancelCell c s
  else match c with
    | .eb =>
      if !s.sys.hmRuns then s
      else
        let r := passRadioCtrl (dieOf x) (ebBytes s x) s
        if r.1 then (transmit x slot .beacon busy (ebBytes s x) r.2).2 else r.2
    | .send f => sendScheduled x slot busy f s
    | .followOn n => sendFollowOn x slot busy n s
    | .recovery => sendJoin x busy s
    | _ => s

/-- SUBGHZ_CELL_TX (R199). -/
def execSubghzCellTx (x : Nat) (busy : Bool) (s : State) : Res := doneIn [.host, .stats, .pool, .radio, .lantern, .out] s (if x > 7 then s else runCell x 0 busy s)

/-- HB_SLOT_START (R205): slots 1 and 2 receive vehicles; slot 3 runs the cells of end nodes. -/
def execHbSlotStart (slot : Nat) (busy : BitVec 4) (s : State) : Res :=
  doneIn [.host, .stats, .pool, .radio, .lantern, .out] s (if slot != 3 then s else each [0, 1, 2, 3] (fun j s => runCell (8 + j) 3 (busy.getLsbD j) s) s)

/-! ## Horns -/

/-- One copy of a horn; answers whether it went on air (R206, R366): the ledger never holds it. -/
def sendHorn (j : Nat) (busy : Bool) (h : Horn) (s : State) : Bool × State :=
  if maySend s (8 + j) && s.sys.hmRuns then transmit (8 + j) 0 .horn busy (hornBytes s j h) s else (false, s)

/-- HORN_TRANSMIT (R205, R208, R366, R381): the content leaves the radio control queues, and any out-of-tide horn ends. -/
def execHornTransmit (ccaBusy : BitVec 4) (s : State) : Res :=
  doneIn [.host, .stats, .radio, .pool, .fleet, .out] s (
    let s := (takeCtrl 113 (takeCtrl 112 s).2).2
    let s := updFleet (fun x => { x with ootWait := 0 }) s
    if s.fleet.horn.tide != s.clk.tide then s
    else
      let h := s.fleet.horn
      let r := (liveHb s).foldl (fun (r : Bool × State) j =>
        let q := sendHorn j (ccaBusy.getLsbD j) h r.2
        (r.1 || q.1, q.2)) (false, s)
      if r.1 then count 15 7 r.2 else r.2)

/-- A horn on air from us takes the slots that it overlaps: what they receive is lost, and a slot-3 cell that has not ended
sends nothing (R367, R375). -/
def loseSlot (x us : Nat) (s : State) : State :=
  let hit := [1, 2, 3].filter fun n => 2500 * n < us + 1920 && us < 2500 * (n + 1)
  let s := updFleet (fun f => { f with lost := hit.map (fun n => (x, n)) ++ f.lost }) s
  if us + 1920 ≤ 7500 then s
  else if sends s x (cellNow s x) then cancelCell (cellNow s x) (endCell x s)
  else s

/-- OOT_HORN_TRANSMIT (R208, R375, R381): us is the time since the tide edge. -/
def execOotHornTransmit (hb us : Nat) (s : State) : Res :=
  doneIn [.host, .stats, .pool, .radio, .fleet, .out] s (
    if hb > 3 || !s.fleet.ootWait.getLsbD hb then s
    else
      let s := updFleet (fun x => { x with ootWait := x.ootWait &&& ~~~((1 : BitVec 4) <<< hb) }) s
      let q := passRadioCtrl (dieOf (8 + hb)) (hornBytes s hb s.fleet.oot) (loseSlot (8 + hb) us s)
      let r := if q.1 then sendHorn hb false s.fleet.oot q.2 else q
      if !r.1 then r.2
      else if r.2.fleet.ootSent then r.2
      else count 15 8 (updFleet (fun x => { x with ootSent := true }) r.2))

/-- OOT_HORN_CCA_TIMEOUT (R208). -/
def execOotHornCcaTimeout (hb : Nat) (s : State) : Res :=
  doneIn [.stats, .fleet] s (
    if hb > 3 || !s.fleet.ootWait.getLsbD hb then s
    else count (8 + hb) 11 (updFleet (fun x => { x with ootWait := x.ootWait &&& ~~~((1 : BitVec 4) <<< hb) }) s))

/-! ## Reception -/

/-- Latest end of a frame or an acknowledgement, in µs from the start of the cell or slot (R199, R206). -/
def lastEnd (x : Nat) : Int := if x < 8 then 9700 else 2400

/-- End of a received frame in µs from the start of its cell or slot (R199, R206). -/
def frameEnd (s : State) (x : Nat) (f : RadioFrame) : Int := (if x < 8 then 1000 else 200) + f.errUs + airX s x f.len

/-- Guard of a cell in µs, and the latest end: a frame outside them is not received (R199, R206, R221, R223, R224). -/
def inWindow (s : State) (x : Nat) (c : CellUse) (f : RadioFrame) : Bool :=
  let err := f.errUs
  frameEnd s x f ≤ lastEnd x && if x ≥ 8 then err.natAbs ≤ 100
  else err ≥ -800 && match c with
    | .recovery => true
    | .receive n =>
      let l := link s n
      if l.st == 3 then err.natAbs ≤ min 4000 (500 + l.err.natAbs) else if l.st == 4 then err.natAbs ≤ 4000
      else err.natAbs ≤ 500
    | _ => err.natAbs ≤ 500

/-- A reception that an out-of-tide horn took: its slot is lost, or the request fell into the frame (R208, R375). -/
def taken (s : State) (x : Nat) (f : RadioFrame) : Bool :=
  let t0 : Int := 2500 * f.slot
  x ≥ 8 && (s.fleet.lost.contains (x, f.slot)
    || s.fleet.live.getLsbD (x - 8) && s.fleet.ootAt.any fun t => t0 + 200 + f.errUs ≤ t && t < t0 + frameEnd s x f)

/-- The transceiver receives in a slot of this tide (R201, R205, R237, R540): a tender only receives. -/
def receives (s : State) (x slot : Nat) (c : CellUse) : Bool :=
  onAir s x && (
    if x ≥ 8 && slot != 3 then slot != 0 || s.sys.tender
    else if c == .recovery then takesJoins s x && (s.sys.tender || (joinWaits s x).isNone)
    else if s.sys.tender then true
    else c == .shared || (match c with | .receive _ => true | _ => false))

/-- The address filter (R212): an EB carries no destination. -/
def passes (s : State) (x : Nat) (f : RadioFrame) : Bool :=
  f.version == 2 && (match f.dstPan with | some p => p == s.par.radio.pan | none => true)
    && (f.isEb || f.dst == 0xFFFF || f.dst == 0xFE00 + x || f.dst == Config.transceiverEui x)

/-- The metadata of a delivered frame of an entry (R214, R216). -/
def rxMeta (x asn a : Nat) (grant : Bool) (f : RadioFrame) (s : State) : RxMeta :=
  { x, src := a, sfdTide := s.clk.tide, sfdNs := f.sfdNs, asn, epoch := (link s a).epoch, rssi := f.rssi, err := f.errUs, grant }

/-- The pool admits a received frame with its metadata from its die; the running cluster takes it at once (R214, R420, R424,
R425), over the lighter channel of the die's link (R440, log entry 112). -/
def poolTakes (m : RxMeta) (f : RadioFrame) (s : State) : Bool × State :=
  let d := dieOf m.x
  let n := berths f.payload.length
  let r := admitAll [172 + d] (attRadio d) n n (fun _ => { bytes := f.payload, rx := some m }) s
  if r.1 = 0 then (false, r.2)
  else
    let t := countBursts (22 + d) f.payload.length r.2
    (true, if s.cluster.st == 2 then clearQ (172 + d) (emit (.received m f.payload) t) else t)

/-- Frame pending may be granted for the cell two tides on (R216, R262). -/
def mayGrant (s : State) (x n : Nat) (f : RadioFrame) : Bool :=
  let k := s.clk.tide + 2
  n < 0x1000 && f.dst != 0xFFFF && ((link s n).st == 2 || (link s n).st == 3) && (s.radio.indirect.any fun i => i.node == n)
    && !ebCell s x k && !recoveryCell x k && !(s.radio.grants.any fun g => g.1 == x && g.2.1 == k) && !s.lantern.parked.contains x

/-- Start of the Enh-Ack of a frame leaves time for its end (R199, R206). -/
def ackInTime (s : State) (x : Nat) (f : RadioFrame) : Bool :=
  frameEnd s x f + (if x < 8 then 1000 else 300) + airX s x 11 ≤ lastEnd x

/-- The acknowledgement of a frame goes on air (R199, R217, R219). -/
def ackGoes (s : State) (x : Nat) (f : RadioFrame) : Bool :=
  f.ackReq && maySend s x && ackInTime s x f && !ccaStops s x f.ccaBusy && (ledgerAdmits x (entryX s x) (airX s x 11) .beacon s).1

/-- Sends an Enh-Ack (R199, R211, R216, R217, R219): its pending bit grants the follow-on cell. -/
def sendAck (x slot n dst : Nat) (fp nack : Bool) (f : RadioFrame) (s : State) : State :=
  if !maySend s x || !ackInTime s x f then s
  else if ccaStops s x f.ccaBusy then count x 11 s
  else
    let b := enhAckBytes dst f.dsn fp nack f.errUs
    let r := ledgerAdmits x (entryX s x) (airX s x 11) .beacon s
    if !r.1 then r.2
    else
      let s := count x (if nack then 9 else 10) (emit (.radio x s.clk.tide slot b) r.2)
      if fp then { s with radio := { s.radio with grants := (x, s.clk.tide + 2, n) :: s.radio.grants } } else s

/-- Types of upward messages of joined nodes (R241). -/
def upTypes : List Nat := [0x20, 0x21, 0x22, 0x23, 0x24, 0x2A]

/-- The running lantern service counts an upward message that breaks R241 by its header: its type, or a version that is not its
node's (R238, R243). Each message's row judges what follows. -/
def judgeUp (p : List Byte) (s : State) : State :=
  let v := (lnode s (u16 p 2 % 4096)).version
  if clusterOff s || (4 ≤ p.length && u8 p 0 / 64 == v && upTypes.contains (u8 p 0 % 64)
      && (v ≥ 2 || u8 p 0 % 64 != 0x24)) then s
  else malformedMsg s

/-- An unsecured JOIN in a recovery cell (R214): every one is acknowledged; the short destination of its acknowledgement is
unstated (log entry 1). -/
def joinRx (x : Nat) (f : RadioFrame) (s : State) : State :=
  let r := poolTakes (rxMeta x (asnSub s.clk.tide) 0xFFFF false f s) f s
  let s := if r.1 then count x 2 r.2 else r.2
  let s := if !r.1 || clusterOff s || u8 f.payload 0 == 0x01 then s else malformedMsg s
  draw (sendAck x f.slot 0 (drawn s % 65536) false (!r.1) f s)

/-- Records an accepted frame in its entry (R214, R222): a node's link state follows the error, and a vehicle's too. -/
def recordRx (a asn : Nat) (f : RadioFrame) (s : State) : State :=
  let l := link s a
  let l := { l with lastAsn := asn, lastDsn := f.dsn, err := f.errUs, rssi := f.rssi, lastRx := s.clk.tide }
  if a ≥ 0x1000 then setLink a { l with st := if f.errUs.natAbs > 250 then 3 else 2, fails := 0 } s
  else exchangeGood a f.errUs true (setLink a l s)

/-- What follows the entry lookup of R214; answers whether the frame is delivered. -/
def acceptRx (x a asn : Nat) (f : RadioFrame) (s : State) : Bool × State :=
  let l := link s a
  if (f.level == 0 && l.st != 1) || !([0, 1, 5, 6].contains f.level) || (f.level != 0 && !f.micOk) then (false, count x 6 s)
  else if asn ≤ l.lastAsn then (false, count x 7 s)
  else
    let dup := f.dsn == l.lastDsn
    let fp := mayGrant s x a f
    let m := rxMeta x asn a (fp && ackGoes s x f) f s
    let s := recordRx a asn f s
    let r := if dup then (true, s) else poolTakes m f s
    let s := if f.ackReq then sendAck x f.slot a f.src fp (!r.1) f r.2 else r.2
    if dup then (false, count x 8 s) else if r.1 then (true, count x 2 s) else (false, s)

/-- A horn or an EB of another module (R214, R546, R547): the frame's own checks and the claim rule. -/
def hearPilot (x : Nat) (f : RadioFrame) (s : State) : State :=
  let p := f.payload
  let o := if f.isHorn then 12 else 23
  if !f.micOk then count x 6 s
  else if u16 p (o + 6) != s.par.radio.segment then s
  else
    let r := hear (u16 p o) (fullTide s.clk.tide (u32 p (o + 2))) s
    if !r.1 then r.2
    else if f.isEb then updPr (fun y => { y with ebs := tput 0 y.ebs x (s.clk.ran + 1) }) r.2
    else if u8 p 11 % 2 == 1 then r.2
    else updPr (fun y => { y with horns := (x - 8, s.clk.ran) :: y.horns.filter fun h => s.clk.ran ≤ h.2 + 100 }) r.2

/-- RADIO_FRAME_RX (R212 to R216, R222): node frames, joins, and the horns and EBs of another module. A vehicle's frame
stands in its own answer cell alone (R379). -/
def radioRx (x : Nat) (f : RadioFrame) (s : State) : State :=
  let c := if x ≥ 8 && f.slot != 3 then .shared else cellNow s x
  let asn := if x < 8 then asnSub s.clk.tide else asnHb s.clk.tide f.slot
  if !receives s x f.slot c || taken s x f || !inWindow s x c f then s
  else if !f.fcsOk then count x 3 s
  else if !passes s x f then count x 4 s
  else if f.isHorn || f.isEb then hearPilot x f s
  else if f.srcExt || f.src > 4095 || (link s f.src).st == 0 then
    if c == .recovery && f.level == 0 && f.srcExt then joinRx x f s else count x 4 s
  else if (link s f.src).x != x then count x 5 s
  else
    let r := acceptRx x f.src asn { f with ackReq := f.ackReq && (x < 8 || f.slot == 3) } s
    let s := if c == .receive f.src then { r.2 with radio := { r.2.radio with heard := (x, f.src) :: r.2.radio.heard } } else r.2
    if r.1 && hears f.src s then judgeUp f.payload (frameAccepted f.src s) else s

def execRadioFrameRx (x : Nat) (f : RadioFrame) (s : State) : Res := doneIn [.host, .stats, .radio, .lantern, .pool, .pr, .out, .free] s (if x > 11 then s else radioRx x f s)

/-- VEHICLE_ACK_RX (R214, R379). -/
def vehicleRx (x slot : Nat) (f : RadioFrame) (s : State) : State :=
  let v := f.src - 0x1000
  let here := f.src ≥ 0x1000 && v < 256 && vehicleCfg s v && answerCell s v s.clk.tide == some (x - 8, slot)
  if !onAir s x || taken s x { f with slot } || !inWindow s x .shared f then s
  else if !f.fcsOk then count x 3 s
  else if !passes s x f || f.srcExt || !here then count x 4 s
  else
    let l := link s f.src
    if l.st == 0 then count x 4 s
    else if l.x != x then count x 5 s
    else
      let r := acceptRx x f.src (asnHb s.clk.tide slot) { f with ackReq := false } s
      if r.1 && u8 f.payload 0 == 3 && u8 f.payload 1 == v && f.payload.length == 20 then vehicleAck v f.payload r.2 else r.2

def execVehicleAckRx (x slot : Nat) (f : RadioFrame) (s : State) : Res :=
  doneIn [.host, .stats, .radio, .pool, .fleet, .log, .out] s (if x < 8 || x > 11 || slot == 0 || slot == 3 then s else vehicleRx x slot f s)

end Sys2Proof.Machine
end

