-- ==== Sys2Proof/Machine/NodeRows.lean ====
section
/-! DEFINITION. Sys2Proof/Machine/NodeRows.lean: rows of the nodes that several units share (chapters 07, 08, 13 and 18):
acknowledgements, joins, status and the loading of cells. -/

namespace Sys2Proof.Machine

/-- A join answer of the node waits for its acknowledgement on a transceiver (R244, R246). -/
def joinOn (s : State) (x n : Nat) : Bool :=
  s.radio.waiting.contains (x, n) && (match (lnode s n).join with | some j => j.x == x | none => false)

/-- The exchange of a join answer ends: a node that rejoins elsewhere keeps its link. -/
def endJoin (x n : Nat) (s : State) : State :=
  { s with radio := { s.radio with waiting := s.radio.waiting.filter (· != (x, n)) } }

/-- What an acknowledgement means to the services: the node's message that a cell carried. -/
def acked (n : Nat) (s : State) : State :=
  match msgSent n s with
  | none => s
  | some m => campAcked n m (lanternAcked n s)

/-- ENH_ACK_RX (R222). -/
def execEnhAckRx (x node : Nat) (errUs : Int) (s : State) : Res :=
  doneIn [.host, .radio, .lantern, .upd, .log, .out, .free] s (
    if joinOn s x node then
      let s := endJoin x node s
      joinAcked node (if (link s node).x == x then exchangeGood node errUs false s else s)
    else if s.radio.waiting.contains (x, node) && (link s node).x == x then acked node (enhAck x node errUs s)
    else s)

/-- What a lost exchange means to the services. -/
def lost (n : Nat) (s : State) : State :=
  match msgSent n s with
  | none => syncNode n s
  | some m => campLost n m (lanternLost n s)

/-- A transmission gets no acknowledgement (R222). -/
def noAck (x node : Nat) (s : State) : State :=
  if joinOn s x node then
    let s := count x 1 (endJoin x node s)
    joinLost node (syncNode node (if (link s node).x == x then exchangeFailed node s else s))
  else if s.radio.waiting.contains (x, node) then lost node (ackLost x node s)
  else s

/-- ACK_TIMEOUT (R222). -/
def execAckTimeout (x node : Nat) (s : State) : Res :=
  doneIn [.host, .stats, .radio, .lantern, .upd, .log, .out] s (noAck x node s)

/-- Transmissions of the ending tide that are still without acknowledgement get none any more (R199, R206, R222). -/
def endWaits (s : State) : State := s.radio.waiting.foldl (fun s x => noAck x.1 x.2 s) s

/-- The frames that the cluster scheduled pass their transceivers' transmit queues (R32, R420); one that is refused returns
(R428, log entry 112). -/
def passRadio (s : State) : State :=
  let r := s.radio.next.foldl (fun (a : List CellFrame × State) f =>
    if f.kind == .receive then (a.1 ++ [f], a.2)
    else
      let q := passData (160 + f.x) attCluster (berths f.psdu.length) a.2
      if q.1 then (a.1 ++ [f], q.2) else (a.1, returned f.node stNORES q.2)) ([], s)
  { r.2 with radio := { r.2.radio with next := r.1 } }

/-- FRAME_LOAD (R48): messages and firmware blocks fill the free cells, and the cells are loaded. -/
def execFrameLoad (s : State) : Res :=
  doneIn [.host, .stats, .radio, .lantern, .pool, .upd, .log, .out] s (loadCells (passRadio (fillFirmware (fillCells (endWaits s)))))

/-- RX_WINDOW_END (R222, R247). -/
def execRxWindowEnd (x node : Nat) (s : State) : Res := doneIn [.host, .radio, .lantern, .out] s (syncNode node (rxEnd x node s))

/-- JOIN (R234, R244, R246). -/
def execNodeJoin (x eui : Nat) (p : List Byte) (s : State) : Res :=
  doneIn [.host, .radio, .lantern, .upd, .out, .free] s (
    let t := joinF x eui p s
    match s.par.lantern.nodes.find? fun c => c.eui == eui with
    | none => t
    | some c => if (lnode t c.node).join == (lnode s c.node).join then t else campJoined c.node (u32 p 4) t)

/-- STATUS (R247, R267). -/
def execNodeStatus (node epoch : Nat) (p : List Byte) (s : State) : Res := doneIn [.host, .lantern, .upd, .out] s (campStatus node (statusF node epoch p s))

/-- FW_STATUS (R266). -/
def execFwStatus (node epoch tide : Nat) (p : List Byte) (s : State) : Res := doneIn [.host, .lantern, .upd, .out] s (fwStatusF node epoch tide p s)

/-- NODE_LOST_TIMEOUT (R247, R586). -/
def execNodeLostTimeout (node : Nat) (s : State) : Res :=
  doneIn [.host, .lantern, .upd, .out] s (
    let t := nodeLostF node s
    if (lnode t node).st == 4 && (lnode s node).st != 4 then campNodeLost node t else t)

/-- A lighter channel has a burst ready (R443, R471, R527): host channels 0 to 7, sign channels 16 and 17, quay bus channels 18
to 21. The lamp status channels 8 to 15 move a whole record at its collection (R518). -/
def burstReady (s : State) (n : Nat) : Bool :=
  if n < 8 then
    let c := ltOf s n
    ltRuns s n && ltRequest s c && (match c.desc with
      | some d => d.moved < d.len || c.head != c.tail
      | none => c.head != c.tail && (!c.waitRx || (headOf s c.cfgWin).isSome)) || c.owed.isSome
  else if n = 16 ∨ n = 17 then !signHeld s (n - 16) && !(poolQ s (198 + n)).entries.isEmpty
  else if 18 ≤ n ∧ n ≤ 21 then !(qch s (n - 18)).rx.isEmpty
  else false

/-- The channel that is granted next (R443): round robin among the ready ones, so that the one whose last grant is longest ago comes
first; those of hosts have no two grants in a row while an internal one waits. -/
def nextGrant (s : State) : Option Nat :=
  let ready := s.pool.order.filter (burstReady s)
  let inner := ready.filter (8 ≤ ·)
  (if s.pool.rrHost && !inner.isEmpty then inner else ready).head?

/-- LIGHTER_BURST (R443, R471, R527): a channel whose turn it is moves one burst. -/
def execLighterBurst (n : Nat) (m : HostMem) (s : State) : Res :=
  doneIn [.host, .stats, .pool, .ports, .quay, .lampSign, .out] s (
    if nextGrant s != some n then s
    else
      if n < 8 then hostBurst n m (updPool (fun p => { p with order := p.order.filter (· != n) ++ [n], rrHost := true }) s)
      else if n < 18 then signBurst (n - 16) s
      else quayBurst (n - 18) s)

/-- LIGHTER_STATUS (R451). -/
def lighterStatusBytes (s : State) (n : Nat) : List Byte :=
  let c := ltOf s n
  let work := c.desc.isSome || c.head != c.tail
  let st := if n ≥ 8 then bit (burstReady s n) else if c.stopped then 3 else if ltRuns s n && work then (if ltRequest s c then 1 else 2) else 0
  le 1 n ++ le 1 st ++ le 1 c.code ++ le 1 (match c.owner with | some x => x.1 | none => 0xFF) ++ le 4 c.bursts.toNat
    ++ le 8 c.bytes

def execLighterStatus (w : Nat) (s : State) : Res :=
  answered s (onCmd w 0x0A04 (fun p => u8 p 0 > 31) (fun p s => ok w (lighterStatusBytes s (u8 p 0)) s) s)

end Sys2Proof.Machine
end

