-- ==== Sys2Proof/Machine/Layouts.lean ====
section
/-! DEFINITION. Sys2Proof/Machine/Layouts.lean: the payload layouts of all Tamwyn commands (R95, R100). -/

namespace Sys2Proof.Machine

/-- The layout of every command code. -/
def layouts : List Layout := layoutsCore ++ layoutsTime ++ layoutsRadio ++ layoutsLantern ++ layoutsGnss ++ layoutsRef
  ++ layoutsFleet ++ layoutsPorts ++ layoutsPool ++ layoutsQuay ++ layoutsMeter ++ layoutsLamp ++ layoutsPr ++ layoutsUpd
  ++ layoutsLog ++ layoutsGpio

end Sys2Proof.Machine
end

