-- ==== Sys2Proof/Machine/Sessions.lean ====
section
/-! DEFINITION. Sys2Proof/Machine/Sessions.lean: sessions, doorbells, command checks and the session service
(chapter 03). -/

namespace Sys2Proof.Machine

/-- SESSION_CHANGE to the other sessions (R93, R114). -/
def sessionChange (w kind reason : Nat) (s : State) : State :=
  raiseBut (some w) 0x0181 (le 1 w ++ le 1 (win s w).origin ++ le 1 kind ++ le 1 reason ++ le 4 0) s

/-- Change rights of a new session (R106). -/
def rightsFor (o cert : Nat) (s : State) : BitVec 32 :=
  (match o with
    | 1 => s.par.host.rightsPcie
    | 2 => s.par.host.rightsSpi
    | 3 => s.par.host.rightsUsb
    | _ => tget 0 s.par.host.certRights cert) &&& 0x0003FFFE

/-- Opens the session in a FREE window (R91, R110). -/
def openSession (w o cert port : Nat) (s : State) : State :=
  let s := { s with host := { s.host with sids := s.host.sids + 1 } }
  sessionChange w 0 0xFF (setWin w { st := 2, origin := o, rights := rightsFor o cert s, openTide := s.clk.tide,
                                     sid := s.host.sids, cert, port } s)

/-- The first status of R100 steps 2 to 7 that applies to a command, but for values out of range, which the command's
own meaning checks. -/
def checkStatus (v : Window) (code len rsv : Nat) (payload : List Byte) : Nat :=
  let l := layouts.find? (fun l => l.code == code)
  let fits := match l with | some l => l.lenOk payload | none => true
  let zero := match l with | some l => l.resOk payload | none => true
  let svc := code / 256
  if len > 3832 || !fits then stLENGTH
  else if l.isNone || code % 256 == 0 || code % 256 ≥ 0x80 then stUNKNOWN
  else if v.st == 2 && code != 0x0101 && code != 0x0140 then stNOTNEG
  else if code % 256 ≥ 0x40 && svc != 0x01 && !v.rights.getLsbD svc then stDENIED
  else if rsv != 0 || !zero then stFIELD
  else stOK

/-- Takes an accepted command (R85, R99, R100, R102): it is in flight in its window until its meaning answers it, in the
order in which doorbells and TLS records arrive. A command taken restarts the keepalive count, a TLS one too (R112, log entry
55). -/
def takeCommand (w doorSeq : Nat) (hdr payload : List Byte) (s : State) : State :=
  let v := win s w
  let code := u16 hdr 0
  let seq := u16 hdr 2
  let len := u16 hdr 4
  let c : Cmd := { code, seq, payload }
  let v := { v with busy := true, keepLeft := v.keepPeriod, inflight := some c }
  let inSeq := match v.prevSeq with | none => true | some q => seq == (q + 1) % 65536
  if doorSeq != seq || !inSeq then refuse w stSEQ (setWin w v s)
  else
    let v := { v with prevSeq := some seq, cmdSeq := seq }
    let st := checkStatus v code len (u16 hdr 6) payload
    let s := setWin w v s
    if st == stOK then { s with host := { s.host with turns := s.host.turns ++ [{ w, sid := v.sid }] } } else refuse w st s

/-- The n bytes of the command buffer from an offset in it. -/
def cmdBytes (v : Window) (i n : Nat) : List Byte := (List.range n).map fun k => tget 0 v.cmdBuf (i + k)

/-- DOORBELL_WRITE (R99, R100, R112). A doorbell in a CLOSING window whose BUSY is 0 is ignored: the module's own choice (log
entry 98). -/
def doorbell (o : Origin) (w : Nat) (x : Word) (s : State) : State :=
  let v := win s w
  if !owns o w s then s
  else if v.busy then setWin w { v with dbIgnored := v.dbIgnored + 1, keepLeft := v.keepPeriod } s
  else if !live v then s
  else
    let hdr := cmdBytes v 0 8
    takeCommand w (x.toNat % 65536) hdr (cmdBytes v 8 (min (u16 hdr 4) 3832)) s

def execDoorbellWrite (o : Origin) (w : Nat) (v : Word) (s : State) : Res := doneIn [.host, .out] s (doorbell o w v s)

/-- SESS_OPEN (R91, R92). -/
def openWrite (o : Origin) (w : Nat) (s : State) : State :=
  if hostUp s && w < 8 && o != .tls && (win s w).st == 1 && !(w == 7 && s.par.host.usbWindow7 && o != .usb) then
    openSession w (originCode o) 0 0 s
  else s

def execSessOpen (o : Origin) (w : Nat) (s : State) : Res := doneIn [.host, .out] s (openWrite o w s)

/-- SESS_CLOSE_WRITE (R84, R93). -/
def closeWrite (o : Origin) (w : Nat) (s : State) : State := if owns o w s then closeSession w 0 s else s

def execSessCloseWrite (o : Origin) (w : Nat) (s : State) : Res := doneIn [.host, .out] s (closeWrite o w s)

/-- RSP_READY_CLEAR (R85, R86, R99). -/
def rspClear (o : Origin) (w : Nat) (s : State) : State :=
  if owns o w s && (win s w).rspReady then updWin w (fun v => { v with rspReady := false, busy := false }) s else s

def execRspReadyClear (o : Origin) (w : Nat) (s : State) : Res := doneIn [.host, .out] s (rspClear o w s)

/-- Delivers the held events that a session now subscribes to, in the order in which they were raised (R649): each while the
session's queue has room, since a held event is kept until it is delivered. -/
def deliverHeld (w : Nat) (s : State) : State :=
  s.host.held.foldl (fun s e =>
    if delivers e w s && hasRoom (win s w) then
      deliverTo e w { s with host := { s.host with held := s.host.held.erase e } }
    else s) s

/-- EVT_RELEASE (R87, R88, R112): the room it makes may take a held event (R649). -/
def evtClear (o : Origin) (w : Nat) (s : State) : State :=
  if owns o w s && (win s w).evtReady then
    deliverHeld w (loadEvt w (updWin w (fun v => { v with evtReady := false, keepLeft := v.keepPeriod }) s))
  else s

def execEvtRelease (o : Origin) (w : Nat) (s : State) : Res := doneIn [.host, .out] s (evtClear o w s)

/-- KEEPALIVE_EXPIRY (R93, R112). -/
def execKeepaliveExpiry (w : Nat) (s : State) : Res :=
  let v := win s w
  doneIn [.host, .out] s (if v.keepPeriod != 0 && v.keepLeft == 0 then closeSession w 1 s else s)

/-- PCIE_LINK_LOSS (R93). -/
def execPcieLinkLoss (s : State) : Res := doneIn [.host, .out] s (closeOrigin 1 2 s)

/-- USB_DETACH (R93). -/
def execUsbDetach (s : State) : Res := doneIn [.host, .out] s (closeOrigin 3 2 s)

/-- What a lost connection had yet to send is gone. -/
def dropStream (w : Nat) (s : State) : State :=
  { s with host := { s.host with outbox := s.host.outbox.filter fun d => match d.out with | .tls x _ => x != w | _ => true } }

/-- TLS_CONNECTION_LOSS (R93): loss of the TCP connection, or a TLS alert. -/
def execTlsConnectionLoss (w : Nat) (_alert : Bool) (s : State) : Res :=
  doneIn [.host, .out] s (if (win s w).origin == 4 then closeSession w 3 (dropStream w s) else s)

/-- The lowest-numbered FREE window that is not reserved (R92). -/
def freeWindow (s : State) : Option Nat :=
  windows.find? fun w => (win s w).st == 1 && !(w == 7 && s.par.host.usbWindow7)

/-- The handshake has a suite, a group and a signature algorithm of the module's (R110): TLS_AES_128_GCM_SHA256 and
TLS_AES_256_GCM_SHA384, secp256r1 and secp384r1, ecdsa_secp256r1_sha256 and ecdsa_secp384r1_sha384, by their numbers in RFC
8446. An offer of a PSK or of early data is not taken up, and the full handshake goes on (RFC 8446). -/
def offerOk (h : TlsOffer) : Bool :=
  h.suites.any (fun x => [0x1301, 0x1302].contains x) && h.groups.any (fun x => [23, 24].contains x)
    && h.sigs.any (fun x => [0x0403, 0x0503].contains x)

/-- TLS_CONNECTION_ACCEPT (R92, R110, R111, R118, R126): the handshake of a client on a frame port and a TCP port. Its
certificate is mandatory, and its chain must end in a trust anchor of the configuration; certOk says that the signatures of
the chain verify (DESIGN CHOICE, log entry 113). -/
def execTlsConnectionAccept (port tcp : Nat) (h : TlsOffer) (cert : Option Nat) (certOk : Bool) (s : State) : Res :=
  let ok := hostUp s && certOk && s.par.host.tlsPorts.getLsbD port && tcp == s.par.host.tlsTcp && offerOk h
    && s.par.host.anchors.contains h.anchor && !s.cfg.defaultedBit
  doneIn [.host, .out] s (match cert with
  | none => s
  | some cert =>
    if !ok then s
    else match freeWindow s with
      | some w => openSession w 4 cert port s
      | none => toStream port (.tlsClosed 8) (toStream port (.tls 8 (le 1 4 ++ le 1 0 ++ le 2 2 ++ le 2 stNORES)) s))

/-- TLS_RECORD (R111): a command record, or a close record, whose reason in SESSION_CHANGE is CLOSE. A malformed record (its
reserved byte not zero, a length that does not match or is too large, another type) is ignored: the spec is silent on both
(log entry 99). A command record answered BUSY does not restart the keepalive count (log entry 55). -/
def execTlsRecord (w : Nat) (record : List Byte) (s : State) : Res :=
  let v := win s w
  let body := record.drop 4
  doneIn [.host, .out] s (
    if v.origin != 4 || !live v || u8 record 1 != 0 || u16 record 2 != body.length || body.length > 4096 then s
    else match u8 record 0 with
      | 1 =>
        let hdr := body.take 8
        if v.inflight.isSome then
          let b := le 2 (u16 hdr 0) ++ le 2 (u16 hdr 2) ++ le 2 stBUSY ++ le 2 0
          toStream v.port (.tls w (le 1 2 ++ le 1 0 ++ le 2 b.length ++ b)) s
        else
          let p := body.drop 8
          takeCommand w (u16 hdr 2) hdr (if p.length == u16 hdr 4 then p else zeros 3833) s
      | 4 => closeSession w 0 s
      | _ => s)

/-! ## Session service commands -/

/-- The highest major that both sides offer, with the lower of the maximum minors (R104). -/
def chooseVersion (offers : List (List Byte)) : Option (Nat × Nat) :=
  let minorOf (m : Nat) := (offers.filter (fun o => u8 o 0 == m)).map (fun o => u8 o 1)
  match minorOf 2 with
  | x :: xs => some (2, min (xs.foldl max x) 2)
  | [] => match minorOf 1 with
    | x :: xs => some (1, min (xs.foldl max x) 4)
    | [] => none

def helloBad (p : List Byte) : Bool :=
  u8 p 0 == 0 || u8 p 0 > 4 || !(u16 p 2 == 0 || (10 ≤ u16 p 2 && u16 p 2 ≤ 60000))

/-- HELLO (R104, R112). -/
def helloF (w : Nat) (p : List Byte) (s : State) : State :=
  let v := win s w
  if v.st == 3 then refuse w stSTATE s
  else match chooseVersion (entriesOf 2 (u8 p 0) (p.drop 4)) with
    | none => refuse w stVERSION s
    | some (major, minor) =>
      let s := updWin w (fun v => { v with st := if v.st == 2 then 3 else v.st, major, minor,
                                           keepPeriod := u16 p 2, keepLeft := u16 p 2 }) s
      sessionChange w 1 0xFF (ok w (le 1 major ++ le 1 minor ++ le 2 w ++ le 1 v.origin ++ zeros 3
        ++ le 4 v.rights.toNat ++ le 8 v.openTide) s)

def execHello (w : Nat) (s : State) : Res := doneIn [.host, .out] s (onCmd w 0x0101 helloBad (helloF w) s)

/-- SESSION_INFO (R113). -/
def execSessionInfo (w : Nat) (s : State) : Res :=
  answered s (onCmd w 0x0102 anyPayload (fun _ s => ok w (windows.flatMap fun i =>
    let v := win s i
    le 1 v.st ++ le 1 v.origin ++ le 1 v.major ++ le 1 v.minor ++ le 4 v.rights.toNat) s) s)

/-- KEEPALIVE (R113). -/
def execKeepalive (w : Nat) (s : State) : Res :=
  answered s (onCmd w 0x0103 anyPayload (fun _ s =>
    ok w [] (updWin w (fun v => { v with keepLeft := v.keepPeriod }) s)) s)

/-- The entries of SUBSCRIBE and UNSUBSCRIBE (R113). -/
def subsOf (p : List Byte) : List Sub :=
  (entriesOf 4 (u8 p 0) (p.drop 4)).map fun e => { code := u16 e 0, wide := u8 e 2 == 1, vector := u8 e 3 }

def subsBad (vectors : Bool) (p : List Byte) : Bool :=
  u8 p 0 == 0 || u8 p 0 > 16 ||
    (entriesOf 4 (u8 p 0) (p.drop 4)).any fun e => u8 e 2 > 1 || (vectors && u8 e 3 > 7)

/-- A list of subscriptions with an entry added, or its vector replaced (R113). -/
def addSub (l : List Sub) (x : Sub) : List Sub :=
  if l.any (fun y => y.code == x.code && y.wide == x.wide) then
    l.map fun y => if y.code == x.code && y.wide == x.wide then x else y
  else l ++ [x]

/-- SUBSCRIBE (R113, R649). -/
def subscribeF (w : Nat) (p : List Byte) (s : State) : State :=
  let l := (subsOf p).foldl addSub (win s w).subs
  if l.length > 64 then refuse w stLIMIT s
  else deliverHeld w (ok w (le 2 l.length ++ le 2 0) (updWin w (fun v => { v with subs := l }) s))

def execSubscribe (w : Nat) (s : State) : Res := doneIn [.host, .out] s (onCmd w 0x0104 (subsBad true) (subscribeF w) s)

/-- UNSUBSCRIBE (R113). -/
def unsubscribeF (w : Nat) (p : List Byte) (s : State) : State :=
  let gone := subsOf p
  let l := (win s w).subs.filter fun y => !(gone.any fun x => x.code == y.code && x.wide == y.wide)
  ok w (le 2 l.length ++ le 2 0) (updWin w (fun v => { v with subs := l }) s)

def execUnsubscribe (w : Nat) (s : State) : Res :=
  doneIn [.host, .out] s (onCmd w 0x0105 (subsBad false) (unsubscribeF w) s)

/-- CLOSE (R93, R113): its response is the last message of the session. -/
def execSessClose (w : Nat) (s : State) : Res :=
  doneIn [.host, .out] s (onCmd w 0x0140 anyPayload (fun _ s => closeSession w 0 (ok w [] s)) s)

end Sys2Proof.Machine
end

