-- ==== Sys2Proof/Machine/HostMap.lean ====
section
/-! DEFINITION. Sys2Proof/Machine/HostMap.lean: the host address map (chapters 00, 03, 05 and 06): word reads and writes by
an origin, the groups that freeze, and the SPI and USB transports. -/

namespace Sys2Proof.Machine

def word (n : Nat) : Word := BitVec.ofNat 32 n

/-! ## Groups that freeze (R17, R168, R185) -/

/-- A read of word i of a group of n words: it freezes the group for the origin, and the last word ends the freeze. -/
def freezeRead (n i : Nat) (live : List Word) (f : Freeze) : Word × Freeze :=
  let ws := f.words.getD live
  (ws.getD i 0, if i + 1 = n then {} else { words := some ws })

def snapRead (o : Origin) (i dt : Nat) (s : State) : Word × State :=
  let r := freezeRead 7 i (snapGroup dt s) (tget {} s.time.freeze (originCode o))
  (r.1, { s with time := { s.time with freeze := tput {} s.time.freeze (originCode o) r.2 } })

def rtcGroupRead (o : Origin) (i cycles : Nat) (s : State) : Word × State :=
  let c := rtcRun cycles s.rtc
  let r := freezeRead 5 i (rtcGroup c) (tget {} s.rtc.freeze (originCode o))
  (r.1, { s with rtc := { c with freeze := tput {} s.rtc.freeze (originCode o) r.2 } })

/-- RF_FREEZE_EXPIRE (R168, R185): 1 ms or 1 s after the freeze began. -/
def execRfFreezeExpire (o : Origin) (g : RfGroup) (s : State) : Res :=
  doneIn [.time, .rtc] s (match g with
    | .snapshot => { s with time := { s.time with freeze := tput {} s.time.freeze (originCode o) {} } }
    | .rtc => { s with rtc := { s.rtc with freeze := tput {} s.rtc.freeze (originCode o) {} } })

/-! ## RTC and time snapshot windows (R167, R170, R182 to R186) -/

def rtcRead (o : Origin) (off dt : Nat) (s : State) : Word × State :=
  let g := stageOf s (originCode o)
  let r := s.rtc
  if off < 0x14 then rtcGroupRead o (off / 4) dt s
  else (match off with
    | 0x20 => word r.ofs.toNat
    | 0x24 => word r.next.toNat
    | 0x28 => word r.at_
    | 0x2C => word (r.at_ / 2 ^ 32 % 2 ^ 16 + 2 ^ 31 * bit r.armed)
    | 0x40 => g.secHi
    | 0x44 => g.secLo
    | 0x48 => g.date
    | 0x4C => g.time
    | 0x50 => word (rtcCtrl s (originCode o))
    | _ => 0, s)

def rtcWrite (o : Origin) (off : Nat) (v : Word) (s : State) : State :=
  let r := s.rtc
  let k := originCode o
  match off with
  | 0x20 => { s with rtc := { r with ofs := v.setWidth 16 } }
  | 0x24 => { s with rtc := { r with next := v.setWidth 16 } }
  | 0x28 => { s with rtc := { r with at_ := r.at_ / 2 ^ 32 * 2 ^ 32 + v.toNat } }
  | 0x2C => { s with rtc := { r with at_ := v.toNat % 2 ^ 16 * 2 ^ 32 + r.at_ % 2 ^ 32, armed := v.getLsbD 31 } }
  | 0x40 => updStage k (fun g => { g with secHi := v &&& 0xFFFF }) s
  | 0x44 => updStage k (fun g => { g with secLo := v }) s
  | 0x48 => updStage k (fun g => { g with date := v }) s
  | 0x4C => updStage k (fun g => { g with time := v }) s
  | 0x50 => commitWrite o (v.getLsbD 0) (v.getLsbD 1) s
  | _ => s

def timeRead (o : Origin) (off dt : Nat) (s : State) : Word × State :=
  if off < 0x1C then snapRead o (off / 4) dt s
  else if 0x20 ≤ off ∧ off < 0x50 then ((timeWords s).getD ((off - 0x20) / 4) 0, s)
  else if 0x100 ≤ off ∧ off < 0x2C0 then ((portWords ((off - 0x100) / 0x20) s).getD (off % 0x20 / 4) 0, s)
  else (0, s)

/-! ## Session windows (R79 to R88) -/

/-- A word of the control area or of a buffer (R79, R82 to R88, R99). SESS_CTRL.CLOSE reads 1 while the window is CLOSING,
whatever closed it: R84 states only that it reads 0 again once the window is FREE (DESIGN CHOICE, log entry 113). -/
def ctlWord (v : Window) (off : Nat) : Word :=
  match off with
  | 0x000 => word (v.st + 16 * v.origin + 2 ^ 8 * v.major + 2 ^ 16 * v.minor)
  | 0x004 => word (2 * bit (v.st == 4) + 4 * bit v.rspIe + 8 * bit v.evtIe)
  | 0x008 => word (bit v.busy + 2 ^ 16 * v.cmdSeq)
  | 0x00C => word (bit v.rspReady)
  | 0x010 => word (v.rspSeq + 2 ^ 16 * v.rspLen)
  | 0x014 => word (bit v.evtReady + 2 * bit v.lost + 2 ^ 16 * min v.queue.length 255)
  | 0x020 => word v.keepLeft
  | _ => if 0x80 ≤ off ∧ off < 0x100 then word (leAt v.evtRecord (off - 0x80) 4)
    else if 0x100 ≤ off ∧ off < 0x1000 then word (leAt (cmdBytes v (off - 0x100) 4) 0 4)
    else if 0x1000 ≤ off then word (leAt v.rspBuf (off - 0x1000) 4)
    else 0

def sessRead (o : Origin) (w off : Nat) (s : State) : Word × State :=
  let v := win s w
  if !hostUp s then (0, s)
  else if v.st = 1 then (if off = 0 then word 1 else 0, s)
  else if !owns o w s then (0, s)
  else if off = 0x018 then (v.dbIgnored, updWin w (fun v => { v with dbIgnored := 0 }) s)
  else if off = 0x01C then (v.evtDropped, updWin w (fun v => { v with evtDropped := 0 }) s)
  else (ctlWord v off, s)

/-- Writes the enabled bytes of a word into the command buffer, unless BUSY (R77, R99). -/
def bufWrite (w i : Nat) (v : Word) (be : BitVec 4) (s : State) : State :=
  if (win s w).busy then s
  else updWin w (fun x => { x with cmdBuf := [0, 1, 2, 3].foldl (fun t k =>
    if be.getLsbD k then tput 0 t (i + k) (BitVec.ofNat 8 (v.toNat / 2 ^ (8 * k))) else t) x.cmdBuf }) s

/-- SESS_CTRL (R81, R84): only OPEN in a free window. -/
def ctrlWrite (o : Origin) (w : Nat) (v : Word) (s : State) : State :=
  if (win s w).st = 1 then (if v.getLsbD 0 then openWrite o w s else s)
  else if !owns o w s then s
  else
    let s := updWin w (fun x => { x with rspIe := v.getLsbD 2, evtIe := v.getLsbD 3 }) s
    if v.getLsbD 1 then closeWrite o w s else s

def sessWrite (o : Origin) (w off : Nat) (v : Word) (be : BitVec 4) (s : State) : State :=
  if off = 0x004 then (if be = 15 then ctrlWrite o w v s else s)
  else if !owns o w s then s
  else if 0x100 ≤ off ∧ off < 0x1000 then bufWrite w (off - 0x100) v be s
  else if be != 15 then s
  else if off = 0x00C then (if v.getLsbD 0 then rspClear o w s else s)
  else if off = 0x014 then (if v.getLsbD 0 then evtClear o w s else s)
  else s

/-! ## Doorbell page (R89, R90) -/

def pageRead (o : Origin) (off : Nat) (s : State) : Word :=
  if off = 0x100 then word (summary s.host)
  else if off = 0x104 then word (modState s)
  else if off = 0x108 then word (originCode o)
  else if o == .pcie && 0x800 ≤ off && off < 0xC00 then msixWord s.host ((off - 0x800) / 4)
  else if o == .pcie && off = 0xC00 then s.host.msixPba.setWidth 32
  else if o == .pcie && off = 0xC04 then word (s.host.msixPba.toNat / 2 ^ 32)
  else 0

/-- A write of an MSI-X table word: unmasking a pending vector sends its message (R74, R89, log entry 17). -/
def msixWrite (i : Nat) (v : Word) (s : State) : State :=
  let v := if i % 4 = 0 then v &&& 0xFFFFFFFC else if i % 4 = 3 then v &&& 1 else v
  let s : State := { s with host := { s.host with msixTable := tput (msixDefault i) s.host.msixTable i v } }
  if i % 4 = 3 && v = 0 && s.host.msixPba.getLsbD (i / 4) then
    msix (i / 4) { s with host := { s.host with msixPba := s.host.msixPba &&& ~~~((1 : BitVec 64) <<< (i / 4)) } }
  else s

def pageWrite (o : Origin) (off : Nat) (v : Word) (s : State) : State :=
  if off < 0x20 then doorbell o (off / 4) v s
  else if o == .pcie && 0x800 ≤ off && off < 0xC00 then msixWrite ((off - 0x800) / 4) v s
  else s

/-! ## The map (R19, R20, R75 to R78) -/

/-- The two registers that read while the module is in state 0 ROM (R618). -/
def romReads (addr : Nat) (s : State) : Bool :=
  s.sys.modState == 0 && s.sys.kind != 0 && (addr == 0x10104 || addr == 0x10108)

/-- The address is one that an origin may access, by range and by ownership (R20, R78, R80, R81, R618). -/
def reachable (o : Origin) (addr : Nat) (s : State) : Bool :=
  (hostUp s || romReads addr s) && o != .tls && addr % 4 == 0 &&
    (if addr < 0x10000 then owns o (addr / 0x2000) s || ((win s (addr / 0x2000)).st == 1 && addr % 0x2000 < 8)
     else if addr < 0x13000 then true
     else if addr < 0x20000 then false
     else if addr < 0x30000 then qwProper o ((addr - 0x20000) / 0x1000) s
     else if addr < 0x34000 then ltProper o ((addr - 0x30000) / 0x800) s
     else false)

/-- A word read by an origin: zero where the access is improper. dt is the module time since the tide edge in ns, or for
the RTC window the oscillator cycles since the RTC's last second rollover. -/
def mapRead (o : Origin) (addr dt : Nat) (s : State) : Word × State :=
  if !reachable o addr s then (0, s)
  else if addr < 0x10000 then sessRead o (addr / 0x2000) (addr % 0x2000) s
  else if addr < 0x11000 then (pageRead o (addr - 0x10000) s, s)
  else if addr < 0x12000 then rtcRead o (addr - 0x11000) dt s
  else if addr < 0x13000 then timeRead o (addr - 0x12000) dt s
  else if addr < 0x30000 then qwRead ((addr - 0x20000) / 0x1000) (addr % 0x1000) s
  else ltRead ((addr - 0x30000) / 0x800) (addr % 0x800) s

/-- A word write by an origin, with byte enables: narrow ones reach the command buffer alone (R21, R77). -/
def mapWrite (o : Origin) (addr : Nat) (v : Word) (be : BitVec 4) (s : State) : State :=
  if !reachable o addr s then s
  else if addr < 0x10000 then sessWrite o (addr / 0x2000) (addr % 0x2000) v be s
  else if be != 15 then s
  else if addr < 0x11000 then pageWrite o (addr - 0x10000) v s
  else if addr < 0x12000 then rtcWrite o (addr - 0x11000) v s
  else if addr < 0x13000 then s
  else if addr < 0x30000 then qwWrite ((addr - 0x20000) / 0x1000) (addr % 0x1000) v s
  else ltWrite ((addr - 0x30000) / 0x800) (addr % 0x800) v s

def readOut (o : Origin) (addr dt : Nat) (s : State) : State :=
  let r := mapRead o addr dt s
  emit (.read o addr r.1) r.2

/-- The address lies in a group that freezes. -/
def inGroup (addr : Nat) : Bool :=
  (0x11000 ≤ addr && addr < 0x11014) || (0x12000 ≤ addr && addr < 0x1201C)

/-- RF_GROUP_FREEZE (R17, R168, R185). -/
def execRfGroupFreeze (o : Origin) (addr dt : Nat) (s : State) : Res :=
  doneIn [.host, .stats, .time, .rtc, .pool, .out] s (if inGroup addr then readOut o addr dt s else s)

/-- The address of an RC register (R13, R82, R434, R446). -/
def isRc (addr : Nat) : Bool :=
  if addr < 0x10000 then addr % 0x2000 == 0x18 || addr % 0x2000 == 0x1C
  else if 0x20000 ≤ addr && addr < 0x30000 then [0x1C, 0x20, 0x50].contains (addr % 0x1000)
  else 0x30000 ≤ addr && addr < 0x34000 && addr % 0x800 == 0x2C

/-- RC_REGISTER_READ (R13, R16). -/
def execRcRegisterRead (o : Origin) (addr : Nat) (s : State) : Res :=
  doneIn [.host, .stats, .time, .rtc, .pool, .out] s (if isRc addr then readOut o addr 0 s else s)

/-- The word at an address holds a register of its map, not a reserved word (R82, R89, R167, R170, R182, R433, R434, R445,
R446). -/
def definedWord (o : Origin) (addr : Nat) : Bool :=
  if addr < 0x10000 then addr % 0x2000 < 0x24 || 0x80 ≤ addr % 0x2000
  else if addr < 0x11000 then
    let a := addr - 0x10000
    a < 0x20 || (0x100 ≤ a && a < 0x10C) || (o == .pcie && 0x800 ≤ a && a < 0xC08)
  else if addr < 0x12000 then
    let a := addr - 0x11000
    a < 0x14 || (0x20 ≤ a && a < 0x30) || (0x40 ≤ a && a < 0x54)
  else if addr < 0x13000 then
    let a := addr - 0x12000
    a < 0x1C || (0x20 ≤ a && a < 0x50) || (0x100 ≤ a && a < 0x2C0 && a % 0x20 != 0x1C)
  else if addr < 0x30000 then qwDefined (addr % 0x1000)
  else ltDefined (addr % 0x800)

/-- A read that R20 calls improper: of an unused range, of a window or channel of another session, of a free window but for
SESS_STATE (R81), or of a reserved word. -/
def improperRead (o : Origin) (addr : Nat) (s : State) : Bool :=
  !reachable o addr s || !definedWord o addr
    || (addr < 0x10000 && (win s (addr / 0x2000)).st == 1 && addr % 0x2000 != 0)

/-- IMPROPER_ACCESS (R19, R20): a read returns zero and a write is ignored, with no error, event or logbook record. -/
def execImproperAccess (o : Origin) (addr : Nat) (write : Option Word) (s : State) : Res :=
  doneIn [.out] s (match write with
    | some _ => s
    | none => if improperRead o addr s then emit (.read o addr 0) s else s)

/-- REGISTER_WRITE (R21, R77). -/
def execRegisterWrite (o : Origin) (addr : Nat) (v : Word) (be : BitVec 4) (s : State) : Res := doneIn [.host, .stats, .rtc, .pool, .ports, .log, .out] s (mapWrite o addr v be s)

/-! ## SPI and USB (R75, R76) -/

/-- Word accesses at rising addresses. -/
def readWords (o : Origin) (addr n dt : Nat) (s : State) : State :=
  each (List.range n) (fun i s => readOut o (addr + 4 * i) dt s) s

def writeWords (o : Origin) : Nat → List Word → State → State
  | _, [], s => s
  | addr, v :: t, s => writeWords o (addr + 4) t (mapWrite o addr v 15 s)

/-- SPI_TRANSACTION (R75): words written, or n words read. A transaction with another opcode has no access and returns
nothing: the spec is silent on it (log entry 103). -/
def execSpiTransaction (op : Byte) (addr : Nat) (words : List Word) (n dt : Nat) (s : State) : Res :=
  let a := addr % 2 ^ 20
  doneIn [.host, .stats, .time, .rtc, .pool, .ports, .log, .out] s (
    if op = 0x02 then (if a % 4 = 0 then writeWords .spi a words s else s)
    else if op = 0x0B then (if a % 4 = 0 then readWords .spi a n dt s else emit (.spiZero (4 * n)) s)
    else s)

/-- The little-endian words of a list of bytes. -/
def wordsOf (b : List Byte) : List Word := (List.range (b.length / 4)).map fun i => word (leAt b (4 * i) 4)

/-- USB_REQUEST (R76). The reserved bytes of the header are not looked at: the spec gives no effect to a value other than
zero there (log entry 103). -/
def execUsbRequest (header data : List Byte) (dt : Nat) (s : State) : Res :=
  let n := u16 header 4
  doneIn [.host, .stats, .time, .rtc, .pool, .ports, .log, .out] s (
    if n % 4 != 0 || n > 4096 then s
    else if u8 header 0 = 1 then readWords .usb (u32 header 8) (n / 4) dt s
    else if u8 header 0 = 2 then writeWords .usb (u32 header 8) (wordsOf (data.take n)) s
    else s)

end Sys2Proof.Machine
end

