-- ==== Sys2Proof/Machine/Sections.lean ====
section
/-! DEFINITION. Sys2Proof/Machine/Sections.lean: functions stopped and started at an edge (R60 to R62), and what each
configuration section does when it takes effect (R129). -/

namespace Sys2Proof.Machine

def updPar (f : SiteConfig → SiteConfig) (s : State) : State := { s with par := f s.par }

/-! ## Placed nodes -/

/-- Nodes whose placement took a new epoch at this edge: older results are stale, and PLACE goes out (R62, R64, R254). -/
def replaced (ns : List Nat) (s : State) : State :=
  each ns (fun n s => sendPlace n (link s n).x (link s n).epoch.toNat (s.clk.tide + 4)
    (updNode n (fun e => { e with placed := s.clk.tide }) s)) s

/-- Nodes in use on the transceivers of a list. -/
def nodesOn (s : State) (xs : List Nat) : List Nat := (usedNodes s).filter fun n => xs.contains (link s n).x

/-- Transceivers start (R62). -/
def startRadios (xs : List Nat) (s : State) : State :=
  let s := relive s (each xs startRadio s)
  replaced (nodesOn s xs) s

/-! ## PTP ports -/

/-- A PTP port starts as configuration sets it: master, until a ring port's election decides; entries in its timestamp
queue stay (R139, R173). -/
def startPtp (p : Nat) (s : State) : State :=
  let m := tget 0 s.par.time.inst p
  let s := updPtp p (fun x => { mode := m, st := if m = 0 then 0 else 6, txq := x.txq, high := x.high, dropped := x.dropped,
                                drops := x.drops, firstId := x.firstId, lastId := x.lastId, asked := x.asked }) s
  if p ≤ 1 then bmca s else s

/-- A PTP port stops (R60, R173). -/
def stopPtp (p : Nat) (s : State) : State :=
  let s := updPtp p (fun x => { txq := x.txq, high := x.high, dropped := x.dropped, drops := x.drops, firstId := x.firstId,
                                lastId := x.lastId, asked := x.asked }) s
  if p ≤ 1 then bmca s else s

/-! ## One function at its edge -/

/-- A function stops at the edge (R60, R61). -/
def stopFn (f : Fn) (s : State) : State :=
  match f with
  | .radio x => markAll [x] flPartial (relive s (stopRadio x s))
  | .gnssSignal a r => stopSignal a r s
  | .reference => stopRef true 0 s
  | .positioning => markAll [14] flPartial (stopPos s)
  | .fleet => markAll [15] flPartial (stopFleet s)
  | .bowWave => stopBowWave s
  | .port p => stopPort p s
  | .gates p => markAll [16 + p] flPartial (gatesSet p false s)
  | .ptp p => stopPtp p s
  | .queueWindow q => markAll [30] flPartial (signRelease q (quayRelease q (releaseQwin q s)))
  | .lighter n => releaseLt n s
  | .quay c => markAll [31 + c] flPartial (stopQuay c s)
  | .meterPoint p => markAll [36] flPartial (stopPoint p s)
  | .lamp p => markAll [35] flPartial (stopLamp p s)
  | .sign p => markAll [35] flPartial (stopSign p s)

/-- A function starts at the edge, with no work in flight (R62). -/
def startFn (f : Fn) (s : State) : State :=
  match f with
  | .radio x => markAll [x] flPartial (startRadios [x] s)
  | .gnssSignal a r => startSignal a r s
  | .reference => startRef true 0 s
  | .positioning => markAll [14] flPartial (startPos s)
  | .fleet => markAll [15] flPartial (startFleet s)
  | .bowWave => startBowWave s
  | .port p => startPort p s
  | .gates p => markAll [16 + p] flPartial (gatesSet p true s)
  | .ptp p => startPtp p s
  | .queueWindow _ => s
  | .lighter _ => s
  | .quay c => markAll [31 + c] flPartial (startQuay c s)
  | .meterPoint p => markAll [36] flPartial (startPoint p s)
  | .lamp p => markAll [35] flPartial (startLamp p s)
  | .sign p => markAll [35] flPartial (startSign p s)

/-- The accepted switch of a function whose edge has come. -/
def switchAt (s : State) (f : Fn) (start : Bool) : Option Switch :=
  s.switches.find? fun x => x.fn == f && x.start == start && x.tide ≤ s.clk.tide

/-- Carries out a switch (R60, R62). -/
def doSwitch (f : Fn) (start : Bool) (s : State) : State :=
  match switchAt s f start with
  | none => s
  | some x =>
    let s := if start then startFn f { s with switches := s.switches.erase x }
      else stopFn f { s with switches := s.switches.erase x }
    finishOpt x.job stOK s

/-- FUNCTION_STOP_EDGE (R60, R61). -/
def execFunctionStopEdge (f : Fn) (s : State) : Res := doneIn [.clk, .host, .stats, .time, .radio, .lantern, .pool, .ports, .gnss, .ref, .fleet, .quay, .meter, .lampSign, .switches, .log, .out, .free] s (inOneCycle (doSwitch f false) s)

/-- FUNCTION_START_EDGE (R62). -/
def execFunctionStartEdge (f : Fn) (s : State) : Res := doneIn [.clk, .host, .stats, .time, .radio, .lantern, .pool, .ports, .gnss, .ref, .fleet, .quay, .meter, .lampSign, .switches, .log, .out, .free] s (inOneCycle (doSwitch f true) s)

/-! ## Sections -/

/-- The settings of a PTP port (R129, R139, R140, R147). -/
def ptpSettings (c : TimePar) (i : Nat) : Nat × List Int × List (Option Int) :=
  let m := tget 0 c.inst i
  (m, [tget 0 c.ingress i, tget 0 c.egress i, tget 0 c.asym i, bit (c.udp.getLsbD i), bit (c.p2p.getLsbD i),
    if m = 1 then c.domain else 0], [tget none c.logSync i, tget none c.logAnnounce i, tget none c.logDelay i])

/-- The time section with the statistics intervals (R55, R118, R129, R157, R172). -/
def takeTime (p : SiteConfig) (s : State) : State :=
  let o := s.par
  let gs := groups.filter fun g => g != 36 && tget ({} : StatPar) o.stats g != tget {} p.stats g
  let ps := allPorts.filter fun i => ptpSettings o.time i != ptpSettings p.time i
  let s := updPar (fun c => { c with time := p.time, stats := p.stats }) (markAll gs flPartial s)
  updTimeQ (recheckSources (each ps startPtp s))

/-- The radio section (R129, R218, R228). -/
def takeRadio (p : SiteConfig) (s : State) : State :=
  let xs := List.range 12
  let s := each xs stopRadio s
  let s := updPar (fun c => { c with radio := p.radio }) s
  let s := startLedgers { s with radio := { s.radio with power := [] } }
  markAll xs flPartial (startRadios xs s)

/-- The lantern section (R62, R129, R263): what the service has in flight ends, its nodes take the next epoch. -/
def takeLantern (p : SiteConfig) (s : State) : State :=
  if s.sys.tender then updPar (fun c => { c with lantern := p.lantern }) s
  else
    let jobs := (s.lantern.waits.map (·.job)) ++ s.lantern.nodes.filterMap fun n => n.2.move.bind (·.job)
    let s := jobs.foldl (fun s j => finish j stCANCELLED s) s
    let s := updLant (fun l => { l with
      waits := [], down := [], aired := [], inputs := [], raised := [], ruleSet := []
      nodes := l.nodes.foldl (fun t n => tput {} t n.1 { n.2 with move := none, join := none }) [] }) s
    let s := startBowWave (stopBowWave (updPar (fun c => { c with lantern := p.lantern }) s))
    let ns := usedNodes s
    replaced ns (each ns (fun n s => setLink n { link s n with epoch := (link s n).epoch + 1 } s) s)

/-- The GNSS section (R129, R309). -/
def takeGnss (p : SiteConfig) (s : State) : State :=
  let o := s.par.gnss
  let rows := List.range 10
  let s := each [0, 1] (fun a s => each rows (stopSignal a) s) s
  let s := fsDown s
  let s := each [0, 1] (fun a s => let v := tget 0 p.gnss.bias a
    if tget 0 o.bias a == v then s else applyGnssSetting (.bias a v) s) s
  let s := each (List.range 24) (fun i s => let v := tget {} p.gnss.notches i
    if tget {} o.notches i == v then s else applyGnssSetting (.notch (i / 4) (i % 4) v) s) s
  let s := updPar (fun c => { c with gnss := p.gnss }) s
  each [0, 1] (fun a s => each rows (startSignal a) s) s

/-- The coordinates and enrolments of the section in force (R320, R338). -/
def refCoordinates (s : State) : State :=
  let r := s.par.ref
  updRef (fun x => { x with
    refArp := if r.survey then none else r.refFix
    monArp := if r.monSurvey then none else r.monFix
    monSurvey := r.monSurvey || r.monFix.isNone, slots := r.slots }) s

/-- At start-up coordinates that a checkpoint gave stand; else the section's (R320). -/
def heldCoordinates (s : State) : State :=
  let t := refCoordinates s
  if s.ref.refArp.isNone then t
  else updRef (fun x => { x with refArp := s.ref.refArp, monArp := s.ref.monArp.orElse fun _ => t.ref.monArp }) t

/-- The reference and positioning section (R129, R316, R320, R321, R338): at its edge, or at the restore that it waited for. -/
def takeRef (p : SiteConfig) (s : State) : State :=
  let edge := !clusterDown s
  let s := stopPos (stopRef edge 6 s)
  let s := newCoordinates (refCoordinates (updPar (fun c => { c with ref := p.ref }) s))
  let s := if p.ref.enabled then freshRef edge 6 (updRef (fun r => { r with on := true }) s) else s
  if p.ref.posEnabled then startPos s else s

/-- The fleet section (R61, R129, R380). -/
def takeFleet (p : SiteConfig) (s : State) : State :=
  let s := updPar (fun c => { c with fleet := p.fleet }) (stopFleet s)
  markAll [15] flPartial (if p.fleet.enabled then startFleet s else s)

/-- The ports that configuration enables start, with their gate lists (R405, R409). -/
def startPorts (s : State) : State :=
  let c := s.par.ports
  each allPorts (fun p s =>
    let s := updPort p (fun x => { x with plca := none, gates := if p < 10 then tget {} c.gates p else {}
                                          gatesOn := p < 10 && c.gatesOn.getLsbD p, gateWait := none }) s
    if c.enabled.getLsbD p then startPort p (gatesNow p s) else gatesNow p s) s

/-- The frame port section (R129, R410). -/
def takePorts (p : SiteConfig) (s : State) : State :=
  let waits := allPorts.filterMap fun i => (portOf s i).gateWait.map (·.job)
  let s := waits.foldl (fun s j => finish j stCANCELLED s) (each allPorts stopPort s)
  startPorts (flushFdb (updPorts (fun x => { x with ruleOwner := [] }) (updPar (fun c => { c with ports := p.ports }) s)))

/-- A host lighter channel that is enabled stops and starts again at one edge (R61, R62, R129). -/
def restartLt (n : Nat) (s : State) : State :=
  if (ltOf s n).enable then updLt n (fun c => { c with enable := true, runFrom := s.clk.ran }) (disableLt n s) else s

/-- The pool section (R129, R423; log entry 105): channels stop and start again, and a transmit record that is open in a queue
window is discarded. -/
def takePool (p : SiteConfig) (s : State) : State :=
  let s := each (List.range 8) restartLt s
  let s := each (List.range 16) (fun q => updQwin q (fun x => { x with txOpen := false, txBuf := [], txOver := false })) s
  notePressure (markAll [30] flPartial (updPar (fun c => { c with pool := p.pool }) s))

/-- The channels that configuration enables start (R474). -/
def startQuays (s : State) : State := each [0, 1, 2, 3] (fun c s => if (qpar s c).enabled then startQuay c s else s) s

/-- The quay bus section (R129, R474, R477). -/
def takeQuays (p : SiteConfig) (s : State) : State :=
  let s := each [0, 1, 2, 3] stopQuay s
  let s := updPar (fun c => { c with quay := p.quay }) s
  let s := each [0, 1, 2, 3] (fun c => updQch c (fun x => { x with filters := [] })) s
  markAll [31, 32, 33, 34] flPartial (startQuays s)

/-- Scales and corrections of every channel (R481, R486). -/
def calibration (s : State) : List Nat × List Int :=
  let chs := List.range 54
  (chs.flatMap fun c => (List.range 3).map (scaleOf s c), chs.flatMap fun c => (List.range 3).map (phaseCorr s c))

/-- Scale, phase correction and no-load threshold of a billing incomer, for its record (R508). -/
def incomerCal (s : State) (p : Nat) : List Nat :=
  let chs := (List.range 3).map (· + 3 * p) ++ (List.range 4).map (· + 6 + 4 * p)
  noLoad s p :: chs.flatMap fun c => [scaleOf s c 0, (phaseCorr s c 0 % (2 ^ 32 : Nat)).toNat]

/-- The metering section (R495, R508): metering is never interrupted. -/
def takeMeter (p : SiteConfig) (s : State) : State :=
  let o := s.par.meter
  let n : State := { s with par := { s.par with meter := p.meter }
                            meter := { s.meter with points := s.meter.points.foldl (fun t x => tput {} t x.1 { x.2 with set := none }) []
                                                    outs := s.meter.outs.foldl (fun t x => tput {} t x.1 { x.2 with set := none }) [] } }
  let re := o.len != p.meter.len || o.phaseP != p.meter.phaseP || (List.range 12).any fun i => pointOn s i != pointOn n i
  let t := if re then markAll [36] flPartial s else s
  let t := each [0, 1, 2, 3] (fun o => setPulse o (pulsePar n o)) t
  let t : State := { t with par := n.par
                            meter := { t.meter with points := n.meter.points
                                                    outs := t.meter.outs.foldl (fun r x => tput {} r x.1 { x.2 with set := none }) [] } }
  let t := if o.len != p.meter.len || o.phaseP != p.meter.phaseP then each (usedNodes t) sendReporting t else t
  let t := each ((List.range 12).filter fun i => !pointOn s i && pointOn n i) resetGains t
  let t := if o.scaled then t else mark 0 t
  let t := if calibration s != calibration n then mark 5 t else t
  let t := each [0, 1] (fun i t =>
    if billing s i && incomerCal s i != incomerCal n i then logIt 0x0C 5 5 0 (i :: incomerCal s i ++ incomerCal n i) t else t) t
  keepScales t

/-- The lamp and sign section (R129, R523, R530, R532). -/
def takeLamps (p : SiteConfig) (s : State) : State :=
  let s := each [0, 1] stopSign (each [0, 1, 2, 3, 4, 5, 6, 7] stopLamp s)
  markAll [35] flPartial (lampConfig (updPar (fun c => { c with lampSign := p.lampSign }) s))

/-- The redundancy section (R539): a pilot whose unit number changes raises its term. -/
def takePr (p : SiteConfig) (s : State) : State :=
  let up := !s.sys.tender && s.par.pr.unit != p.pr.unit
  updPar (fun c => { c with pr := p.pr }) (if up then updPr (fun x => { x with term := min (x.term + 1) 16383 }) s else s)

/-- Every open session takes the change rights of the section (R106). -/
def newRights (s : State) : State :=
  each windows (fun w s => let v := win s w
    if v.st = 1 then s else setWin w { v with rights := rightsFor v.origin v.cert s } s) s

/-- A section takes effect (R118, R129). The update section and the configuration store's own carry no parameter of the
block. -/
def takeSection (p : SiteConfig) (t : Nat) (s : State) : State :=
  match t with
  | 0x01 => newRights (updPar (fun c => { c with host := p.host }) s)
  | 0x03 => takeTime p s
  | 0x04 => takeRadio p s
  | 0x05 => takeLantern p s
  | 0x06 => takeGnss p s
  | 0x07 => takeRef p s
  | 0x08 => takeFleet p s
  | 0x09 => takePorts p s
  | 0x0A => takePool p s
  | 0x0B => takeQuays p s
  | 0x0C => takeMeter p s
  | 0x0D => takeLamps p s
  | 0x0E => takePr p s
  | 0x10 => { (updPar (fun c => { c with log := p.log }) s) with log := { s.log with limits := [], limitCodes := [] } }
  | 0x11 => gpioStart (updPar (fun c => { c with gpio := p.gpio }) s)
  | _ => s

/-- Section types 0x01 to 0x11. -/
def sectionTypes : List Nat := (List.range 17).map (· + 1)

/-- Sections whose functions run on the application cluster (R36, R129). -/
def clusterSection (t : Nat) : Bool := t == 0x05 || t == 0x07 || t == 0x08

/-- The bytes of a section. -/
def sectionBytes (l : List (Nat × List Byte)) (t : Nat) : Option (List Byte) := (l.find? fun x => x.1 == t).map (·.2)

/-- The restored cluster takes the sections that waited for it (R129). -/
def takeWaiting (s : State) : State :=
  match sectionParams 7 s.cfg.maps s.cfg.sections with
  | none => s
  | some p => each s.cfg.waiting (takeSection p) { s with cfg := { s.cfg with waiting := [] } }

/-- CFG_APPLY_EDGE (R129, R130): the sections take effect together, each function whose section differs in any byte
stopped and started. The metering section in force on factory defaults is the control record's copy (R126), so metering takes
what the image gives. -/
def applyConfig (s : State) : State :=
  match s.cfg.apply with
    | none => s
    | some a =>
      if a.passed || a.tide > s.clk.tide then s
      else
        let new := sectionsOf (slotBytes s a.slot)
        match sectionParams 7 s.cfg.maps new with
        | none => s
        | some p =>
          let diff := sectionTypes.filter fun t => s.cfg.waiting.contains t || sectionBytes new t != sectionBytes s.cfg.sections t
            || (t == 0x0C && s.cfg.defaultedBit)
          let later := diff.filter fun t => clusterSection t && clusterDown s
          let s : State := { s with cfg := { s.cfg with
            sections := new, waiting := later, defaulted := 0, defaultedBit := false
            apply := some { a with passed := true, edge := s.clk.tide } } }
          noteState (fsBaselines (showGpio (each (diff.filter fun t => !later.contains t) (takeSection p) s)))

def execCfgApplyEdge (s : State) : Res := done s (inOneCycle applyConfig s)

/-! ## Changes by command -/

/-- A setting takes effect (R102). -/
def applySetting (x : Setting) (s : State) : State :=
  match x with
  | .timePort .. | .timeSource .. | .timeThreshold .. | .timeOutput .. => applyTimeSetting x s
  | .radioPower i v => { s with radio := { s.radio with power := tput none s.radio.power i (some v) } }
  | .ruleEnable r on => updLant (fun l => { l with ruleSet := tput none l.ruleSet r (some on) }) s
  | .plca .. | .fpRule .. => applyPortSetting x s
  | .notch .. | .bias .. | .fsPar .. | .loop .. => applyGnssSetting x s
  | .survey .. | .refFix .. | .refOutput .. | .refIntegrity .. | .enrol .. => applyRefSetting x s
  | .qfilter .. => applyQuaySetting x s
  | .pulse o v => setPulse o v s
  | .lampLevel .. | .lampClear .. | .signBright .. => applyLampSetting x s
  | .gpio .. => applyGpio x s
  | .logLimit c r b => { s with log := { s.log with limits := tput {} s.log.limits c { rate := r, burst := b },
                                                    limitCodes := insertAscending c s.log.limitCodes } }

/-- CHANGE_APPLY_EDGE (R102): the changes whose edge has come, in the order in which they were taken; bands whose baseline is no
longer fixed are UNTESTED from this edge (R304). -/
def execChangeApplyEdge (s : State) : Res :=
  doneIn [.clk, .host, .par, .time, .radio, .lantern, .ports, .gnss, .ref, .quay, .meter, .lampSign, .gpio, .changes, .log, .out, .free] s (
    let now := s.changes.filter fun c => c.tide ≤ s.clk.tide
    inOneCycle (fun s => fsBaselines (now.foldl (fun s c => applySetting c.setting s) s))
      { s with changes := s.changes.filter fun c => !(c.tide ≤ s.clk.tide) })

end Sys2Proof.Machine
end

