-- ==== Sys2Proof/Machine/Role.lean ====
section
/-! DEFINITION. Sys2Proof/Machine/Role.lean: the application cluster's life (chapters 01 and 11) and the changes of role
(chapter 17). -/

namespace Sys2Proof.Machine

/-! ## The application cluster (R37, R38, R380, R650) -/

/-- CLUSTER_HEARTBEAT (R37, R288, R556, R650): the first one after a start ends the span in which the cluster counts as down. R650
has that span last both until the first heartbeat is sent and to the edge at which it arrives: it ends here with the heartbeat,
in the tide (DESIGN CHOICE, log entry 113). -/
def execClusterHeartbeat (s : State) : Res :=
  doneIn [.sys, .cluster, .host, .stats, .gnss, .upd, .out] s (
    let c := s.cluster
    if c.st = 2 then { s with cluster := { c with beat := true } }
    else if c.st = 1 ∧ !c.restoring ∧ !c.deferred ∧ !c.declare_ then
      startSearches 8 (campPause false (noteState { s with cluster := { c with st := 2, beat := true, missing := 0 } }))
    else s)

/-- CLUSTER_FAULT (R37). -/
def execClusterFault (s : State) : Res :=
  doneIn [.cluster] s (if s.cluster.st = 0 then s else { s with cluster := { s.cluster with fault := true } })

/-- What goes down with the cluster (R36, R38, R304, R380, R589). -/
def clusterStops (s : State) : State :=
  campPause true (noteState (refDown (lanternStops (holdAll (updFleet (fun x => { x with batch := [], shadow := none }) s)))))

/-- CLUSTER_DOWN_DECLARE (R37, R38, R650): at the edge after three missing heartbeats, a fault or a harbourmaster restart.
A tender's cluster stays cold. -/
def execClusterDownDeclare (s : State) : Res :=
  doneIn [.clk, .sys, .cluster, .host, .stats, .time, .lantern, .gnss, .ref, .fleet, .upd, .log, .out] s (
    let c := s.cluster
    if c.st = 0 ∨ !(c.declare_ || c.fault || c.missing ≥ 3) then s
    else inOneCycle clusterStops { s with cluster := { st := 1, deferred := c.deferred, restoring := true, refill := c.refill } })

/-- The checkpoint that a restore takes (R38, R555, R556, R616): the pilot's latest, at a takeover the newest usable one
of the partner's, after a full reset the newest usable one of its own. -/
def restoreFrom (s : State) : Option Ckpt :=
  let fits (c : Ckpt) : Bool := c.usable && readsFormat s c.format
  if s.cluster.refill then
    if s.pr.takeover then s.pr.stored.find? fits else s.pr.own.find? fun c => fits c && c.serial == Config.serial
  else match s.pr.last with
    | some c => some c
    | none => none

/-- The services of a checkpoint (R38, R548). Coordinates of another module's are ignored: the module keeps its own, or takes those
of its own checkpoints (R320). -/
def takeServices (own : Bool) (b : Service) (s : State) : State :=
  let mine := if own then some b else (s.pr.own.find? fun c => c.serial == Config.serial && c.body.refArp.isSome).map (·.body)
  let mine := if !own && s.ref.refArp.isSome then none else mine.filter fun c => c.refArp.isSome
  { s with
    lantern := { s.lantern with nodes := b.nodes, generation := b.generation, steps := b.steps, raised := b.raised }
    fleet := { s.fleet with tasks := b.tasks }
    ref := { s.ref with vehicles := b.filters, refArp := match mine with | some c => c.refArp | none => s.ref.refArp
                        monArp := match mine with | some c => c.monArp | none => s.ref.monArp } }

/-- The last ASN of every entry becomes that of this edge less one (R213, R555). -/
def sealLinks (s : State) : State :=
  { s with radio := { s.radio with links := s.radio.links.map fun l =>
    (l.1, { l.2 with lastAsn := asnBefore l.2.x s.clk.tide, shAsn := asnBefore l.2.x s.clk.tide }) } }

/-- The engine and the radio tables of a checkpoint: committed and standing intervals, without speculative sets
(R380, R555). -/
def refill (b : Service) (s : State) : State :=
  sealLinks { s with
    radio := { s.radio with links := b.links }
    fleet := { s.fleet with
      vehicles := b.vehicles, passed := b.passed
      held := b.held.foldl (fun r y => tput [] r y.1 (y.2.filter fun h => !h.spec)) [] } }

/-- CLUSTER_RESTORE_COMPLETE (R38, R380, R556). -/
def execClusterRestoreComplete (s : State) : Res :=
  done s (
    let c := s.cluster
    if c.st != 1 || !c.restoring || c.deferred || c.declare_ || (c.refill && s.sys.modState < 3) then s
    else
      let t := match restoreFrom s with
        | none => s
        | some k => let t := takeServices (k.serial == Config.serial) k.body s
          if c.refill then refill k.body t else t
      let t : State := { t with cluster := { t.cluster with restoring := false, refill := false } }
      refRestored (takeWaiting (if c.refill then holdAll t else t)))

/-- LOCKSTEP_MISMATCH (R39, R610). -/
def execLockstepMismatch (s : State) : Res := done s (if s.sys.hmRuns then hmReset false s else s)

/-! ## Roles (R539, R540, R547, R555 to R557) -/

/-- PR_ROLE (R563). -/
def roleEvent (old cause : Nat) (s : State) : State :=
  raise 0x0E80 (le 1 old ++ le 1 (roleCode s) ++ le 1 cause ++ le 1 0 ++ le 2 (claim s) ++ le 2 0 ++ le 8 s.clk.tide) s

/-- The cluster's services end with the pilot role: its jobs end, and its tables are given up (R540). -/
def dropServices (s : State) : State :=
  let moves := s.lantern.nodes.filterMap fun n => n.2.move.bind (·.job)
  let tasks := s.fleet.tasks.flatMap fun t => [t.2.cancel, t.2.move.bind (·.job)].filterMap id
  let s := (s.lantern.waits.map (·.job) ++ moves ++ tasks).foldl (fun s j => finish j stCANCELLED s) s
  { s with
    lantern := { s.lantern with nodes := [], steps := [], nextSteps := none, formed := [], raised := [], inputs := [], down := [],
                                cond := [], recalls := [], condSet := [], condOut := false, parked := [], aired := [], waits := [] }
    radio := { s.radio with links := [], indirect := [], grants := [], next := [], waiting := [], heard := [] }
    fleet := { s.fleet with held := [], passed := [], vehicles := [], tasks := [], batch := [], shadow := none, accepted := [], released := 0,
                            request := 0, requestNow := 0 }
    ref := { s.ref with vehicles := [] } }

/-- What both changes of role do to the records of the partner. -/
def freshRole (s : State) : State :=
  updPr (fun p => { p with roleTide := s.clk.tide, roleRan := s.clk.ran, silent := 0, demote := none, report := [], baseline := none, overdue := false,
                           reportRan := 0, horns := [], ebs := [] }) s

/-- The pilot becomes tender (R540, R547, R557). -/
def toTender (cause : Nat) (s : State) : State :=
  let s := finishOpt (s.pr.handover.map (·.job)) stSTATE s
  let s := freshRole (updPr (fun p => { p with handover := none, termSet := none, termHalt := none, takeover := false,
                                               sending := none, last := none }) s)
  let s := dropServices (endCamps (refDown s))
  let s : State := { s with sys := { s.sys with tender := true }, cluster := {} }
  roleEvent 1 cause (noteState (showGpio (cabinetBeacons (checkRelays (quayToTender s)))))

/-- The tender takes over (R555). -/
def toPilot (cause : Nat) (s : State) : State :=
  let old := roleCode s
  let s := match s.pr.rx with
    | some r => dueNow 7 (updMiss 7 (fun x => { x with lastTide := r.head.tide }) (lateResults 7 1 (dropPartial s)))
    | none => s
  let s := finishOpt (s.pr.rehearsal.bind (·.2)) stOK s
  let s := freshRole (updPr (fun p => { p with term := max p.term p.topTerm + 1, takeovers := p.takeovers + 1, takeover := true,
                                               rehearsal := none }) s)
  let s : State := { s with sys := { s.sys with tender := false }, cluster := { st := 1, deferred := s.pr.level ≥ 4, restoring := true, refill := true } }
  roleEvent old cause (noteState (showGpio (cabinetBeacons (endCamps (sealLinks (holdAll s))))))

/-- The tender may take over (R126, R551, R554). -/
def mayTakeOver (s : State) : Bool :=
  s.sys.tender && s.sys.modState == 4 && !s.cfg.defaultedBit && !(testsOf s).getLsbD 12

/-- TAKEOVER (R554, R555): after 5 consecutive silent tides. -/
def execTakeover (s : State) : Res := doneIn [.clk, .sys, .cluster, .host, .stats, .radio, .lantern, .ports, .fleet, .pr, .upd, .gpio, .log, .out] s (if mayTakeOver s && s.pr.silent ≥ 5 then inOneCycle (toPilot 1) s else s)

/-- DEMOTION_EDGE (R539, R547): its term becomes the TERM heard; in single mode a pilot never becomes tender. -/
def execDemotionEdge (s : State) : Res :=
  doneIn [.clk, .sys, .cluster, .host, .stats, .time, .radio, .lantern, .ports, .gnss, .ref, .fleet, .pr, .upd, .quay, .gpio, .log, .out] s (
    match s.pr.demote with
    | none => s
    | some t =>
      if s.sys.tender || !pairMode s then updPr (fun p => { p with demote := none }) s
      else inOneCycle (toTender 2) (updPr (fun p => { p with term := t }) s))

/-- SWITCHOVER_EDGE (R557): the pilot hands over at edge s; the tender takes over without silent tides. -/
def execSwitchoverEdge (s : State) : Res :=
  doneIn [.clk, .sys, .cluster, .host, .stats, .time, .radio, .lantern, .ports, .gnss, .ref, .fleet, .pr, .upd, .quay, .gpio, .log, .out] s (
    if s.sys.tender then (if mayTakeOver s && pairMode s then inOneCycle (toPilot 3) s else s)
    else match s.pr.handover with
      | none => s
      | some h =>
        if !h.checked || s.clk.tide < h.tide then s
        else inOneCycle (fun s => toTender 3 (updPr (fun p => { p with handover := none }) (finish h.job stOK s))) s)

/-- ROLE_START (R539): in single mode the module is pilot from the first tide edge after its start-up. -/
def execRoleStart (s : State) : Res :=
  doneIn [.sys, .host, .ports, .pr, .gpio, .out] s (
    if !s.sys.tender || s.sys.modState != 4 || s.par.pr.pair || s.cfg.defaultedBit || !s.sys.roleDue then s
    else
      let old := roleCode s
      inOneCycle (fun s => roleEvent old 4 (noteState (showGpio (cabinetBeacons (freshRole s)))))
        { s with sys := { s.sys with tender := false, roleDue := false } })

end Sys2Proof.Machine
end

