-- ==== Sys2Proof/Machine/Edges.lean ====
section
/-! DEFINITION. Sys2Proof/Machine/Edges.lean: the tide edge, corrections, deadlines, statistics, the cluster's results and
the edges at which sessions, moves and changes take effect (chapters 02 and 03). -/

namespace Sys2Proof.Machine

/-! ## The tide edge -/

/-- Events of the tide that ends, raised before the number changes. -/
def endOfTide (s : State) : State :=
  gpioSummary (linkSummary (stateSummary (campSummary (refSummary (fleetSummary (portsAtEdge (poolAtEdge (quayAtEdge (stampDrops (closeOpen s))))))))))

/-- The tide number of the edge (R44, R45, R66). -/
def nextNumber (s : State) : State :=
  let c := s.clk
  { s with clk := { c with
    tide := nextTide s, ran := c.ran + 1, ofs := 0, skipNext := false, stretched := false
    lastLen := (10000000 - c.ofs).toNat + (if c.skipNext then 10000000 else 0)
    gapFrom := if c.skipNext then some (c.tide + 1) else none } }

/-- Flags of a gap, a stretch or a step in every group that counts (R57, R71): an interval that ends at this edge takes
GAP alone, and the rest falls into the next one, which is the first after the gap and carries PARTIAL. -/
def gapFlags (gap : Bool) (f : BitVec 32) (s : State) : State :=
  { s with stats := groups.foldl (fun t g =>
    let x := tget ({} : StatGroup) t g
    let fl := if gap then flGap else 0
    if !x.on then t
    else if x.startRan != s.clk.ran && (endRegular s g || endSkipped s g) then
      tput {} t g { x with flags := x.flags ||| fl, nextFlags := x.nextFlags ||| f ||| (if gap then flPartial else 0) }
    else tput {} t g { x with flags := x.flags ||| fl ||| f }) s.stats }

/-- The block of a group runs (R648). -/
def blockRuns (s : State) (g : Nat) : Bool :=
  let m := s.sys.modState
  if g = 36 then s.meter.on
  else m != 6 && (if g = 30 then m ≥ 1 else if 16 ≤ g ∧ g < 30 then m ≥ 2 else m ≥ 3)

/-- Groups whose block runs begin to count (R648). -/
def beginStats (s : State) : State :=
  { s with stats := groups.foldl (fun t g =>
    let x := tget ({} : StatGroup) t g
    if !x.on && blockRuns s g then tput {} t g (x.begin_ s.clk.ran (endRegular s g)) else t) s.stats }

/-- Keepalive counts (R93, R112). -/
def keepalives (s : State) : State :=
  each windows (fun w s => let v := win s w
    if live v && v.keepPeriod != 0 && v.keepLeft != 0 then setWin w { v with keepLeft := v.keepLeft - 1 } s else s) s

/-- Token buckets refill (R601): a hundredth of a second's rate in each tide. -/
def refillBuckets (s : State) : State :=
  { s with log := { s.log with spent := s.log.spent.foldl (fun t x =>
    tput (0, 0) t x.1 (let n := x.2.1 - (rateOf s x.1 x.2.2).rate; if n = 0 then (0, 0) else (n, x.2.2))) [] } }

/-- The heartbeat check of the tide that ended (R37, R48). -/
def heartbeatCheck (s : State) : State :=
  let c := s.cluster
  if c.st != 2 then s
  else { s with cluster := { c with beat := false, missing := if c.beat then 0 else c.missing + 1 } }

/-- Records that wait for their TLS connection go out as far as it can send in this tide (R108, log entry 96). -/
def drainTls (s : State) : State :=
  each windows (fun w s => if (win s w).origin == 4 then each (List.range (win s w).queue.length) (fun _ s => loadEvt w s) s else s) s

/-- TLS sessions send what waits, and the room that this makes may take held events (R649). -/
def serveTls (s : State) : State :=
  each windows (fun w s => if (win s w).origin == 4 then deliverHeld w s else s) (drainTls s)

/-- Spans of lanterns raised by reservations, until their trails end (R257, R258). -/
def reservedSpans (s : State) : List Span :=
  let rules := (s.par.lantern.rules.filter fun r => ruleOn s r.1 && r.2.source == 3).map (·.2)
  rules.flatMap fun r =>
    ((fleetVehicles s).filter fun v => r.classMask.testBit (classOf s v)).flatMap fun v =>
      (heldOf s.fleet.held v ++ tget [] s.fleet.passed v).flatMap fun h =>
        (tget ({} : CellCfg) s.par.fleet.cells h.cell).lanterns.map fun n =>
          ({ node := n, start := h.enter - r.lead
             stop := match h.leave with | some b => b + r.trail | none => s.clk.tide + 4097
             level := r.level } : Span)

/-- The conditional generation of reservations that passed is in force: the nodes that its frames name have the steps of what is
now held; others that change get theirs by the next result (R260, R262). -/
def condGeneration (s : State) : State :=
  if !s.lantern.condOut then s
  else
    let st := if bowOn s then formSteps (raisedSpans s ++ reservedSpans s) s else []
    let named (x : BwStep) : Bool := s.lantern.condSet.contains x.node
    updLant (fun l => { l with condOut := false, condSet := [], steps := (l.steps.filter fun x => !named x) ++ st.filter named }) s

/-- What the edge of a tide does once its number stands. -/
def edgeWork (e : EdgeIn) (s : State) : State :=
  let s := if s.clk.gapFrom.isSome then gapFlags true 0 s else s
  let s := heartbeatCheck (refillBuckets (keepalives (serveTls (beginStats s))))
  let s := peerRequests (timeAtEdge (radioAtEdge e.strobe e.linkDown s))
  let s := refAtEdge (condGeneration (fleetAtEdge (lanternAtEdge s)))
  let s := campAtEdge (updAtEdge (lampAtEdge (prAtEdge (gnssAtEdge e s))))
  noteState (checkRelays s)

/-- TIDE_EDGE (R44, R48): the number changes, and what the tide before decided takes effect. -/
def tideEdge (e : EdgeIn) (s : State) : State :=
  if !s.clk.running then s
  else
    let t := nextNumber (inOneCycle endOfTide s)
    inOneCycle (edgeWork e) (linesAtEdge t.clk.lastLen t)

def execTideEdge (e : EdgeIn) (s : State) : Res :=
  doneAt (if s.clk.running then nextTide s else s.clk.tide) s (tideEdge e s)

/-! ## Statistics and deadlines -/

/-- STATS_LATCH (R55 to R57, R71, R492, R503): metering latches its record with its group, and at the first edge after a
start whose interval had ended. -/
def execStatsLatch (group : Nat) (s : State) : Res :=
  doneIn [.stats, .lantern, .meter] s (
    if group > 36 then s
    else if group = 36 then
      let x := stat s 36
      let late := s.meter.latchDue && x.on
      let x := if late then { x with flags := x.flags ||| flPartial, nextFlags := x.nextFlags ||| flPartial } else x
      let due := statDue s 36
      if due || late then
        let s := meterLatch { s with stats := tput {} s.stats 36 (latchNow s x) }
        if due then noteImports (fun f => (mpoint s f).imp - (mpoint s f).exp) s else s
      else s
    else if statDue s group then { s with stats := tput {} s.stats group (latchNow s (stat s group)) } else s)

/-- The start tide of the checkpoint that was started last (R549). -/
def ckptStart (s : State) : Nat :=
  match s.pr.sending with
  | some c => c.tide
  | none => match s.pr.last with | some c => c.tide | none => 0

/-- A deadline of the function is to be judged (R53): a checkpoint's a hundred tides after its start. -/
def judgeDue (fn : Nat) (s : State) : Bool :=
  let x := missOf s fn
  if fn = 0 ∨ fn > 7 ∨ x.judged = some s.clk.ran then false
  else if fn ≤ 4 then true
  else if fn = 7 then x.due && ckptStart s + 100 ≤ s.clk.tide
  else x.due

/-- What the judgement itself finds missed (R53): the heartbeat, the work that a batch has not begun, a checkpoint that is
not complete. -/
def findLate (fn : Nat) (s : State) : State :=
  let one (tide n : Nat) (s : State) : State :=
    if n = 0 then s else updMiss fn (fun x => { x with lastTide := tide }) (lateResults fn n s)
  match fn with
  | 4 => one (match s.clk.gapFrom with | some a => a - 1 | none => s.clk.tide - 1) (if s.cluster.missing != 0 then 1 else 0) s
  | 6 => sendReady (one s.clk.tide s.ref.solving.length { s with ref := { s.ref with solving := [] } })
  | 7 => match s.pr.sending with
    | some c => one c.tide 1 (updPr (fun p => { p with sending := none }) s)
    | none => s
  | _ => s

/-- DEADLINE_JUDGE (R53, R54). -/
def execDeadlineJudge (fn : Nat) (s : State) : Res :=
  doneIn [.clk, .host, .stats, .pool, .ports, .ref, .fleet, .pr, .out] s (
    if !judgeDue fn s then s
    else
      let s := findLate fn s
      let x := missOf s fn
      let missed := x.late != 0
      let wait := !missed && x.run != 0 && !x.came && fn != 4 && fn != 7
      let s := updMiss fn (fun x => { x with late := 0, due := false, came := false, judged := some s.clk.ran, prevRun := x.run
                                             open_ := wait, missedNow := missed
                                             run := if missed then x.run + 1 else if wait then x.run else 0 }) s
      if missed then
        let s := markAll (ownGroup fn) flMissed s
        if x.run = 0 then missEvent fn 0 1 s else s
      else if x.run != 0 && !wait then missEvent fn 1 x.run s else s)

/-! ## The application cluster's work (R34, R48) -/

/-- CLUSTER_TIDE_WORK_START (R48, R258, R362). -/
def execClusterTideWorkStart (s : State) : Res :=
  doneIn [.host, .stats, .pool, .ports, .radio, .lantern, .gnss, .fleet, .out] s (
    if s.cluster.st != 2 then s
    else
      let s := (passCtrl 117 (Config.ctrlPriority 117).toNat 1 [] s).2
      let s := evalRules (reservedSpans s) s
      let s := placeTasks s
      { s with fleet := { s.fleet with returned := [], survive := [] }, radio := { s.radio with returned := [] }
               gnss := { s.gnss with returned := [] } })

/-- The level of a node at a tide under a step set, 0 before its first step. -/
def stepLevel (l : List BwStep) (n t : Nat) : Nat :=
  ((l.filter fun x => x.node == n && x.tide ≤ t).foldl (fun (a : Nat × Nat) x => if x.tide ≥ a.1 then (x.tide, x.level) else a)
    (0, 0)).2

/-- The step set of a node changes from the next tide on (R259). -/
def nodeChanges (s : State) (n : Nat) : Bool :=
  let k := s.clk.tide + 1
  let ts := ((s.lantern.steps ++ s.lantern.formed).filter fun x => x.node == n && x.tide > k).map (·.tide)
  (k :: ts).any fun t => stepLevel s.lantern.steps n t != stepLevel s.lantern.formed n t

/-- The frame of a changed node under the next generation (R241, R260): its steps, or RECALL with a fade that is not
stated (log entry 1). -/
def sendSteps (n : Nat) (s : State) : State :=
  let g := (s.lantern.generation + 1).toNat
  let k := s.clk.tide + 1
  let x := (link s n).x
  let es := s.lantern.formed.filter fun e => e.node == n
  if es.isEmpty then draw (queueMsg 0xFFFF x 0x19 3 (le 2 g ++ le 1 (drawn s % 64) ++ le 1 1 ++ le 2 n) s)
  else queueMsg 0xFFFF x 0x18 3 (le 2 g ++ le 4 k ++ le 1 es.length ++
    es.flatMap fun e => le 2 n ++ le 2 (e.tide - k) ++ le 2 e.level) s

/-- Lantern frames and the step set of this tide's work (R48, R258 to R260, R520). -/
def lanternResult (frames : List CellFrame) (lamps : List (Nat × Nat × Level)) (s : State) : State :=
  let ns := ((s.lantern.steps ++ s.lantern.formed).map (·.node)).foldr insertAscending []
  let changed := ns.filter (nodeChanges s)
  let s := each changed sendSteps s
  let s := updLant (fun l => { l with nextSteps := some (l.formed, !changed.isEmpty), resultIn := true }) s
  { s with radio := { s.radio with next := s.radio.next ++ frames }, lampSign := { s.lampSign with ruleNext := lamps } }

/-- The bursts of a checkpoint's data through internal lighter channel 28 (R440, R443, R549). -/
def ckptBursts (n : Nat) (s : State) : State :=
  countBursts 28 n s

/-- The harbourmaster takes a result of the cluster: one after its deadline is discarded and counted (R34, R48, R50, R262, R349,
R370, R371, R549). -/
def takeResult (r : ClusterResult) (us : Nat) (s : State) : State :=
  match r with
  | .lantern frames lamps =>
    if us ≤ 7000 then inTime 1 (lanternResult frames lamps s)
    else lateArrival 1 1 (updLant (fun l => { l with formed := [] }) s)
  | .reservations reqs conditional =>
    if us ≤ 7000 then
      if !s.fleet.on then s
      else inTime 2 (updLant (fun l => { l with cond := l.cond ++ conditional }) (updFleet (fun f => { f with batch := f.batch ++ reqs }) s))
    else lateArrival 2 1 s
  | .release zones =>
    if us ≤ 9000 then
      if s.fleet.on then inTime 3 (updFleet (fun f => { f with request := f.request ||| (zones &&& mayRequest s (claim s)) }) s) else s
    else lateArrival 3 1 s
  | .checkpoint data => ckptBursts data.length (ckptDone data s)

/-- CLUSTER_RESULT (R34, R420 to R422): the result passes control queue 116 with the priority and the length in bytes that the
cluster gives it, and a refused one is lost. -/
def execClusterResult (r : ClusterResult) (prio len us : Nat) (s : State) : Res :=
  doneIn [.clk, .host, .stats, .radio, .lantern, .pool, .fleet, .pr, .lampSign, .out, .free] s (
    if s.cluster.st != 2 then s
    else
      let p := passCtrl 116 prio (berths len) [] s
      if p.1.isSome then takeResult r us p.2 else p.2)

/-! ## Corrections (R66 to R72) -/

/-- An accepted jump whose source has moved on lapses (R161, R173). -/
def lapseJump (c : Correction) (j : Jump) (d : Int) (s : State) : State :=
  let s := finishOpt j.accepted stSTATE { s with
    clk := { s.clk with correction := none }, time := { s.time with jump := none } }
  flagJump c.src d 5 s

/-- The numbering of a correction (R66): the number of the tide, its start against that number, whether the edge after is
raised. -/
def renumber (k : Nat) (d : Int) : Nat × Int × Bool :=
  if d ≥ 10000000 then
    let n := (d / 10000000).toNat
    let r := d % 10000000
    (k + n, r, r > 5000000)
  else (k, d, false)

/-- TIDE_GAP (R70). A stretch that is no whole number of microseconds is rounded down (DESIGN CHOICE, log entry 113). -/
def gapEvent (k m : Nat) (skip : Bool) (d : Int) (cause : Nat) (s : State) : State :=
  if d ≥ 10000000 then
    raise 0x0380 (le 8 k ++ le 4 (m - k + bit skip) ++ le 4 0 ++ le 1 cause ++ le 1 (bit skip) ++ le 2 0) s
  else if d ≤ -10000000 then
    raise 0x0380 (le 8 k ++ le 4 0 ++ le 4 (d.natAbs / 1000) ++ le 1 cause ++ le 1 0 ++ le 2 0) s
  else s

/-- What a correction does to the functions that count in tides (R68, R72, R225, R380, R407). -/
def afterCorrection (k m : Nat) (skip : Bool) (d : Int) (s : State) : State :=
  let s := gateOverruns s
  let s := if m = k then s
    else
      let s := dropSkipped k m (holdAll (reloadCells s))
      if skip then dropSkipped (m + 1) (m + 2) s else s
  if d.natAbs > 250000 then each (usedNodes s) syncNode (massAdrift s) else s

/-- The correction applies at its edge (R47, R66, R70, R71, R159, R161, R172, R173). -/
def applyCorrection (c : Correction) (d : Int) (s : State) : State :=
  let k := s.clk.tide
  let x := renumber k d
  let m := x.1
  let jumped := c.cause == 1 || c.cause == 2
  let cause := if jumped then (if d ≥ 0 then 1 else 2) else c.cause
  let first := s.time.prov
  let job := s.time.jump.bind (·.accepted)
  let s : State := { s with
    clk := { s.clk with
      correction := none, tide := m, ofs := x.2.1, skipNext := x.2.2, stretched := d ≤ -10000000
      gapFrom := if m = k then s.clk.gapFrom else some k }
    ref := { s.ref with timeEpochs := s.ref.timeEpochs.map (· + (m - k)) }
    time := { s.time with
      prov := false, slew := 0, steps := s.time.steps + 1, ppsCorr := s.time.ppsCorr + d
      jump := if jumped then none else s.time.jump } }
  let s := refer d s
  let s := gapFlags (m != k) (flStep ||| (if d ≤ -10000000 then flStretch else 0)) s
  let s := afterCorrection k m x.2.2 d s
  let s := gapEvent k m x.2.2 d cause s
  let s := raise 0x0384 (leI 8 d ++ le 8 m ++ le 1 (if first then 2 else if jumped then 1 else 0) ++ le 3 0) s
  let s := if jumped then finishOpt job stOK s else s
  noteState (toState 2 c.src s)

/-- Every zone was halted by the horn of the tide before (R68). -/
def preHorn (s : State) : Bool := s.clk.preHalted || s.fleet.horn.halt == allHalted

/-- The correction whose edge has come, the latest confirmed offset of its source, and the jump that a host accepted
(R66, R159, R161). -/
def dueCorrection (s : State) : Option (Correction × Int × Option Jump) :=
  match s.clk.correction with
  | none => none
  | some c =>
    if c.tide > s.clk.tide then none
    else some (c, (srcOf s c.src).latest.getD c.d, s.time.jump.filter fun j => j.accepted.isSome)

/-- An accepted jump no longer is what was flagged, or goes back by more than 60 s (R67, R161). -/
def lapsed (s : State) (d : Int) (j : Option Jump) : Bool :=
  match j with | some j => ((d - j.d).natAbs : Int) > s.par.time.jumpNs || d < -minuteNs | none => false

/-- A correction of 10 ms or more whose horn did not halt every zone waits for the next edge (R68). -/
def mustWait (s : State) (d : Int) : Bool := d.natAbs ≥ 10000000 && !preHorn s

/-- The tide number once the correction of this edge has applied (R66). -/
def correctedTide (s : State) : Nat :=
  match dueCorrection s with
  | some (_, d, j) => if lapsed s d j || mustWait s d then s.clk.tide else (renumber s.clk.tide d).1
  | none => s.clk.tide

/-- TIME_CORRECTION_APPLY (R66 to R68, R159, R161). -/
def correct (s : State) : State :=
  match dueCorrection s with
  | none => s
  | some (c, d, j) =>
    if lapsed s d j then (match j with | some j => lapseJump c j d s | none => s)
    else if mustWait s d then { s with clk := { s.clk with correction := some { c with d, tide := nextTide s } } }
    else applyCorrection c d s

def execTimeCorrectionApply (s : State) : Res := doneAt (correctedTide s) s (inOneCycle correct s)

/-! ## Sessions and moves at their edge -/

/-- What a session held is released (R93, R128, R149, R300, R329, R401, R449, R477, R527, R572, R604). -/
def releaseSession (w sid : Nat) (s : State) : State :=
  let qs := (List.range 16).filter fun q => (qwinOf s q).owner == some (w, sid)
  let ns := (List.range 8).filter fun n => (ltOf s n).owner == some (w, sid)
  let s := each ns releaseLt s
  let s := each qs (fun q s => signRelease q (quayRelease q (releaseQwin q s))) s
  let s : State := { s with
    gnss := { s.gnss with streams := s.gnss.streams.filter fun x => x.sid != sid }
    ref := { s.ref with streams := s.ref.streams.filter fun x => x.sid != sid }
    ports := { s.ports with ruleOwner := s.ports.ruleOwner.filter fun x => x.2 != some (w, sid) } }
  let s := (s.log.exports.filter fun e => e.job.win == w && e.job.sid == sid).foldl (fun s e => dropExport e s) s
  let s := updRelease w sid s
  if s.cfg.owner == sid && (slotOf s .pending).isSome && !(s.cfg.apply.any (·.kind == 0)) then
    finishOpt s.cfg.checkJob stCANCELLED (discardLoad s)
  else s

/-- The command in flight of a session runs on when the session's window is released (R93). -/
def leaveTurns (w : Nat) (s : State) : State :=
  let v := win s w
  { s with host := { s.host with turns := s.host.turns.map fun x =>
    if x.w == w && x.sid == v.sid && x.left.isNone then { x with left := v.inflight.map fun c => (c, v.origin) } else x } }

/-- What commands that ran on after a release of the window bound goes back (R93). -/
def sweepWindow (w : Nat) (s : State) : State :=
  (s.host.sweep.filter fun x => x.1 == w).foldl (fun s x => releaseSession x.1 x.2 s)
    { s with host := { s.host with sweep := s.host.sweep.filter fun x => x.1 != w } }

/-- SESSION_RELEASE_EDGE (R93, R114): at the first edge after the close the window becomes FREE and every register of it
returns to its reset value. -/
def sessionRelease (w : Nat) (s : State) : State :=
  let s := sweepWindow w s
  let v := win s w
  if w > 7 || v.st != 4 || v.closeRan == s.clk.ran then s
  else setWin w {} (sessionChange w 2 v.reason (releaseSession w v.sid (leaveTurns w s)))

/-- SESSION_RELEASE_EDGE: the events of the edge enter the queues in ascending code order (R108). -/
def execSessionReleaseEdge (w : Nat) (s : State) : Res :=
  doneIn [.host, .cfg, .stats, .time, .pool, .ports, .gnss, .ref, .upd, .quay, .lampSign, .log, .out] s
    (inOneCycle (sessionRelease w) s)

/-- PLACEMENT_MOVE_EDGE (R63, R65, R254, R301, R363). -/
def placementMove (item : MoveItem) (s : State) : State :=
  match item with
  | .node n => nodeMoveEdge n s
  | .signal ch => signalMove ch s
  | .task t => taskMoveEdge t s

def execPlacementMoveEdge (item : MoveItem) (s : State) : Res :=
  doneIn [.host, .stats, .pool, .ports, .radio, .lantern, .gnss, .fleet, .log, .out, .free] s (inOneCycle (placementMove item) s)

end Sys2Proof.Machine
end

