-- ==== Sys2Proof/Machine/Startup.lean ====
section
/-! DEFINITION. Sys2Proof/Machine/Startup.lean: the system commands, resets, the start-up sequence, the power-fail signal
and ROM recovery mode (chapters 03, 17 and 20). -/

namespace Sys2Proof.Machine

/-! ## System commands (R115, R609) -/

/-- "ES9-4096-M", zero-padded (R115). -/
def partName : List Byte := [0x45, 0x53, 0x39, 0x2D, 0x34, 0x30, 0x39, 0x36, 0x2D, 0x4D] ++ zeros 6

/-- SYS_INFO (R115). -/
def sysInfoBytes (s : State) : List Byte :=
  partName ++ le 8 Config.serial ++ slice (fwHeader s (runSlot s) ++ zeros 32) 28 4 ++ le 1 s.boot.activeArea
    ++ (List.range 5).flatMap (fun d => le 1 (Config.dieRevision d)) ++ le 1 4 ++ le 1 2 ++ le 2 0

def execSysInfo (w : Nat) (s : State) : Res :=
  answered s (onCmd w 0x1101 anyPayload (fun _ s => ok w (sysInfoBytes s) s) s)

/-- SYS_STATE (R115): the tides issued since the last reset. -/
def execSysState (w : Nat) (s : State) : Res :=
  answered s (onCmd w 0x1102 anyPayload (fun _ s =>
    ok w (le 4 (modState s) ++ le 8 s.clk.tide ++ le 8 (s.clk.ran - s.sys.startRan)) s) s)

/-- RESET's values (R115, R609). -/
def resetBad (p : List Byte) : Bool := !([4, 5, 9].contains (u8 p 0)) || u16 p 2 != 0xC0DE

/-- RESET (R115, R609, R618). -/
def sysResetF (w : Nat) (p : List Byte) (s : State) : State :=
  let s := cancelActivation (ok w [] s)
  noteState { s with sys := { s.sys with modState := 5, resetWait := some (u8 p 0, s.clk.ran + 3) } }

def execSysReset (w : Nat) (s : State) : Res := doneIn [.sys, .host, .upd, .log, .out] s (onCmd w 0x1140 resetBad (sysResetF w) s)

/-- RESET_EDGE (R115, R608): the third tide edge after the response. -/
def execResetEdge (s : State) : Res :=
  done s (match s.sys.resetWait with
    | none => s
    | some (kind, t) =>
      if s.clk.ran < t then s
      else if kind = 5 then hmReset true s
      else fullReset kind s)

/-! ## Resets by power, pin and time (R502, R538, R608, R615, R633) -/

/-- MAIN_DOMAIN_LOSS (R502, R504): what a cold start keeps, and the RTC latched as the loss instant, oscillator cycles after its
last second rollover. -/
def execMainDomainLoss (cycles : Nat) (s : State) : Res :=
  done s (
    if s.sys.kind = 0 then s
    else
      let t := fullReset 1 s
      { t with
        sys := { t.sys with kind := 0 }
        par := { meter := s.par.meter }
        meter := { t.meter with mainOff := true, loss := some (rtcNs (rtcRun cycles s.rtc)) } })

/-- COLD_START (R608). -/
def execColdStart (s : State) : Res := done s (if s.sys.kind = 0 then fullReset 1 s else s)

/-- EXTERNAL_RESET (R608, R633): RST_N held low for 10 µs. RECOV_N is sampled at the release, which is ROM_START's. -/
def execExternalReset (lowNs : Nat) (_recovLow : Bool) (s : State) : Res :=
  done s (if lowNs ≥ 10000 ∧ s.sys.kind ≠ 0 then fullReset 3 s else s)

/-- START_TIMEOUT (R615): only before RUNNING. -/
def execStartTimeout (s : State) : Res := done s (if s.sys.kind ≠ 0 ∧ s.sys.modState < 4 ∧ !s.sys.warm then fullReset 8 s else s)

/-- POWER_FAIL_SIGNAL (R517, R537): relays open, ports and antenna bias off, the cluster stopped, metering saved, the
logbook written. -/
def execPowerFailSignal (s : State) : Res :=
  doneIn [.sys, .cluster, .host, .par, .gnss, .fleet, .pr, .meter, .log, .out, .free] s (
    if s.pr.powerFail || s.sys.kind = 0 then s
    else
      let s := updPr (fun p => { p with powerFail := true }) s
      let s := checkRelays s
      let s := each [0, 1] (fun a s => applyGnssSetting (.bias a 0) s) s
      let c := s.cluster
      let s : State := { s with
        cluster := if c.st = 0 then c else { c with st := 1, beat := false, declare_ := true, deferred := true, restoring := true } }
      let s := if s.meter.on then beginSave 1 none s else s
      noteState (flushStaging s))

/-- POWER_FAIL_CLEAR (R538). -/
def execPowerFailClear (s : State) : Res := done s (if s.pr.powerFail then fullReset 2 s else s)

/-! ## Boot ROM (R611 to R613, R619) -/

/-- The boot area can start (R612). -/
def areaOk (s : State) (a : Nat) : Bool := s.boot.sealOk.getLsbD a && (tget {} s.boot.seals a).epoch ≥ s.boot.otpEpoch

/-- Recovery mode (R502, R619, R622). -/
def enterRecovery (cause : Nat) (s : State) : State :=
  noteState { s with
    sys := { s.sys with modState := 6, hmRuns := false, romDone := false, recov := { cause } }
    meter := { s.meter with on := false, loss := some (rtcNs s.rtc) } }

/-- A boot area starts (R131, R612): outside a trial the start counts as failed until RUNNING. -/
def startArea (s : State) : State :=
  { s with
    sys := { s.sys with romDone := true }
    boot := { s.boot with failedStarts := if s.boot.trial then s.boot.failedStarts else s.boot.failedStarts + 1,
                          fwChanged := s.boot.fwChanged || s.boot.trial } }

/-- A revert that the boot ROM makes in place (R581, R608, R612). -/
def romRevert (cause : Nat) (s : State) : State :=
  let t := revertState cause s
  { t with sys := { t.sys with kind := 7 } }

/-- rom_start (R612). -/
def romStart (recovLow : Bool) (s : State) : State :=
  if recovLow then enterRecovery 1 s
  else if s.sys.kind = 9 then enterRecovery 2 s
  else if s.boot.failedStarts ≥ 3 then enterRecovery 4 s
  else
    let s := if s.boot.trial && s.sys.kind != 6 then romRevert 2 s else s
    if areaOk s (runSlot s) then startArea s
    else if s.boot.trial then
      let s := romRevert 4 s
      if areaOk s (runSlot s) then startArea s else enterRecovery 3 s
    else enterRecovery 3 s

/-- The boot ROM is to choose an area. -/
def inRom (s : State) : Bool := s.sys.kind != 0 && s.sys.modState == 0 && !s.sys.hmRuns && !s.sys.warm && !s.sys.romDone

/-- ROM_START (R612). -/
def execRomStart (recovLow : Bool) (s : State) : Res := doneIn [.sys, .boot, .host, .cfg, .upd, .meter, .out] s (if inRom s then romStart recovLow s else s)

/-! ## Start-up sequence (R614 to R618) -/

/-- The module will be pilot in single mode on its stored configuration (R126, R539). -/
def startsSingle (s : State) : Bool :=
  let n := startConfig s
  !n.par.pr.pair && !n.cfg.defaultedBit

/-- The number of the tide in which the RTC's time lies (R44, R174, R614). -/
def rtcTide (r : Rtc) : Nat := (r.sec + rtcEpoch) * 100 + r.frac.toNat * 100 / 2 ^ 32

/-- Module time and tides from the RTC, and the cluster of a single-mode start, which counts as down (R47, R614, R650). -/
def loadTime (s : State) : State :=
  { s with
    clk := { s.clk with tide := rtcTide s.rtc, running := true }
    cluster := if startsSingle s then { st := 1, restoring := true, refill := true } else {} }

/-- The tides of a trial's window that the start took (R579). -/
def markTrial (s : State) : State :=
  updUpd (fun u => { u with trial := u.trial.map fun t => { t with gone := s.clk.tide - t.start, since := s.clk.ran } }) s

/-- The START record (R599, R605). -/
def startRecord (recovered : Nat) (s : State) : State :=
  logOwn 0x10F2 5 (le 1 s.sys.kind ++ le 3 0 ++ le 8 s.rtc.sec ++ le 4 recovered ++ le 4 s.log.skipped) s

/-- UPD_RESULT of a revert and of a trial's start (R581, R593). -/
def startResults (s : State) : State :=
  let s := match s.upd.reverted with
    | some (cause, v) => updResult 6 cause 0 v (updUpd (fun u => { u with reverted := none }) s)
    | none => s
  if s.boot.trial && s.sys.kind == 6 then updResult 4 0 0 (u32 (fwHeader s s.boot.trialArea) 28) s else s

/-- The harbourmaster firmware is to run: a boot area was started, or the harbourmaster restarts alone (R614, R617). -/
def mayRun (s : State) : Bool := s.sys.kind != 0 && s.sys.modState == 0 && !s.sys.hmRuns && (s.sys.warm || s.sys.romDone)

/-- HARBOURMASTER_RUN (R47, R506, R599, R614, R617), a number of oscillator cycles after the RTC's last second rollover. -/
def execHarbourmasterRun (cycles : Nat) (s : State) : Res :=
  doneAt (if mayRun s && !s.sys.warm then rtcTide (rtcRun cycles s.rtc) else s.clk.tide) s (
    if !mayRun s then s
    else
      let s : State := { s with rtc := rtcRun cycles s.rtc }
      let s := if s.sys.warm then s else markTrial (loadTime s)
      let s : State := { s with sys := { s.sys with modState := 1, hmRuns := true
                                                    startRan := if s.sys.warm then s.sys.startRan else s.clk.ran } }
      let x := recoverTail s
      noteState (showGpio (updTimeQ (batteryBack (startResults (startRecord x.1 x.2))))))

/-- A harbourmaster restart checks the configuration afresh (R610): a section that is unchanged leaves its function and
what commands set alone, and what runs on the cluster waits for it (R129). -/
def warmConfig (s : State) : State :=
  let n := startConfig s
  let diff := sectionTypes.filter fun t => sectionBytes n.cfg.sections t != sectionBytes s.cfg.sections t
    || (t == 0x0C && n.cfg.defaultedBit && n.par.meter != s.par.meter)
  let later := diff.filter fun t => clusterSection t && clusterDown s && !n.cfg.defaultedBit
  each (diff.filter fun t => !later.contains t) (takeSection n.par)
    { n with par := s.par, cfg := { n.cfg with waiting := n.cfg.waiting.filter (fun t => !later.contains t) ++ later } }

/-- CONFIG_CHECKED (R125, R503, R614, R618, R637, R645). -/
def execConfigChecked (plate : Int) (s : State) : Res :=
  done s (
    if s.sys.modState != 1 || !s.sys.hmRuns then s
    else
      let t := if s.sys.warm then warmConfig s else startConfig s
      let t : State := { t with boot := { t.boot with fwChanged := false }, sys := { t.sys with modState := 2 } }
      noteState (if s.sys.warm then t else keepScales (meterStart (gpioStart (thermalStart plate t)))))

/-- DIES_LOADED (R614, R616): the dies are aligned, ledgers start. -/
def execDiesLoaded (s : State) : Res :=
  doneIn [.sys, .host, .radio, .out] s (
    if s.sys.modState != 2 || !s.sys.hmRuns then s
    else
      let s : State := { s with
        sys := { s.sys with modState := 3 }
        radio := { s.radio with dies := [0, 1].foldl (fun t d =>
          tput {} t d { tget ({} : Die) t d with loaded := true }) s.radio.dies } }
      noteState (sealLinks (startLedgers s)))

/-- The services that configuration enables start after a full reset; this is no enable (R648). -/
def startServices (s : State) : State :=
  let t := heldCoordinates (each allPorts startPtp s)
  let t := if t.par.ref.enabled then startRef false 7 t else t
  let t := if t.par.ref.posEnabled then startPos t else t
  let t := if t.par.fleet.enabled then startFleet t else t
  { startQuays (startPorts t) with stats := s.stats }

/-- SERVICES_STARTED (R539, R613, R614, R618). -/
def execServicesStarted (s : State) : Res :=
  doneIn [.clk, .sys, .boot, .host, .stats, .time, .radio, .pool, .ports, .ref, .fleet, .quay, .log, .out] s (
    if s.sys.modState != 3 || !s.sys.hmRuns then s
    else
      let t := if s.sys.warm then s else startServices s
      noteState { t with
        sys := { t.sys with modState := 4, warm := false, roleDue := !t.par.pr.pair && !t.cfg.defaultedBit }
        boot := { t.boot with failedStarts := 0 } })

/-! ## Recovery mode (R620 to R622) -/

def updRecov (f : Recovery → Recovery) (s : State) : State := { s with sys := { s.sys with recov := f s.sys.recov } }

/-- A recovery response (R621). -/
def recAnswer (c op status : Nat) (payload : List Byte) (s : State) : State :=
  let r := s.sys.recov
  emit (.recovery c (le 1 op ++ le 1 r.st ++ le 2 status ++ le 4 payload.length ++ le 8 r.held.length ++ payload)) s

/-- Recovery mode takes a request: BUSY to a client while another one owns the load (R619, R620). -/
def onRecovery (c op : Nat) (f : State → State) (s : State) : State :=
  if s.sys.modState != 6 then s
  else if s.sys.recov.owner != 0 && s.sys.recov.owner != c then recAnswer c op stBUSY [] s
  else f s

/-- INFO's payload (R622). -/
def recInfoBytes (s : State) : List Byte :=
  partName ++ le 8 Config.serial ++ le 4 Config.romVersion ++ le 1 s.sys.recov.cause ++ le 1 s.boot.failedStarts
    ++ le 1 s.boot.otpEpoch ++ le 1 0 ++ le 2 (keysWord s) ++ le 2 s.sys.recov.lastStatus

/-- INFO (R622). -/
def execRecInfo (c : Nat) (s : State) : Res :=
  doneIn [.out] s (onRecovery c 1 (fun s => recAnswer c 1 stOK (recInfoBytes s) s) s)

/-- BEGIN (R572, R620, R622). -/
def execRecBegin (c total : Nat) (s : State) : Res :=
  doneIn [.sys, .out] s (onRecovery c 2 (fun s =>
    if total > packageMax then recAnswer c 2 stFIELD [] s
    else if [1, 2, 3].contains s.sys.recov.st then recAnswer c 2 stBUSY [] s
    else recAnswer c 2 stOK [] (updRecov (fun r => { r with st := 1, owner := c, total, held := [] }) s)) s)

/-- The most data bytes of a request: 4,096 over USB, 1,400 over Ethernet (R620). -/
def recMax (c : Nat) : Nat := if c = 1 then 4096 else 1400

/-- DATA (R573, R620, R622). -/
def execRecData (c offset : Nat) (data : List Byte) (s : State) : Res :=
  doneIn [.sys, .out] s (onRecovery c 3 (fun s =>
    let r := s.sys.recov
    if data.length > recMax c then recAnswer c 3 stLENGTH [] s
    else if r.st != 1 || r.owner != c then recAnswer c 3 stDENIED [] s
    else if offset != r.held.length || r.held.length + data.length > r.total then recAnswer c 3 stFIELD [] s
    else
      let x := checkArrived r.total r.held.length (r.held ++ data)
      recAnswer c 3 (if x.2 then stOK else stINTEG) [] (updRecov (fun r => { r with held := x.1 }) s)) s)

/-- END (R572, R622). -/
def execRecEnd (c : Nat) (s : State) : Res :=
  doneIn [.sys, .out] s (onRecovery c 4 (fun s =>
    let r := s.sys.recov
    if r.owner != c then recAnswer c 4 stDENIED [] s
    else if r.st != 1 then recAnswer c 4 stSTATE [] s
    else if r.held.length < r.total then recAnswer c 4 stLENGTH [] s
    else recAnswer c 4 stACCEPTED [] (updRecov (fun r => { r with st := 2 }) s)) s)

/-- The status of END's verification: R574, and kind 1 only (R622). -/
def recVerify (s : State) : Nat :=
  let b := s.sys.recov.held
  let r := verifyPackage s b
  if r = stOK ∧ u8 b 16 ≠ 1 then stFIELD else r

/-- Both slots hold nothing whole while the ROM writes them (R575, R622). -/
def emptySlots (s : State) : State :=
  setSeal 1 none (setSlot 1 .empty (setSeal 0 none (setSlot 0 .empty s)))

/-- RECOVERY_VERIFY_COMPLETE (R622). -/
def execRecoveryVerifyComplete (s : State) : Res :=
  doneIn [.sys, .boot, .upd] s (
    if s.sys.modState != 6 || s.sys.recov.st != 2 then s
    else if recVerify s = stOK then emptySlots (updRecov (fun r => { r with st := 3 }) s)
    else updRecov (fun r => { r with st := 0, owner := 0, total := 0, held := [], lastStatus := recVerify s }) s)

/-- Both slots and seals hold the package's set; A is active and confirmed, without a trial (R571, R622). -/
def recInstalled (s : State) : State :=
  let b := s.sys.recov.held
  let e := u8 b 40
  let s := setSeal 1 (some (sealOf b)) (setSlot 1 (setOf b) (setSeal 0 (some (sealOf b)) (setSlot 0 (setOf b) s)))
  let s : State := { s with
    boot := { s.boot with activeArea := 0, trial := false, trialArea := 0, fwChanged := true, otpEpoch := max s.boot.otpEpoch e }
    upd := { s.upd with trial := none, ready := false, reverted := none, st := 0 } }
  let s := if (keyRecordOf b).isEmpty then s else applyKeys (keyRecordOf b) s
  updRecov (fun r => { r with st := 4, lastStatus := stOK }) s

/-- RECOVERY_INSTALL_COMPLETE (R575, R622). -/
def execRecoveryInstallComplete (readBackOk : Bool) (s : State) : Res :=
  doneIn [.sys, .boot, .upd] s (
    if s.sys.modState != 6 || s.sys.recov.st != 3 then s
    else if readBackOk then recInstalled s
    else updRecov (fun r => { r with st := 0, owner := 0, total := 0, held := [], lastStatus := stINTEG }) s)

/-- RESTART (R608, R613, R622). -/
def execRecRestart (c : Nat) (s : State) : Res :=
  done s (onRecovery c 5 (fun s =>
    let s := recAnswer c 5 stOK [] s
    fullReset 4 { s with boot := { s.boot with failedStarts := 0 } }) s)

/-- RECOVERY_OWNER_TIMEOUT (R620): a load that is not ended goes with its owner. -/
def execRecoveryOwnerTimeout (s : State) : Res :=
  doneIn [.sys] s (
    if s.sys.modState != 6 || s.sys.recov.owner = 0 then s
    else updRecov (fun r => if r.st = 1 then { r with owner := 0, st := 0, total := 0, held := [] } else { r with owner := 0 }) s)

/-- The link-local address of recovery mode, 169.254.a.b (R620). -/
def recAddress : Nat :=
  169 * 2 ^ 24 + 254 * 2 ^ 16 + (1 + Config.serial % 256 % 254) * 2 ^ 8 + Config.serial / 256 % 256

/-- ARP_REQUEST (R620). -/
def execArpRequest (target : Nat) (s : State) : Res :=
  doneIn [.out] s (if s.sys.modState = 6 ∧ target = recAddress then emit (.arp target) s else s)

end Sys2Proof.Machine
end

