-- ==== Sys2Proof/Machine/Dispatch.lean ====
section
/-! DEFINITION. Sys2Proof/Machine/Dispatch.lean: the meaning of every command, one arm for each constructor of Instr. -/

namespace Sys2Proof.Machine

def exec (i : Instr) (s : State) : Host.Outcome State Fault Refusal :=
  match i with
  | .tideEdge e => Sys2Proof.Machine.execTideEdge e s
  | .tideMessageSend reached => Sys2Proof.Machine.execTideMessageSend reached s
  | .frameLoad => Sys2Proof.Machine.execFrameLoad s
  | .clusterTideWorkStart => Sys2Proof.Machine.execClusterTideWorkStart s
  | .clusterResult r prio len us => Sys2Proof.Machine.execClusterResult r prio len us s
  | .clusterHeartbeat => Sys2Proof.Machine.execClusterHeartbeat s
  | .clusterFault => Sys2Proof.Machine.execClusterFault s
  | .clusterDownDeclare => Sys2Proof.Machine.execClusterDownDeclare s
  | .clusterRestoreComplete => Sys2Proof.Machine.execClusterRestoreComplete s
  | .lockstepMismatch => Sys2Proof.Machine.execLockstepMismatch s
  | .deadlineJudge fn => Sys2Proof.Machine.execDeadlineJudge fn s
  | .statsLatch group => Sys2Proof.Machine.execStatsLatch group s
  | .functionStopEdge f => Sys2Proof.Machine.execFunctionStopEdge f s
  | .functionStartEdge f => Sys2Proof.Machine.execFunctionStartEdge f s
  | .placementMoveEdge item => Sys2Proof.Machine.execPlacementMoveEdge item s
  | .timeCorrectionApply => Sys2Proof.Machine.execTimeCorrectionApply s
  | .rfGroupFreeze o addr dt => Sys2Proof.Machine.execRfGroupFreeze o addr dt s
  | .rfFreezeExpire o g => Sys2Proof.Machine.execRfFreezeExpire o g s
  | .rcRegisterRead o addr => Sys2Proof.Machine.execRcRegisterRead o addr s
  | .improperAccess o addr write => Sys2Proof.Machine.execImproperAccess o addr write s
  | .registerWrite o addr v be => Sys2Proof.Machine.execRegisterWrite o addr v be s
  | .spiTransaction op addr words n dt => Sys2Proof.Machine.execSpiTransaction op addr words n dt s
  | .usbRequest header data dt => Sys2Proof.Machine.execUsbRequest header data dt s
  | .sessOpen o w => Sys2Proof.Machine.execSessOpen o w s
  | .sessCloseWrite o w => Sys2Proof.Machine.execSessCloseWrite o w s
  | .doorbellWrite o w v => Sys2Proof.Machine.execDoorbellWrite o w v s
  | .rspReadyClear o w => Sys2Proof.Machine.execRspReadyClear o w s
  | .evtRelease o w => Sys2Proof.Machine.execEvtRelease o w s
  | .keepaliveExpiry w => Sys2Proof.Machine.execKeepaliveExpiry w s
  | .pcieLinkLoss => Sys2Proof.Machine.execPcieLinkLoss s
  | .usbDetach => Sys2Proof.Machine.execUsbDetach s
  | .tlsConnectionLoss w alert => Sys2Proof.Machine.execTlsConnectionLoss w alert s
  | .tlsConnectionAccept port tcp h cert certOk => Sys2Proof.Machine.execTlsConnectionAccept port tcp h cert certOk s
  | .tlsRecord w record => Sys2Proof.Machine.execTlsRecord w record s
  | .sessionReleaseEdge w => Sys2Proof.Machine.execSessionReleaseEdge w s
  | .hello w => Sys2Proof.Machine.execHello w s
  | .sessionInfo w => Sys2Proof.Machine.execSessionInfo w s
  | .keepalive w => Sys2Proof.Machine.execKeepalive w s
  | .subscribe w => Sys2Proof.Machine.execSubscribe w s
  | .unsubscribe w => Sys2Proof.Machine.execUnsubscribe w s
  | .sessClose w => Sys2Proof.Machine.execSessClose w s
  | .sysInfo w => Sys2Proof.Machine.execSysInfo w s
  | .sysState w => Sys2Proof.Machine.execSysState w s
  | .sysReset w => Sys2Proof.Machine.execSysReset w s
  | .resetEdge => Sys2Proof.Machine.execResetEdge s
  | .cfgStatus w => Sys2Proof.Machine.execCfgStatus w s
  | .cfgLoadBegin w => Sys2Proof.Machine.execCfgLoadBegin w s
  | .cfgLoadData w => Sys2Proof.Machine.execCfgLoadData w s
  | .cfgLoadEnd w => Sys2Proof.Machine.execCfgLoadEnd w s
  | .cfgCheckComplete => Sys2Proof.Machine.execCfgCheckComplete s
  | .cfgApply w => Sys2Proof.Machine.execCfgApply w s
  | .cfgCancel w => Sys2Proof.Machine.execCfgCancel w s
  | .cfgRevert w => Sys2Proof.Machine.execCfgRevert w s
  | .cfgApplyEdge => Sys2Proof.Machine.execCfgApplyEdge s
  | .cfgControlRecordWrite => Sys2Proof.Machine.execCfgControlRecordWrite s
  | .ptpSyncRx port m => Sys2Proof.Machine.execPtpSyncRx port m s
  | .ptpAnnounceRx port a => Sys2Proof.Machine.execPtpAnnounceRx port a s
  | .announceReceiptTimeout port => Sys2Proof.Machine.execAnnounceReceiptTimeout port s
  | .ptpDelayReqRx port seq m => Sys2Proof.Machine.execPtpDelayReqRx port seq m s
  | .ptpPdelayRx port m => Sys2Proof.Machine.execPtpPdelayRx port m s
  | .ptpSyncSend port => Sys2Proof.Machine.execPtpSyncSend port s
  | .ringSyncTimeout => Sys2Proof.Machine.execRingSyncTimeout s
  | .extPpsEdge offset gap => Sys2Proof.Machine.execExtPpsEdge offset gap s
  | .ext10mAccept ppb => Sys2Proof.Machine.execExt10mAccept ppb s
  | .ext10mLoss => Sys2Proof.Machine.execExt10mLoss s
  | .sourceHoldoffExpiry src => Sys2Proof.Machine.execSourceHoldoffExpiry src s
  | .timeStateEdge => Sys2Proof.Machine.execTimeStateEdge s
  | .txTimestampCapture port owner id stamp => Sys2Proof.Machine.execTxTimestampCapture port owner id stamp s
  | .txTimestampDrain => Sys2Proof.Machine.execTxTimestampDrain s
  | .ppsOutEdge => Sys2Proof.Machine.execPpsOutEdge s
  | .timeStatus w dt => Sys2Proof.Machine.execTimeStatus w dt s
  | .timePortStatus w => Sys2Proof.Machine.execTimePortStatus w s
  | .timeJumpAccept w => Sys2Proof.Machine.execTimeJumpAccept w s
  | .timeJumpReject w => Sys2Proof.Machine.execTimeJumpReject w s
  | .timePortSet w => Sys2Proof.Machine.execTimePortSet w s
  | .timeSourceSet w => Sys2Proof.Machine.execTimeSourceSet w s
  | .timeThresholdSet w => Sys2Proof.Machine.execTimeThresholdSet w s
  | .timeOutputSet w => Sys2Proof.Machine.execTimeOutputSet w s
  | .changeApplyEdge => Sys2Proof.Machine.execChangeApplyEdge s
  | .batteryDomainPowerUp => Sys2Proof.Machine.execBatteryDomainPowerUp s
  | .rtcSecondRollover young => Sys2Proof.Machine.execRtcSecondRollover young s
  | .rtcDisciplineLoad dt => Sys2Proof.Machine.execRtcDisciplineLoad dt s
  | .commitSec o => Sys2Proof.Machine.execCommitSec o s
  | .commitCal o => Sys2Proof.Machine.execCommitCal o s
  | .rtcStatus w frac => Sys2Proof.Machine.execRtcStatus w frac s
  | .rtcSet w => Sys2Proof.Machine.execRtcSet w s
  | .rtcUtcSet w => Sys2Proof.Machine.execRtcUtcSet w s
  | .subghzCellTx x busy => Sys2Proof.Machine.execSubghzCellTx x busy s
  | .radioFrameRx x f => Sys2Proof.Machine.execRadioFrameRx x f s
  | .enhAckRx x node errUs => Sys2Proof.Machine.execEnhAckRx x node errUs s
  | .ackTimeout x node => Sys2Proof.Machine.execAckTimeout x node s
  | .rxWindowEnd x node => Sys2Proof.Machine.execRxWindowEnd x node s
  | .hbSlotStart slot busy => Sys2Proof.Machine.execHbSlotStart slot busy s
  | .ootHornTransmit hb us => Sys2Proof.Machine.execOotHornTransmit hb us s
  | .ootHornCcaTimeout hb => Sys2Proof.Machine.execOotHornCcaTimeout hb s
  | .ledgerSecond => Sys2Proof.Machine.execLedgerSecond s
  | .indirectFrameExpiry node => Sys2Proof.Machine.execIndirectFrameExpiry node s
  | .radioDieFail die => Sys2Proof.Machine.execRadioDieFail die s
  | .radioDieRestore die => Sys2Proof.Machine.execRadioDieRestore die s
  | .radioStatus w => Sys2Proof.Machine.execRadioStatus w s
  | .radioLedger w => Sys2Proof.Machine.execRadioLedger w s
  | .radioNeighbour w => Sys2Proof.Machine.execRadioNeighbour w s
  | .radioStats w => Sys2Proof.Machine.execRadioStats w s
  | .radioEnable w => Sys2Proof.Machine.execRadioEnable w s
  | .radioNeighbourFlush w => Sys2Proof.Machine.execRadioNeighbourFlush w s
  | .radioPowerSet w => Sys2Proof.Machine.execRadioPowerSet w s
  | .nodeJoin x eui p => Sys2Proof.Machine.execNodeJoin x eui p s
  | .nodeConfirm node epoch tide p => Sys2Proof.Machine.execNodeConfirm node epoch tide p s
  | .nodeStatus node epoch p => Sys2Proof.Machine.execNodeStatus node epoch p s
  | .nodeEnergy node epoch p => Sys2Proof.Machine.execNodeEnergy node epoch p s
  | .nodeFault node epoch p => Sys2Proof.Machine.execNodeFault node epoch p s
  | .nodeDetect node epoch p => Sys2Proof.Machine.execNodeDetect node epoch p s
  | .fwStatus node epoch tide p => Sys2Proof.Machine.execFwStatus node epoch tide p s
  | .nodeLostTimeout node => Sys2Proof.Machine.execNodeLostTimeout node s
  | .balanceEvaluation feeder => Sys2Proof.Machine.execBalanceEvaluation feeder s
  | .lantStatus w => Sys2Proof.Machine.execLantStatus w s
  | .lantNode w => Sys2Proof.Machine.execLantNode w s
  | .lantBalance w => Sys2Proof.Machine.execLantBalance w s
  | .lantLevel w => Sys2Proof.Machine.execLantLevel w s
  | .lantScene w => Sys2Proof.Machine.execLantScene w s
  | .lantCommandTimeout w seq => Sys2Proof.Machine.execLantCommandTimeout w seq s
  | .lantDetect w => Sys2Proof.Machine.execLantDetect w s
  | .lantFloorSet w => Sys2Proof.Machine.execLantFloorSet w s
  | .lantMove w => Sys2Proof.Machine.execLantMove w s
  | .lantRemove w => Sys2Proof.Machine.execLantRemove w s
  | .lantRuleEnable w => Sys2Proof.Machine.execLantRuleEnable w s
  | .lantBowwaveEnable w => Sys2Proof.Machine.execLantBowwaveEnable w s
  | .acquisitionRequest r => Sys2Proof.Machine.execAcquisitionRequest r s
  | .acquisitionResult antenna signal sat found => Sys2Proof.Machine.execAcquisitionResult antenna signal sat found s
  | .notchEngage rf offsetHz => Sys2Proof.Machine.execNotchEngage rf offsetHz s
  | .notchRelease rf notch => Sys2Proof.Machine.execNotchRelease rf notch s
  | .jamEnter rf => Sys2Proof.Machine.execJamEnter rf s
  | .jamExit rf => Sys2Proof.Machine.execJamExit rf s
  | .antennaShort antenna => Sys2Proof.Machine.execAntennaShort antenna s
  | .biasRetry antenna => Sys2Proof.Machine.execBiasRetry antenna s
  | .antennaOpen antenna => Sys2Proof.Machine.execAntennaOpen antenna s
  | .laneAlignmentLoss antenna => Sys2Proof.Machine.execLaneAlignmentLoss antenna s
  | .laneRealign antenna => Sys2Proof.Machine.execLaneRealign antenna s
  | .coastTimeout ch => Sys2Proof.Machine.execCoastTimeout ch s
  | .channelLock r => Sys2Proof.Machine.execChannelLock r s
  | .channelLockLoss r => Sys2Proof.Machine.execChannelLockLoss r s
  | .channelLost r => Sys2Proof.Machine.execChannelLost r s
  | .sidePeakCorrection r later => Sys2Proof.Machine.execSidePeakCorrection r later s
  | .measurementLatch raw => Sys2Proof.Machine.execMeasurementLatch raw s
  | .falseSignalEval band us => Sys2Proof.Machine.execFalseSignalEval band us s
  | .fsStateEdge => Sys2Proof.Machine.execFsStateEdge s
  | .jiCalComplete rf mean => Sys2Proof.Machine.execJiCalComplete rf mean s
  | .gnssStatus w => Sys2Proof.Machine.execGnssStatus w s
  | .gnssChannel w => Sys2Proof.Machine.execGnssChannel w s
  | .gnssFsStatus w => Sys2Proof.Machine.execGnssFsStatus w s
  | .gnssStats w => Sys2Proof.Machine.execGnssStats w s
  | .gnssNotchSet w => Sys2Proof.Machine.execGnssNotchSet w s
  | .gnssSignalEnable w => Sys2Proof.Machine.execGnssSignalEnable w s
  | .gnssMove w => Sys2Proof.Machine.execGnssMove w s
  | .gnssBiasSet w => Sys2Proof.Machine.execGnssBiasSet w s
  | .gnssFsSet w => Sys2Proof.Machine.execGnssFsSet w s
  | .gnssLoopSet w => Sys2Proof.Machine.execGnssLoopSet w s
  | .gnssJiCal w => Sys2Proof.Machine.execGnssJiCal w s
  | .gnssObsStream w => Sys2Proof.Machine.execGnssObsStream w s
  | .surveySample sats pos => Sys2Proof.Machine.execSurveySample sats pos s
  | .surveyTimeout => Sys2Proof.Machine.execSurveyTimeout s
  | .monitorSurveySolution fix ratio100 pos => Sys2Proof.Machine.execMonitorSurveySolution fix ratio100 pos s
  | .correctionEncode mount us => Sys2Proof.Machine.execCorrectionEncode mount us s
  | .monitorRoverSolve fix pos us => Sys2Proof.Machine.execMonitorRoverSolve fix pos us s
  | .obsDatagramRx port udp d us => Sys2Proof.Machine.execObsDatagramRx port udp d us s
  | .centralSolve => Sys2Proof.Machine.execCentralSolve s
  | .centralSolutionsComplete sols us => Sys2Proof.Machine.execCentralSolutionsComplete sols us s
  | .timeSolution sats gpsSats sdNs => Sys2Proof.Machine.execTimeSolution sats gpsSats sdNs s
  | .utcParametersDecode gps suspect dtLs dtLsf endDay => Sys2Proof.Machine.execUtcParametersDecode gps suspect dtLs dtLsf endDay s
  | .ntripRequest port conn r => Sys2Proof.Machine.execNtripRequest port conn r s
  | .refStatus w => Sys2Proof.Machine.execRefStatus w s
  | .posVehicle w => Sys2Proof.Machine.execPosVehicle w s
  | .refStats w => Sys2Proof.Machine.execRefStats w s
  | .refEnable w => Sys2Proof.Machine.execRefEnable w s
  | .refSurveyStart w => Sys2Proof.Machine.execRefSurveyStart w s
  | .refFixSet w => Sys2Proof.Machine.execRefFixSet w s
  | .refOutputSet w => Sys2Proof.Machine.execRefOutputSet w s
  | .refIntegritySet w => Sys2Proof.Machine.execRefIntegritySet w s
  | .posEnrol w => Sys2Proof.Machine.execPosEnrol w s
  | .refStream w => Sys2Proof.Machine.execRefStream w s
  | .posEnable w => Sys2Proof.Machine.execPosEnable w s
  | .reservationBatchCheck => Sys2Proof.Machine.execReservationBatchCheck s
  | .reservationDeadline complete => Sys2Proof.Machine.execReservationDeadline complete s
  | .horizonFloor v => Sys2Proof.Machine.execHorizonFloor v s
  | .vehicleHeldEntry v => Sys2Proof.Machine.execVehicleHeldEntry v s
  | .vehicleHeldExit v => Sys2Proof.Machine.execVehicleHeldExit v s
  | .answerOpportunityMissed v => Sys2Proof.Machine.execAnswerOpportunityMissed v s
  | .vehicleAckRx x slot f => Sys2Proof.Machine.execVehicleAckRx x slot f s
  | .pathSend v => Sys2Proof.Machine.execPathSend v s
  | .pathResend v => Sys2Proof.Machine.execPathResend v s
  | .pathAck d => Sys2Proof.Machine.execPathAck d s
  | .taskReport d => Sys2Proof.Machine.execTaskReport d s
  | .hornFreeze => Sys2Proof.Machine.execHornFreeze s
  | .hornTransmit ccaBusy => Sys2Proof.Machine.execHornTransmit ccaBusy s
  | .claimFrameSend => Sys2Proof.Machine.execClaimFrameSend s
  | .haltInputChange b run us => Sys2Proof.Machine.execHaltInputChange b run us s
  | .haltDiscrepancyLatch us => Sys2Proof.Machine.execHaltDiscrepancyLatch us s
  | .haltInputAutoClear us => Sys2Proof.Machine.execHaltInputAutoClear us s
  | .relayEnergise => Sys2Proof.Machine.execRelayEnergise s
  | .relayReadbackFault output read => Sys2Proof.Machine.execRelayReadbackFault output read s
  | .fleetStatus w => Sys2Proof.Machine.execFleetStatus w s
  | .fleetVehicle w => Sys2Proof.Machine.execFleetVehicle w s
  | .fleetTask w => Sys2Proof.Machine.execFleetTask w s
  | .fleetPath w => Sys2Proof.Machine.execFleetPath w s
  | .fleetStats w => Sys2Proof.Machine.execFleetStats w s
  | .fleetEnable w => Sys2Proof.Machine.execFleetEnable w s
  | .fleetHalt w us => Sys2Proof.Machine.execFleetHalt w us s
  | .fleetRelease w us => Sys2Proof.Machine.execFleetRelease w us s
  | .fleetTaskAdd w => Sys2Proof.Machine.execFleetTaskAdd w s
  | .fleetTaskCancel w => Sys2Proof.Machine.execFleetTaskCancel w s
  | .fleetTaskMove w => Sys2Proof.Machine.execFleetTaskMove w s
  | .fleetHold w => Sys2Proof.Machine.execFleetHold w s
  | .frameIngress port f stamp => Sys2Proof.Machine.execFrameIngress port f stamp s
  | .frameEgress port ns err => Sys2Proof.Machine.execFrameEgress port ns err s
  | .linkDown port cut => Sys2Proof.Machine.execLinkDown port cut s
  | .linkDropEdge port => Sys2Proof.Machine.execLinkDropEdge port s
  | .linkUp port speed full => Sys2Proof.Machine.execLinkUp port speed full s
  | .ringSignalFail port => Sys2Proof.Machine.execRingSignalFail port s
  | .rapsRx port m => Sys2Proof.Machine.execRapsRx port m s
  | .ringWtrExpiry => Sys2Proof.Machine.execRingWtrExpiry s
  | .collision port bytes => Sys2Proof.Machine.execCollision port bytes s
  | .backoffExpiry port => Sys2Proof.Machine.execBackoffExpiry port s
  | .plcaFallback port foreignBeacon => Sys2Proof.Machine.execPlcaFallback port foreignBeacon s
  | .plcaRestore port => Sys2Proof.Machine.execPlcaRestore port s
  | .fdbAgeing vid mac => Sys2Proof.Machine.execFdbAgeing vid mac s
  | .gateChange port ns => Sys2Proof.Machine.execGateChange port ns s
  | .gateListApply port => Sys2Proof.Machine.execGateListApply port s
  | .fpPortStatus w => Sys2Proof.Machine.execFpPortStatus w s
  | .fpStats w => Sys2Proof.Machine.execFpStats w s
  | .fpCounters w => Sys2Proof.Machine.execFpCounters w s
  | .fpGateList w => Sys2Proof.Machine.execFpGateList w s
  | .fpPortEnable w => Sys2Proof.Machine.execFpPortEnable w s
  | .fpGateSet w => Sys2Proof.Machine.execFpGateSet w s
  | .fpGateEnable w => Sys2Proof.Machine.execFpGateEnable w s
  | .fpPlcaSet w => Sys2Proof.Machine.execFpPlcaSet w s
  | .fpRuleSet w => Sys2Proof.Machine.execFpRuleSet w s
  | .eccScrub e => Sys2Proof.Machine.execEccScrub e s
  | .qwDataRead o w => Sys2Proof.Machine.execQwDataRead o w s
  | .qwTaggedRead o w => Sys2Proof.Machine.execQwTaggedRead o w s
  | .qwPopSkip o w v => Sys2Proof.Machine.execQwPopSkip o w v s
  | .qwTxData o w v => Sys2Proof.Machine.execQwTxData o w v s
  | .qwTxEnd o w v => Sys2Proof.Machine.execQwTxEnd o w v s
  | .ltCtrlWrite o n v => Sys2Proof.Machine.execLtCtrlWrite o n v s
  | .ltTailWrite o n v => Sys2Proof.Machine.execLtTailWrite o n v s
  | .ltRingConfigWrite o n off v => Sys2Proof.Machine.execLtRingConfigWrite o n off v s
  | .lighterBurst n m => Sys2Proof.Machine.execLighterBurst n m s
  | .ringWaitExpiry n => Sys2Proof.Machine.execRingWaitExpiry n s
  | .hostMemoryTimeout n => Sys2Proof.Machine.execHostMemoryTimeout n s
  | .poolStatus w => Sys2Proof.Machine.execPoolStatus w s
  | .queueStatus w => Sys2Proof.Machine.execQueueStatus w s
  | .poolStats w => Sys2Proof.Machine.execPoolStats w s
  | .lighterStatus w => Sys2Proof.Machine.execLighterStatus w s
  | .qwBind w => Sys2Proof.Machine.execQwBind w s
  | .ltBind w => Sys2Proof.Machine.execLtBind w s
  | .qbusFrameRx c f => Sys2Proof.Machine.execQbusFrameRx c f s
  | .qbusTxAttempt c loop r => Sys2Proof.Machine.execQbusTxAttempt c loop r s
  | .busIntegration c => Sys2Proof.Machine.execBusIntegration c s
  | .busOffRecovery c => Sys2Proof.Machine.execBusOffRecovery c s
  | .qbusStatus w => Sys2Proof.Machine.execQbusStatus w s
  | .qbusStats w => Sys2Proof.Machine.execQbusStats w s
  | .qbusSend w => Sys2Proof.Machine.execQbusSend w s
  | .qbusEnable w => Sys2Proof.Machine.execQbusEnable w s
  | .qbusFilterSet w => Sys2Proof.Machine.execQbusFilterSet w s
  | .qbusFlush w => Sys2Proof.Machine.execQbusFlush w s
  | .mf9SampleFrame count crcOk samples => Sys2Proof.Machine.execMf9SampleFrame count crcOk samples s
  | .mf9FrameTimeout => Sys2Proof.Machine.execMf9FrameTimeout s
  | .linkGapStart => Sys2Proof.Machine.execLinkGapStart s
  | .linkGapEnd => Sys2Proof.Machine.execLinkGapEnd s
  | .noCrossingEntry c => Sys2Proof.Machine.execNoCrossingEntry c s
  | .noCrossingWindow c => Sys2Proof.Machine.execNoCrossingWindow c s
  | .pulseEmit output => Sys2Proof.Machine.execPulseEmit output s
  | .pulseBacklogEmit output => Sys2Proof.Machine.execPulseBacklogEmit output s
  | .meteringSave => Sys2Proof.Machine.execMeteringSave s
  | .meteringSaveComplete => Sys2Proof.Machine.execMeteringSaveComplete s
  | .powerFailSaveRepeat => Sys2Proof.Machine.execPowerFailSaveRepeat s
  | .mainDomainLoss cycles => Sys2Proof.Machine.execMainDomainLoss cycles s
  | .batteryBurst supply rms => Sys2Proof.Machine.execBatteryBurst supply rms s
  | .mtrStatus w => Sys2Proof.Machine.execMtrStatus w s
  | .mtrPoint w => Sys2Proof.Machine.execMtrPoint w s
  | .mtrInterval w => Sys2Proof.Machine.execMtrInterval w s
  | .mtrBatteryLog w => Sys2Proof.Machine.execMtrBatteryLog w s
  | .mtrPointEnable w => Sys2Proof.Machine.execMtrPointEnable w s
  | .mtrPulseSet w => Sys2Proof.Machine.execMtrPulseSet w s
  | .mtrSave w => Sys2Proof.Machine.execMtrSave w s
  | .mtrBatteryLogClear w => Sys2Proof.Machine.execMtrBatteryLogClear w s
  | .lampSlotFrame port => Sys2Proof.Machine.execLampSlotFrame port s
  | .lampStatusFrame port frame => Sys2Proof.Machine.execLampStatusFrame port frame s
  | .lampStatusCollect port => Sys2Proof.Machine.execLampStatusCollect port s
  | .lampFaultEval port => Sys2Proof.Machine.execLampFaultEval port s
  | .signFrameStart port => Sys2Proof.Machine.execSignFrameStart port s
  | .signSyncEdge us => Sys2Proof.Machine.execSignSyncEdge us s
  | .signSyncTimeout port => Sys2Proof.Machine.execSignSyncTimeout port s
  | .signSwapEdge port => Sys2Proof.Machine.execSignSwapEdge port s
  | .lampStatus w => Sys2Proof.Machine.execLampStatus w s
  | .signStatus w => Sys2Proof.Machine.execSignStatus w s
  | .lampSignStats w => Sys2Proof.Machine.execLampSignStats w s
  | .lampLevel w => Sys2Proof.Machine.execLampLevel w s
  | .lampFaultClear w => Sys2Proof.Machine.execLampFaultClear w s
  | .lampEnable w => Sys2Proof.Machine.execLampEnable w s
  | .signWrite w => Sys2Proof.Machine.execSignWrite w s
  | .signSwap w us => Sys2Proof.Machine.execSignSwap w us s
  | .signStream w => Sys2Proof.Machine.execSignStream w s
  | .signEnable w => Sys2Proof.Machine.execSignEnable w s
  | .signBrightness w => Sys2Proof.Machine.execSignBrightness w s
  | .feedSample feed mv ma => Sys2Proof.Machine.execFeedSample feed mv ma s
  | .feedReclose feed => Sys2Proof.Machine.execFeedReclose feed s
  | .powerFailSignal => Sys2Proof.Machine.execPowerFailSignal s
  | .powerFailClear => Sys2Proof.Machine.execPowerFailClear s
  | .claimLineSample level => Sys2Proof.Machine.execClaimLineSample level s
  | .twinClaimFrameRx frame => Sys2Proof.Machine.execTwinClaimFrameRx frame s
  | .demotionEdge => Sys2Proof.Machine.execDemotionEdge s
  | .twinLinkTimeout => Sys2Proof.Machine.execTwinLinkTimeout s
  | .checkpointStart => Sys2Proof.Machine.execCheckpointStart s
  | .checkpointBlockRx b => Sys2Proof.Machine.execCheckpointBlockRx b s
  | .healthReportSend => Sys2Proof.Machine.execHealthReportSend s
  | .healthReportRx frame => Sys2Proof.Machine.execHealthReportRx frame s
  | .healthReportTimeout => Sys2Proof.Machine.execHealthReportTimeout s
  | .rehearsalStart => Sys2Proof.Machine.execRehearsalStart s
  | .rehearsalComplete ok ms => Sys2Proof.Machine.execRehearsalComplete ok ms s
  | .takeover => Sys2Proof.Machine.execTakeover s
  | .switchoverCheck => Sys2Proof.Machine.execSwitchoverCheck s
  | .switchoverEdge => Sys2Proof.Machine.execSwitchoverEdge s
  | .termSetEdge => Sys2Proof.Machine.execTermSetEdge s
  | .termHaltExpiry => Sys2Proof.Machine.execTermHaltExpiry s
  | .roleStart => Sys2Proof.Machine.execRoleStart s
  | .prStatus w => Sys2Proof.Machine.execPrStatus w s
  | .prHealth w => Sys2Proof.Machine.execPrHealth w s
  | .prCheckpoints w => Sys2Proof.Machine.execPrCheckpoints w s
  | .prSwitchover w => Sys2Proof.Machine.execPrSwitchover w s
  | .prTermSet w => Sys2Proof.Machine.execPrTermSet w s
  | .prRehearse w => Sys2Proof.Machine.execPrRehearse w s
  | .prThermalStatus w => Sys2Proof.Machine.execPrThermalStatus w s
  | .thermalEvaluation mean => Sys2Proof.Machine.execThermalEvaluation mean s
  | .updStatus w => Sys2Proof.Machine.execUpdStatus w s
  | .updManifest w => Sys2Proof.Machine.execUpdManifest w s
  | .updImages w => Sys2Proof.Machine.execUpdImages w s
  | .updCampaignStatus w => Sys2Proof.Machine.execUpdCampaignStatus w s
  | .updCampaignNode w => Sys2Proof.Machine.execUpdCampaignNode w s
  | .updLoadBegin w => Sys2Proof.Machine.execUpdLoadBegin w s
  | .updLoadData w => Sys2Proof.Machine.execUpdLoadData w s
  | .updLoadEnd w => Sys2Proof.Machine.execUpdLoadEnd w s
  | .packageVerifyComplete => Sys2Proof.Machine.execPackageVerifyComplete s
  | .installComplete readBackOk => Sys2Proof.Machine.execInstallComplete readBackOk s
  | .updCancel w => Sys2Proof.Machine.execUpdCancel w s
  | .updActivate w => Sys2Proof.Machine.execUpdActivate w s
  | .activationEdge => Sys2Proof.Machine.execActivationEdge s
  | .confirmation => Sys2Proof.Machine.execConfirmation s
  | .trialWindowExpiry => Sys2Proof.Machine.execTrialWindowExpiry s
  | .updConfirm w => Sys2Proof.Machine.execUpdConfirm w s
  | .updRollback w => Sys2Proof.Machine.execUpdRollback w s
  | .updInstall w => Sys2Proof.Machine.execUpdInstall w s
  | .updCampaignStart w => Sys2Proof.Machine.execUpdCampaignStart w s
  | .updCampaignStop w => Sys2Proof.Machine.execUpdCampaignStop w s
  | .updImageDelete w => Sys2Proof.Machine.execUpdImageDelete w s
  | .fwActivateResend node => Sys2Proof.Machine.execFwActivateResend node s
  | .logStagingFlush => Sys2Proof.Machine.execLogStagingFlush s
  | .logHalfClose => Sys2Proof.Machine.execLogHalfClose s
  | .logSegmentCopy => Sys2Proof.Machine.execLogSegmentCopy s
  | .logSuppressedWrite => Sys2Proof.Machine.execLogSuppressedWrite s
  | .logExportWrite w => Sys2Proof.Machine.execLogExportWrite w s
  | .logStatus w => Sys2Proof.Machine.execLogStatus w s
  | .logRead w => Sys2Proof.Machine.execLogRead w s
  | .logExport w => Sys2Proof.Machine.execLogExport w s
  | .logExportStop w => Sys2Proof.Machine.execLogExportStop w s
  | .logNote w => Sys2Proof.Machine.execLogNote w s
  | .logLimitSet w => Sys2Proof.Machine.execLogLimitSet w s
  | .coldStart => Sys2Proof.Machine.execColdStart s
  | .externalReset lowNs recovLow => Sys2Proof.Machine.execExternalReset lowNs recovLow s
  | .startTimeout => Sys2Proof.Machine.execStartTimeout s
  | .romStart recovLow => Sys2Proof.Machine.execRomStart recovLow s
  | .harbourmasterRun cycles => Sys2Proof.Machine.execHarbourmasterRun cycles s
  | .configChecked plate => Sys2Proof.Machine.execConfigChecked plate s
  | .diesLoaded => Sys2Proof.Machine.execDiesLoaded s
  | .servicesStarted => Sys2Proof.Machine.execServicesStarted s
  | .recInfo c => Sys2Proof.Machine.execRecInfo c s
  | .recBegin c total => Sys2Proof.Machine.execRecBegin c total s
  | .recData c offset data => Sys2Proof.Machine.execRecData c offset data s
  | .recEnd c => Sys2Proof.Machine.execRecEnd c s
  | .recoveryInstallComplete readBackOk => Sys2Proof.Machine.execRecoveryInstallComplete readBackOk s
  | .recRestart c => Sys2Proof.Machine.execRecRestart c s
  | .recoveryOwnerTimeout => Sys2Proof.Machine.execRecoveryOwnerTimeout s
  | .gpioInputEdge pin level ns => Sys2Proof.Machine.execGpioInputEdge pin level ns s
  | .sysGpio w => Sys2Proof.Machine.execSysGpio w s
  | .sysGpioSet w => Sys2Proof.Machine.execSysGpioSet w s
  | .extPpsLoss => Sys2Proof.Machine.execExtPpsLoss s
  | .ptpAnnounceSend port => Sys2Proof.Machine.execPtpAnnounceSend port s
  | .ptpDelayRespRx port seq m corr => Sys2Proof.Machine.execPtpDelayRespRx port seq m corr s
  | .guardTimerExpiry => Sys2Proof.Machine.execGuardTimerExpiry s
  | .twinLinkSyncLoss => Sys2Proof.Machine.execTwinLinkSyncLoss s
  | .swapCopyComplete port => Sys2Proof.Machine.execSwapCopyComplete port s
  | .bitSync r => Sys2Proof.Machine.execBitSync r s
  | .secondaryCodeAlignment r => Sys2Proof.Machine.execSecondaryCodeAlignment r s
  | .framePreamble r => Sys2Proof.Machine.execFramePreamble r s
  | .recoveryVerifyComplete => Sys2Proof.Machine.execRecoveryVerifyComplete s
  | .arpRequest target => Sys2Proof.Machine.execArpRequest target s

end Sys2Proof.Machine
end

