-- ==== Sys2Proof/Safety.lean ====
section
/-! DEFINITION. Sys2Proof/Safety.lean: the terms in which claims about the machine are made: which parts of the State a
command may write, a command that waits in a session window, the answer a window holds, and the invariants that every
step keeps. -/

namespace Sys2Proof.Machine

/-! ## Frames -/

/-- Two states agree in a part. -/
def Part.same : Part → State → State → Prop
  | .clk, s, t => t.clk = s.clk
  | .sys, s, t => t.sys = s.sys
  | .boot, s, t => t.boot = s.boot
  | .cluster, s, t => t.cluster = s.cluster
  | .host, s, t => t.host = s.host
  | .cfg, s, t => t.cfg = s.cfg
  | .par, s, t => t.par = s.par
  | .stats, s, t => t.stats = s.stats
  | .time, s, t => t.time = s.time
  | .rtc, s, t => t.rtc = s.rtc
  | .radio, s, t => t.radio = s.radio
  | .lantern, s, t => t.lantern = s.lantern
  | .pool, s, t => t.pool = s.pool
  | .ports, s, t => t.ports = s.ports
  | .gnss, s, t => t.gnss = s.gnss
  | .ref, s, t => t.ref = s.ref
  | .fleet, s, t => t.fleet = s.fleet
  | .pr, s, t => t.pr = s.pr
  | .upd, s, t => t.upd = s.upd
  | .quay, s, t => t.quay = s.quay
  | .meter, s, t => t.meter = s.meter
  | .lampSign, s, t => t.lampSign = s.lampSign
  | .gpio, s, t => t.gpio = s.gpio
  | .changes, s, t => t.changes = s.changes
  | .switches, s, t => t.switches = s.switches
  | .log, s, t => t.log = s.log
  | .out, s, t => t.out = s.out
  | .free, s, t => t.free = s.free

/-- From s to t at most the named parts changed; the queue did not. -/
def Only (ws : List Part) (s t : State) : Prop := t.pending = s.pending ∧ ∀ p : Part, p ∉ ws → p.same s t

/-- Every part of the State. -/
def everyPart : List Part :=
  [.clk, .sys, .boot, .cluster, .host, .cfg, .par, .stats, .time, .rtc, .radio, .lantern, .pool, .ports, .gnss, .ref,
   .fleet, .pr, .upd, .quay, .meter, .lampSign, .gpio, .changes, .switches, .log, .out, .free]

/-- The parts of the State that a command may write: the registers and stores its rules name, and what those rules make
the module send, count or record. -/
def writes : Instr → List Part
  | .tideEdge _ | .clusterRestoreComplete | .lockstepMismatch | .timeCorrectionApply | .resetEdge | .cfgApplyEdge
  | .mainDomainLoss _ | .powerFailClear | .updCancel _ | .activationEdge | .trialWindowExpiry | .coldStart
  | .externalReset _ _ | .startTimeout | .harbourmasterRun _ | .configChecked _ | .recRestart _ => everyPart
  | .tideMessageSend _ => [.clk, .out]
  | .frameLoad => [.host, .stats, .radio, .lantern, .pool, .upd, .log, .out]
  | .clusterTideWorkStart => [.host, .stats, .radio, .lantern, .pool, .ports, .gnss, .fleet, .out]
  | .clusterResult _ _ _ _ => [.clk, .host, .stats, .radio, .lantern, .pool, .fleet, .pr, .lampSign, .out, .free]
  | .clusterHeartbeat => [.sys, .cluster, .host, .stats, .gnss, .upd, .out]
  | .clusterFault => [.cluster]
  | .clusterDownDeclare => [.clk, .sys, .cluster, .host, .stats, .time, .lantern, .gnss, .ref, .fleet, .upd, .log, .out]
  | .deadlineJudge _ => [.clk, .host, .stats, .pool, .ports, .ref, .fleet, .pr, .out]
  | .statsLatch _ => [.stats, .lantern, .meter]
  | .functionStopEdge _ | .functionStartEdge _ => [.clk, .host, .stats, .time, .radio, .lantern, .pool, .ports, .gnss, .ref, .fleet, .quay, .meter, .lampSign, .switches, .log, .out, .free]
  | .placementMoveEdge _ => [.host, .stats, .radio, .lantern, .pool, .ports, .gnss, .fleet, .log, .out, .free]
  | .rfGroupFreeze _ _ _ | .rcRegisterRead _ _ => [.host, .stats, .time, .rtc, .pool, .out]
  | .rfFreezeExpire _ _ => [.time, .rtc]
  | .improperAccess _ _ _ | .recInfo _ | .arpRequest _ => [.out]
  | .registerWrite _ _ _ _ => [.host, .stats, .rtc, .pool, .ports, .log, .out]
  | .spiTransaction _ _ _ _ _ | .usbRequest _ _ _ => [.host, .stats, .time, .rtc, .pool, .ports, .log, .out]
  | .sessOpen _ _ | .sessCloseWrite _ _ | .doorbellWrite _ _ _ | .rspReadyClear _ _ | .evtRelease _ _
  | .keepaliveExpiry _ | .pcieLinkLoss | .usbDetach | .tlsConnectionLoss _ _ | .tlsConnectionAccept _ _ _ _ _
  | .tlsRecord _ _ | .hello _ | .sessionInfo _ | .keepalive _ | .subscribe _ | .unsubscribe _ | .sessClose _
  | .sysInfo _ | .sysState _ | .cfgStatus _ | .timeStatus _ _ | .timePortStatus _ | .rtcStatus _ _
  | .radioStatus _ | .radioLedger _ | .radioNeighbour _ | .radioStats _ | .lantStatus _ | .lantNode _
  | .lantBalance _ | .gnssStatus _ | .gnssChannel _ | .gnssFsStatus _ | .gnssStats _ | .refStatus _
  | .posVehicle _ | .refStats _ | .fleetStatus _ | .fleetVehicle _ | .fleetTask _ | .fleetPath _ | .fleetStats _
  | .fpPortStatus _ | .fpStats _ | .fpCounters _ | .fpGateList _ | .poolStatus _ | .queueStatus _ | .poolStats _
  | .lighterStatus _ | .qbusStatus _ | .qbusStats _ | .mtrStatus _ | .mtrPoint _ | .mtrInterval _
  | .mtrBatteryLog _ | .lampStatus _ | .signStatus _ | .lampSignStats _ | .prStatus _ | .prHealth _
  | .prCheckpoints _ | .prThermalStatus _ | .updStatus _ | .updManifest _ | .updImages _ | .updCampaignStatus _
  | .updCampaignNode _ | .logStatus _ | .logRead _ | .sysGpio _ => [.host, .out]
  | .sessionReleaseEdge _ => [.host, .cfg, .stats, .time, .pool, .ports, .gnss, .ref, .upd, .quay, .lampSign, .log, .out]
  | .sysReset _ => [.sys, .host, .upd, .log, .out]
  | .cfgLoadBegin _ | .cfgLoadData _ | .cfgLoadEnd _ | .cfgApply _ => [.host, .cfg, .out]
  | .cfgCheckComplete | .cfgCancel _ | .cfgRevert _ | .cfgControlRecordWrite => [.host, .cfg, .log, .out]
  | .ptpSyncRx _ _ => [.clk, .host, .stats, .time, .pool, .ports, .log, .out, .free]
  | .ptpAnnounceRx _ _ | .announceReceiptTimeout _ | .ringSyncTimeout | .sourceHoldoffExpiry _ | .timeJumpReject _
  | .extPpsLoss => [.clk, .host, .time, .log, .out]
  | .ptpDelayReqRx _ _ _ | .linkDown _ _ | .linkDropEdge _ | .linkUp _ _ _ | .ringSignalFail _ | .rapsRx _ _
  | .ringWtrExpiry | .qwTxEnd _ _ _ => [.host, .stats, .pool, .ports, .out]
  | .ptpPdelayRx _ _ | .ptpSyncSend _ | .txTimestampDrain | .ptpAnnounceSend _ => [.host, .stats, .time, .pool, .ports, .out]
  | .extPpsEdge _ _ => [.clk, .host, .time, .log, .out, .free]
  | .ext10mAccept _ | .ext10mLoss | .ptpDelayRespRx _ _ _ _ => [.time]
  | .timeStateEdge => [.clk, .host, .time, .rtc, .log, .out]
  | .txTimestampCapture _ _ _ _ => [.time, .log]
  | .ppsOutEdge => [.time, .out]
  | .timeJumpAccept _ => [.clk, .host, .time, .out]
  | .timePortSet _ | .timeSourceSet _ | .timeThresholdSet _ | .timeOutputSet _ | .radioPowerSet _
  | .lantRuleEnable _ | .gnssNotchSet _ | .gnssBiasSet _ | .gnssFsSet _ | .gnssLoopSet _ | .refSurveyStart _
  | .refFixSet _ | .refOutputSet _ | .refIntegritySet _ | .posEnrol _ | .fpPlcaSet _ | .fpRuleSet _
  | .qbusFilterSet _ | .mtrPulseSet _ | .lampLevel _ | .lampFaultClear _ | .signBrightness _ | .logLimitSet _
  | .sysGpioSet _ => [.host, .changes, .out]
  | .changeApplyEdge => [.clk, .host, .par, .time, .radio, .lantern, .ports, .gnss, .ref, .quay, .meter, .lampSign, .gpio, .changes, .log, .out, .free]
  | .batteryDomainPowerUp => [.rtc, .meter]
  | .rtcSecondRollover _ | .commitSec _ | .commitCal _ | .rtcSet _ => [.host, .rtc, .log, .out]
  | .rtcDisciplineLoad _ => [.rtc]
  | .rtcUtcSet _ => [.host, .rtc, .out]
  | .subghzCellTx _ _ | .hbSlotStart _ _ => [.host, .stats, .radio, .lantern, .pool, .out]
  | .radioFrameRx _ _ => [.host, .stats, .radio, .lantern, .pool, .pr, .out, .free]
  | .enhAckRx _ _ _ => [.host, .radio, .lantern, .upd, .log, .out, .free]
  | .ackTimeout _ _ => [.host, .stats, .radio, .lantern, .upd, .log, .out]
  | .rxWindowEnd _ _ => [.host, .radio, .lantern, .out]
  | .ootHornTransmit _ _ | .hornTransmit _ => [.host, .stats, .radio, .pool, .fleet, .out]
  | .ootHornCcaTimeout _ | .reservationBatchCheck | .pathAck _ => [.stats, .fleet]
  | .ledgerSecond | .radioDieFail _ | .radioDieRestore _ | .radioNeighbourFlush _ => [.host, .radio, .out]
  | .indirectFrameExpiry _ => [.radio]
  | .radioEnable _ | .lantBowwaveEnable _ | .gnssSignalEnable _ | .refEnable _ | .posEnable _ | .fleetEnable _
  | .fpPortEnable _ | .fpGateEnable _ | .qbusEnable _ | .mtrPointEnable _ | .lampEnable _ | .signEnable _ => [.host, .switches, .out]
  | .nodeJoin _ _ _ => [.host, .radio, .lantern, .upd, .out, .free]
  | .nodeConfirm _ _ _ _ | .lantLevel _ | .lantScene _ | .lantCommandTimeout _ _ | .lantFloorSet _ => [.host, .lantern, .log, .out]
  | .nodeStatus _ _ _ | .fwStatus _ _ _ _ | .nodeLostTimeout _ | .updCampaignStop _ | .fwActivateResend _ => [.host, .lantern, .upd, .out]
  | .nodeEnergy _ _ _ | .nodeFault _ _ _ | .nodeDetect _ _ _ | .balanceEvaluation _ | .lantDetect _ => [.host, .lantern, .out]
  | .lantMove _ | .lantRemove _ => [.host, .lantern, .out, .free]
  | .acquisitionRequest _ | .acquisitionResult _ _ _ _ | .coastTimeout _ | .channelLock _ | .channelLockLoss _
  | .channelLost _ | .sidePeakCorrection _ _ | .falseSignalEval _ _ | .bitSync _ | .secondaryCodeAlignment _
  | .framePreamble _ => [.stats, .gnss]
  | .notchEngage _ _ | .laneAlignmentLoss _ | .laneRealign _ => [.host, .stats, .gnss, .out]
  | .notchRelease _ _ | .jamEnter _ | .jamExit _ | .antennaShort _ | .biasRetry _ | .antennaOpen _
  | .gnssObsStream _ => [.host, .gnss, .out]
  | .measurementLatch _ => [.host, .stats, .pool, .gnss, .log, .out]
  | .fsStateEdge => [.clk, .host, .time, .gnss, .ref, .log, .out]
  | .jiCalComplete _ _ | .gnssMove _ | .gnssJiCal _ => [.host, .gnss, .log, .out]
  | .surveySample _ _ | .surveyTimeout | .monitorSurveySolution _ _ _ | .refStream _ => [.host, .ref, .out]
  | .correctionEncode _ _ => [.clk, .host, .stats, .pool, .ref, .out]
  | .monitorRoverSolve _ _ _ => [.host, .stats, .ref, .out]
  | .obsDatagramRx _ _ _ _ => [.stats, .ref]
  | .centralSolve => [.clk, .ref]
  | .centralSolutionsComplete _ _ => [.clk, .host, .stats, .pool, .ports, .ref, .fleet, .out]
  | .timeSolution _ _ _ => [.clk, .host, .time, .ref, .log, .out, .free]
  | .utcParametersDecode _ _ _ _ _ => [.rtc, .ref]
  | .ntripRequest _ _ _ => [.stats, .ref, .out]
  | .reservationDeadline _ => [.clk, .host, .stats, .radio, .lantern, .fleet, .out]
  | .horizonFloor _ | .vehicleHeldEntry _ | .answerOpportunityMissed _ => [.host, .stats, .fleet, .out]
  | .vehicleHeldExit _ | .haltInputChange _ _ _ | .haltDiscrepancyLatch _ | .haltInputAutoClear _ | .fleetHalt _ _
  | .fleetRelease _ _ | .fleetTaskAdd _ | .fleetHold _ => [.host, .fleet, .out]
  | .vehicleAckRx _ _ _ => [.host, .stats, .radio, .pool, .fleet, .log, .out]
  | .pathSend _ | .pathResend _ => [.host, .stats, .pool, .ports, .fleet, .out]
  | .taskReport _ => [.host, .stats, .fleet, .log, .out]
  | .hornFreeze => [.clk, .host, .stats, .pool, .fleet, .out]
  | .claimFrameSend => [.host, .stats, .pool, .quay, .out]
  | .relayEnergise => [.fleet, .out]
  | .relayReadbackFault _ _ | .logStagingFlush | .logSegmentCopy | .logExport _ | .logExportStop _ | .logNote _ => [.host, .log, .out]
  | .fleetTaskCancel _ => [.host, .stats, .pool, .ports, .fleet, .log, .out]
  | .fleetTaskMove _ => [.host, .fleet, .log, .out]
  | .frameIngress _ _ _ => [.host, .stats, .time, .pool, .ports, .log, .out]
  | .frameEgress _ _ _ => [.host, .stats, .time, .pool, .ports, .ref, .log, .out]
  | .collision _ _ => [.host, .stats, .pool, .ports, .out, .free]
  | .backoffExpiry _ | .fdbAgeing _ _ | .gateChange _ _ | .guardTimerExpiry => [.ports]
  | .plcaFallback _ _ => [.host, .stats, .ports, .out]
  | .plcaRestore _ => [.host, .ports, .out]
  | .gateListApply _ | .fpGateSet _ => [.host, .ports, .log, .out]
  | .eccScrub _ | .logExportWrite _ => [.host, .stats, .pool, .log, .out]
  | .qwDataRead _ _ | .qwTaggedRead _ _ | .qwTxData _ _ _ | .ltCtrlWrite _ _ _ | .ringWaitExpiry _
  | .hostMemoryTimeout _ | .lampStatusCollect _ => [.host, .stats, .pool, .out]
  | .qwPopSkip _ _ _ => [.host, .pool, .out]
  | .ltTailWrite _ _ _ | .ltRingConfigWrite _ _ _ _ => [.pool]
  | .lighterBurst _ _ => [.host, .stats, .pool, .ports, .quay, .lampSign, .out]
  | .qwBind _ | .ltBind _ => [.host, .pool, .switches, .out]
  | .qbusFrameRx _ _ => [.host, .stats, .pr, .quay, .out, .free]
  | .qbusTxAttempt _ _ _ | .qbusFlush _ => [.host, .stats, .quay, .out]
  | .busIntegration _ | .busOffRecovery _ | .qbusSend _ => [.host, .quay, .out]
  | .mf9SampleFrame _ _ _ | .mf9FrameTimeout | .linkGapStart | .linkGapEnd | .noCrossingEntry _ | .pulseEmit _
  | .pulseBacklogEmit _ | .mtrSave _ | .mtrBatteryLogClear _ => [.host, .meter, .out]
  | .noCrossingWindow _ | .batteryBurst _ _ => [.meter]
  | .meteringSave | .meteringSaveComplete | .powerFailSaveRepeat => [.host, .meter, .log, .out]
  | .lampSlotFrame _ => [.stats, .lampSign, .out]
  | .lampStatusFrame _ _ => [.stats, .lampSign]
  | .lampFaultEval _ | .signWrite _ | .signSwap _ _ | .swapCopyComplete _ => [.host, .stats, .pool, .lampSign, .out]
  | .signFrameStart _ | .signSwapEdge _ => [.host, .stats, .pool, .lampSign, .log, .out]
  | .signSyncEdge _ => [.host, .stats, .lampSign, .out]
  | .signSyncTimeout _ | .signStream _ => [.host, .lampSign, .out]
  | .feedSample _ _ _ | .feedReclose _ | .rehearsalComplete _ _ | .switchoverCheck => [.host, .pr, .log, .out]
  | .powerFailSignal => [.sys, .cluster, .host, .par, .gnss, .fleet, .pr, .meter, .log, .out, .free]
  | .claimLineSample _ | .rehearsalStart | .termSetEdge | .termHaltExpiry => [.pr]
  | .twinClaimFrameRx _ | .checkpointBlockRx _ | .healthReportSend | .healthReportRx _ => [.host, .stats, .pool, .pr, .out]
  | .demotionEdge | .switchoverEdge => [.clk, .sys, .cluster, .host, .stats, .time, .radio, .lantern, .ports, .gnss, .ref, .fleet, .pr, .upd, .quay, .gpio, .log, .out]
  | .twinLinkTimeout | .healthReportTimeout | .prSwitchover _ | .prTermSet _ | .prRehearse _ | .twinLinkSyncLoss => [.host, .pr, .out]
  | .checkpointStart => [.clk, .pr]
  | .takeover => [.clk, .sys, .cluster, .host, .stats, .radio, .lantern, .ports, .fleet, .pr, .upd, .gpio, .log, .out]
  | .roleStart => [.sys, .host, .ports, .pr, .gpio, .out]
  | .thermalEvaluation _ => [.cluster, .host, .gnss, .pr, .log, .out]
  | .updLoadBegin _ | .updLoadData _ | .updLoadEnd _ | .updActivate _ | .updConfirm _ | .updRollback _
  | .updCampaignStart _ | .updImageDelete _ => [.host, .upd, .out]
  | .packageVerifyComplete | .installComplete _ | .confirmation => [.boot, .host, .upd, .log, .out]
  | .updInstall _ => [.boot, .host, .upd, .out]
  | .logHalfClose | .logSuppressedWrite => [.log]
  | .romStart _ => [.sys, .boot, .host, .cfg, .upd, .meter, .out]
  | .diesLoaded => [.sys, .host, .radio, .out]
  | .servicesStarted => [.clk, .sys, .boot, .host, .stats, .time, .radio, .pool, .ports, .ref, .fleet, .quay, .log, .out]
  | .recBegin _ _ | .recData _ _ _ | .recEnd _ => [.sys, .out]
  | .recoveryInstallComplete _ | .recoveryVerifyComplete => [.sys, .boot, .upd]
  | .recoveryOwnerTimeout => [.sys]
  | .gpioInputEdge _ _ _ => [.gpio]

/-- The commands whose effect may move the tide number: the edge, an accepted correction, and the harbourmaster's start
from the RTC (R44, R66, R614). -/
def movesTide : Instr → Bool
  | .tideEdge _ | .timeCorrectionApply | .harbourmasterRun _ => true
  | _ => false

/-! ## Commands and answers -/

/-- Command c waits in window w of an open session of a register origin or of TLS, it is the next to be taken, and its service
serves it (R84, R86, R102, R618). -/
def Waits (s : State) (w : Nat) (c : Cmd) : Prop :=
  (win s w).inflight = some c ∧ (win s w).st ≠ 4 ∧ (win s w).caller = none ∧
  s.host.turns.head? = some { w, sid := (win s w).sid } ∧ served (c.code / 256) s = true

/-- Command c of window w is the next to be taken: it stands in the window, or runs on after its session's window was
released (R93, R102). -/
def HasTurn (s : State) (w : Nat) (c : Cmd) : Prop :=
  ∃ x, s.host.turns.head? = some x ∧ x.w = w ∧
    match x.left with
    | some y => y.1 = c
    | none => (win s w).inflight = some c

/-- The bytes of a response message (R96). -/
def answerBytes (c : Cmd) (status : Nat) (payload : List Byte) : List Byte :=
  le 2 c.code ++ le 2 c.seq ++ le 2 status ++ le 2 payload.length ++ payload

/-- Window w holds the response to c: in the response buffer with RSP_READY and its sequence number and length, or a record
on the way to its frame port; the command is no longer in flight (R86, R96, R99, R111). -/
def Answered (s t : State) (w : Nat) (c : Cmd) (status : Nat) (payload : List Byte) : Prop :=
  (win t w).inflight = none ∧
    if (win s w).origin = 4 then
      { port := (win s w).port, cls := 4, out := .tls w (le 1 2 ++ le 1 0 ++ le 2 (answerBytes c status payload).length
        ++ answerBytes c status payload) } ∈ t.host.outbox
    else (win t w).rspReady = true ∧ (win t w).rspSeq = c.seq ∧ (win t w).rspLen = (answerBytes c status payload).length ∧
      (win t w).rspBuf.take (answerBytes c status payload).length = answerBytes c status payload

/-- A payload holds a value at a byte offset in a number of bytes, little-endian. -/
def Holds (p : List Byte) (off size value : Nat) : Prop := leAt p off size = value % 2 ^ (8 * size)

/-! ## Resets -/

/-- The state a full reset of a kind leaves: the ROM is to run, no session and no output is left, and what R610 keeps is
kept, the store without its load, and an input's halt source where it is latched (R128, R369, R608, R610, R614). -/
def FullReset (kind : Nat) (s t : State) : Prop :=
  t.sys.kind = kind ∧ t.sys.modState = 0 ∧ t.sys.hmRuns = false ∧ t.sys.tender = true ∧ t.clk.running = false ∧
  t.clk.tide = s.clk.tide ∧ t.cluster.st = 0 ∧ (∀ w, win t w = {}) ∧ t.fleet.relays = 0 ∧ t.pr.claimOut = false ∧
  t.time.timeQ = false ∧ t.rtc = { s.rtc with commits := s.rtc.commits.map fun c => { c with job := none } } ∧
  t.cfg.slots = (resetStore s).cfg.slots ∧ t.cfg.recs = (resetStore s).cfg.recs ∧ t.cfg.maps = s.cfg.maps ∧ t.pr.term = s.pr.term ∧
  (twf {} s.gnss.rf = true → ∀ x, (tget {} t.gnss.rf x).quiet = (tget {} s.gnss.rf x).quiet) ∧
  t.fleet.host = s.fleet.host ∧ t.fleet.input.disc = s.fleet.input.disc ∧
  (t.fleet.input.active = true ↔ s.fleet.input.active = true ∧ (s.par.fleet.latched = true ∨ s.fleet.input.disc = true)) ∧ t.meter.copyA = s.meter.copyA ∧
  t.meter.copyB = s.meter.copyB ∧ t.boot.otpEpoch = s.boot.otpEpoch ∧ t.boot.activeArea = s.boot.activeArea ∧
  t.boot.sealOk = s.boot.sealOk ∧ t.boot.seals = s.boot.seals ∧ t.pending = s.pending

/-- The state in which the harbourmaster restarts alone: the other processors and the metering run on (R39, R94, R610). -/
def Restarted (s t : State) : Prop :=
  t.sys.kind = 5 ∧ t.sys.modState = 0 ∧ t.sys.hmRuns = false ∧ t.sys.warm = true ∧ t.sys.tender = true ∧
  t.sys.resetWait = none ∧ (∀ w, win t w = {}) ∧ t.fleet.relays = 0 ∧ t.pr.claimOut = false ∧ t.time.timeQ = false ∧
  t.clk.running = s.clk.running ∧ t.clk.tide = s.clk.tide ∧ t.meter = s.meter ∧ t.rtc = s.rtc ∧ t.boot = s.boot ∧
  t.changes = [] ∧ t.switches = []

/-- A frame of the module's own of a size can leave a port in a class (R389, R393, R397, R424): the port is enabled, up and not
held silent, the frame is within its maximum, and the egress queue admits it. -/
def CanSend (s : State) (p c size : Nat) : Prop :=
  (portOf s p).enabled = true ∧ silent s p = false ∧ (portOf s p).up = true ∧ size ≤ maxFrame s p ∧
  admits (egressQ p c) attHm (berths size) s = true

/-- From s to t an egress queue took one frame of the module's own at its end, with its timestamp request. -/
def Sends (s t : State) (p c size : Nat) (ts : Option (Option Nat × Nat)) (o : Output) : Prop :=
  ∃ e, (poolQ t (egressQ p c)).entries = (poolQ s (egressQ p c)).entries ++ [e] ∧ e.own = some o ∧ e.size = size ∧ e.ts = ts

/-- A link datagram of a size to a vehicle, in one part of up to 160 entries, took the end of its field port's queue of class 6
(R358, R359, R402). -/
def LinkSent (s t : State) (v size entries : Nat) : Prop :=
  let c := tget ({} : VehicleCfg) s.par.fleet.vehicles v
  let n := udpSize s c.fieldPort size
  entries ≤ 160 → CanSend s c.fieldPort 6 n → admits 190 attCluster (berths size) s = true →
    admits (egressQ c.fieldPort 6) attCluster (berths n) s = true → ∃ b : List Byte, b.length = size ∧
    Sends s t c.fieldPort 6 n none (.datagram v c.fieldPort c.addr s.par.fleet.txPort b)

/-- A query answers OK with a payload of the named kind and changes nothing but its window and what left the module
(R97). -/
def Answers (i : Instr) (s : State) (w : Nat) (c : Cmd) (good : List Byte → Prop) : Prop :=
  ∃ t p, exec i s = .next t ∧ Answered s t w c stOK p ∧ Only [.host, .out] s t ∧ (∀ x, x ≠ w → win t x = win s x) ∧ good p

/-- A change is accepted for the next edge: it waits after the changes accepted before it, and the response carries its
apply tide (R102). -/
def Accepts (i : Instr) (s : State) (w : Nat) (c : Cmd) (x : Setting) : Prop :=
  ∃ t, exec i s = .next t ∧ Answered s t w c stOK (le 8 (nextTide s)) ∧
    t.changes = s.changes ++ [{ tide := nextTide s, setting := x }] ∧ Only [.host, .changes, .out] s t ∧
    ∀ x, x ≠ w → win t x = win s x

/-- A stop or a start is accepted for the next edge, and the response carries that tide (R60, R62, R102). -/
def Switches (i : Instr) (s : State) (w : Nat) (c : Cmd) (f : Fn) (start : Bool) : Prop :=
  ∃ t, exec i s = .next t ∧ Answered s t w c stOK (le 8 (nextTide s)) ∧
    t.switches = s.switches.filter (fun x => x.fn != f) ++ [{ fn := f, start, tide := nextTide s }] ∧
    Only [.host, .switches, .out] s t ∧ ∀ x, x ≠ w → win t x = win s x

/-- A command is refused with a status: its response has no payload, and nothing but its window and what left the module
changes (R96, R97). -/
def Refused (i : Instr) (s : State) (w : Nat) (c : Cmd) (status : Nat) : Prop :=
  ∃ t, exec i s = .next t ∧ Answered s t w c status [] ∧ Only [.host, .out] s t ∧ ∀ x, x ≠ w → win t x = win s x

/-! ## Mailbox commands -/

/-- The session window and the Tamwyn code of a mailbox command (R97). -/
def mailbox : Instr → Option (Nat × Nat)
  | .hello w => some (w, 0x0101)
  | .sessionInfo w => some (w, 0x0102)
  | .keepalive w => some (w, 0x0103)
  | .subscribe w => some (w, 0x0104)
  | .unsubscribe w => some (w, 0x0105)
  | .sessClose w => some (w, 0x0140)
  | .sysInfo w => some (w, 0x1101)
  | .sysState w => some (w, 0x1102)
  | .sysReset w => some (w, 0x1140)
  | .cfgStatus w => some (w, 0x0201)
  | .cfgLoadBegin w => some (w, 0x0240)
  | .cfgLoadData w => some (w, 0x0241)
  | .cfgLoadEnd w => some (w, 0x0242)
  | .cfgApply w => some (w, 0x0243)
  | .cfgCancel w => some (w, 0x0244)
  | .cfgRevert w => some (w, 0x0245)
  | .timeStatus w _ => some (w, 0x0301)
  | .timePortStatus w => some (w, 0x0302)
  | .timeJumpAccept w => some (w, 0x0340)
  | .timeJumpReject w => some (w, 0x0341)
  | .timePortSet w => some (w, 0x0342)
  | .timeSourceSet w => some (w, 0x0343)
  | .timeThresholdSet w => some (w, 0x0344)
  | .timeOutputSet w => some (w, 0x0345)
  | .rtcStatus w _ => some (w, 0x0303)
  | .rtcSet w => some (w, 0x0346)
  | .rtcUtcSet w => some (w, 0x0347)
  | .radioStatus w => some (w, 0x0401)
  | .radioLedger w => some (w, 0x0402)
  | .radioNeighbour w => some (w, 0x0403)
  | .radioStats w => some (w, 0x0404)
  | .radioEnable w => some (w, 0x0440)
  | .radioNeighbourFlush w => some (w, 0x0441)
  | .radioPowerSet w => some (w, 0x0442)
  | .lantStatus w => some (w, 0x0501)
  | .lantNode w => some (w, 0x0502)
  | .lantBalance w => some (w, 0x0503)
  | .lantLevel w => some (w, 0x0540)
  | .lantScene w => some (w, 0x0541)
  | .lantDetect w => some (w, 0x0542)
  | .lantFloorSet w => some (w, 0x0543)
  | .lantMove w => some (w, 0x0544)
  | .lantRemove w => some (w, 0x0545)
  | .lantRuleEnable w => some (w, 0x0546)
  | .lantBowwaveEnable w => some (w, 0x0547)
  | .gnssStatus w => some (w, 0x0601)
  | .gnssChannel w => some (w, 0x0602)
  | .gnssFsStatus w => some (w, 0x0603)
  | .gnssStats w => some (w, 0x0604)
  | .gnssNotchSet w => some (w, 0x0640)
  | .gnssSignalEnable w => some (w, 0x0641)
  | .gnssMove w => some (w, 0x0642)
  | .gnssBiasSet w => some (w, 0x0643)
  | .gnssFsSet w => some (w, 0x0644)
  | .gnssLoopSet w => some (w, 0x0645)
  | .gnssJiCal w => some (w, 0x0646)
  | .gnssObsStream w => some (w, 0x0647)
  | .refStatus w => some (w, 0x0701)
  | .posVehicle w => some (w, 0x0702)
  | .refStats w => some (w, 0x0703)
  | .refEnable w => some (w, 0x0740)
  | .refSurveyStart w => some (w, 0x0741)
  | .refFixSet w => some (w, 0x0742)
  | .refOutputSet w => some (w, 0x0743)
  | .refIntegritySet w => some (w, 0x0744)
  | .posEnrol w => some (w, 0x0745)
  | .refStream w => some (w, 0x0746)
  | .posEnable w => some (w, 0x0747)
  | .fleetStatus w => some (w, 0x0801)
  | .fleetVehicle w => some (w, 0x0802)
  | .fleetTask w => some (w, 0x0803)
  | .fleetPath w => some (w, 0x0804)
  | .fleetStats w => some (w, 0x0805)
  | .fleetEnable w => some (w, 0x0840)
  | .fleetHalt w _ => some (w, 0x0841)
  | .fleetRelease w _ => some (w, 0x0842)
  | .fleetTaskAdd w => some (w, 0x0843)
  | .fleetTaskCancel w => some (w, 0x0844)
  | .fleetTaskMove w => some (w, 0x0845)
  | .fleetHold w => some (w, 0x0846)
  | .fpPortStatus w => some (w, 0x0901)
  | .fpStats w => some (w, 0x0902)
  | .fpCounters w => some (w, 0x0903)
  | .fpGateList w => some (w, 0x0904)
  | .fpPortEnable w => some (w, 0x0940)
  | .fpGateSet w => some (w, 0x0941)
  | .fpGateEnable w => some (w, 0x0942)
  | .fpPlcaSet w => some (w, 0x0943)
  | .fpRuleSet w => some (w, 0x0944)
  | .poolStatus w => some (w, 0x0A01)
  | .queueStatus w => some (w, 0x0A02)
  | .poolStats w => some (w, 0x0A03)
  | .lighterStatus w => some (w, 0x0A04)
  | .qwBind w => some (w, 0x0A40)
  | .ltBind w => some (w, 0x0A41)
  | .qbusStatus w => some (w, 0x0B01)
  | .qbusStats w => some (w, 0x0B02)
  | .qbusSend w => some (w, 0x0B40)
  | .qbusEnable w => some (w, 0x0B41)
  | .qbusFilterSet w => some (w, 0x0B42)
  | .qbusFlush w => some (w, 0x0B43)
  | .mtrStatus w => some (w, 0x0C01)
  | .mtrPoint w => some (w, 0x0C02)
  | .mtrInterval w => some (w, 0x0C03)
  | .mtrBatteryLog w => some (w, 0x0C04)
  | .mtrPointEnable w => some (w, 0x0C40)
  | .mtrPulseSet w => some (w, 0x0C41)
  | .mtrSave w => some (w, 0x0C42)
  | .mtrBatteryLogClear w => some (w, 0x0C43)
  | .lampStatus w => some (w, 0x0D01)
  | .signStatus w => some (w, 0x0D02)
  | .lampSignStats w => some (w, 0x0D03)
  | .lampLevel w => some (w, 0x0D40)
  | .lampFaultClear w => some (w, 0x0D41)
  | .lampEnable w => some (w, 0x0D42)
  | .signWrite w => some (w, 0x0D43)
  | .signSwap w _ => some (w, 0x0D44)
  | .signStream w => some (w, 0x0D45)
  | .signEnable w => some (w, 0x0D46)
  | .signBrightness w => some (w, 0x0D47)
  | .prStatus w => some (w, 0x0E01)
  | .prHealth w => some (w, 0x0E02)
  | .prCheckpoints w => some (w, 0x0E03)
  | .prSwitchover w => some (w, 0x0E40)
  | .prTermSet w => some (w, 0x0E41)
  | .prRehearse w => some (w, 0x0E42)
  | .prThermalStatus w => some (w, 0x0E04)
  | .updStatus w => some (w, 0x0F01)
  | .updManifest w => some (w, 0x0F02)
  | .updImages w => some (w, 0x0F03)
  | .updCampaignStatus w => some (w, 0x0F04)
  | .updCampaignNode w => some (w, 0x0F05)
  | .updLoadBegin w => some (w, 0x0F40)
  | .updLoadData w => some (w, 0x0F41)
  | .updLoadEnd w => some (w, 0x0F42)
  | .updCancel w => some (w, 0x0F43)
  | .updActivate w => some (w, 0x0F44)
  | .updConfirm w => some (w, 0x0F45)
  | .updRollback w => some (w, 0x0F46)
  | .updInstall w => some (w, 0x0F47)
  | .updCampaignStart w => some (w, 0x0F48)
  | .updCampaignStop w => some (w, 0x0F49)
  | .updImageDelete w => some (w, 0x0F4A)
  | .logStatus w => some (w, 0x1001)
  | .logRead w => some (w, 0x1002)
  | .logExport w => some (w, 0x1040)
  | .logExportStop w => some (w, 0x1041)
  | .logNote w => some (w, 0x1042)
  | .logLimitSet w => some (w, 0x1043)
  | .sysGpio w => some (w, 0x1103)
  | .sysGpioSet w => some (w, 0x1141)
  | _ => none

/-- The commands that the application cluster serves: while it is down they are refused (R36, R103, R650). -/
def onCluster : Instr → Bool
  | .lantLevel _ | .lantScene _ | .lantDetect _ | .lantFloorSet _ | .lantMove _ | .lantRemove _
  | .lantRuleEnable _ | .lantBowwaveEnable _ | .gnssFsStatus _ | .gnssMove _ | .posVehicle _ | .refStats _
  | .refEnable _ | .refSurveyStart _ | .refFixSet _ | .refOutputSet _ | .refIntegritySet _ | .posEnrol _
  | .posEnable _ | .fleetTaskAdd _ | .fleetTaskMove _ | .updCampaignStart _ | .updCampaignStop _ => true
  | _ => false

/-! ## What every step keeps -/

/-- The RTC holds 48 bits of seconds (R174), the ROM counts at most three failed starts (R612, R613), sign memory (log entry
41) and the table of held intervals keep their canonical form, the pilot role stands only in RUNNING or STOPPING (R539,
R554, R610), and the halt relays are energised only while every condition of R374 holds. -/
def Sound (s : State) : Prop :=
  s.rtc.sec < 2 ^ 48 ∧ s.boot.failedStarts ≤ 3 ∧ twf 0 s.lampSign.mem = true ∧
  twf [] s.fleet.held = true ∧ (s.sys.tender = false → s.sys.modState = 4 ∨ s.sys.modState = 5) ∧ (s.fleet.relays ≠ 0 → relayOk s = true)

end Sys2Proof.Machine
end

