-- ==== Sys2Proof/WellFormed.lean ====
section
/-! DEFINITION. Sys2Proof/WellFormed.lean: the operands the spec allows a command: the numbers of windows, ports,
transceivers, nodes and the like lie in the ranges that name a part the module has, and operands made of fields hold
each field in its width. What a host writes into a request's payload is no operand: the command's meaning checks it. -/

namespace Sys2Proof.WellFormed

/-! ## Numbers that name a part of the module -/

/-- A session window (R79). -/
def isWindow (w : Nat) : Bool := w < 8
/-- A frame port: 0 to 13 (R387). -/
def isFramePort (p : Nat) : Bool := p < 14
/-- A transceiver: SG0 to SG7 and HB0 to HB3 (R25). -/
def isTransceiver (x : Nat) : Bool := x < 12
/-- A sub-GHz transceiver (R199). -/
def isSubGhz (x : Nat) : Bool := x < 8
/-- An HB transceiver by its number on RC9-B (R205). -/
def isHbTransceiver (x : Nat) : Bool := x < 4
/-- An HB transceiver by its number among all twelve. -/
def isHbDie (x : Nat) : Bool := 8 ≤ x && x < 12
/-- A slot of the 2.4 GHz frame (R204). -/
def isHbSlot (k : Nat) : Bool := k < 4
/-- A slot in which vehicles answer (R205). -/
def isVehicleSlot (k : Nat) : Bool := k == 1 || k == 2
/-- A radio die (R25). -/
def isRadioDie (d : Nat) : Bool := d < 2
/-- A node ID (R235). -/
def isNodeId (n : Nat) : Bool := n < 4096
/-- An extended address. -/
def isEui64 (e : Nat) : Bool := e < 2 ^ 64
/-- A vehicle (R354). -/
def isVehicle (v : Nat) : Bool := v < 256
/-- A feeder, which is a metering point (R269). -/
def isMeterFeeder (f : Nat) : Bool := f < 12
/-- An antenna: 0 reference, 1 monitor (R28). -/
def isAntenna (a : Nat) : Bool := a < 2
/-- An RF channel (R277). -/
def isRfChannel (c : Nat) : Bool := c < 6
/-- A tracking channel (R291). -/
def isTrackChannel (c : Nat) : Bool := c < 384
/-- A frequency band of the false-signal tests (R305). -/
def isBandNo (b : Nat) : Bool := b < 3
/-- A signal code of the table of R278. -/
def isSignalCode (c : Nat) : Bool := [0x01, 0x02, 0x03, 0x04, 0x10, 0x11, 0x20, 0x21, 0x30, 0x31].contains c
/-- A mountpoint (R327). -/
def isMountpoint (m : Nat) : Bool := m < 4
/-- A queue window (R432). -/
def isQueueWindow (q : Nat) : Bool := q < 16
/-- A host lighter channel (R440). -/
def isLighter (n : Nat) : Bool := n < 8
/-- A ring configuration register of a lighter channel: a word offset in its block (R446). -/
def isRingOffset (o : Nat) : Bool := o % 4 == 0 && o < 0x800
/-- A quay bus channel (R455). -/
def isQuayCh (c : Nat) : Bool := c < 4
/-- A voltage channel of the MF9 (R480). -/
def isVoltageCh (c : Nat) : Bool := c < 6
/-- A pulse output (R495). -/
def isPulseOutput (o : Nat) : Bool := o < 4
/-- A halt relay output (R374). -/
def isRelayOutput (o : Nat) : Bool := o < 2
/-- A lamp-string port (R515). -/
def isLampPort (p : Nat) : Bool := p < 8
/-- A sign port (R523). -/
def isSignPort (p : Nat) : Bool := p < 2
/-- A supply feed, FEED1 as 0 (R535). -/
def isFeedNo (f : Nat) : Bool := f < 2
/-- A statistic group: radio, GNSS, reference, fleet, ports, pool, quay, lamps and signs, metering (R55). -/
def isStatGroup (g : Nat) : Bool := g < 37
/-- A firmware function with a deadline (R53). -/
def isLateFn (f : Nat) : Bool := 1 ≤ f && f ≤ 7
/-- A time source: ring, GNSS, external (R157). -/
def isTimeSource (k : Nat) : Bool := 1 ≤ k && k ≤ 3
/-- A GPIO pin (R637). -/
def isGpioPin (p : Nat) : Bool := p < 16
/-- A client of recovery mode: 1 on USB, others on Ethernet (R620). -/
def isRecClient (c : Nat) : Bool := 1 ≤ c
/-- A word address of the register space (R74, R77). -/
def isRegisterAddr (a : Nat) : Bool := a % 4 == 0 && a < 2 ^ 20
/-- A VLAN and an Ethernet address of the forwarding database (R398). -/
def isFdbKey (vid mac : Nat) : Bool := vid < 4096 && mac < 2 ^ 48

end Sys2Proof.WellFormed

namespace Sys2Proof

open WellFormed

/-! ## Operands made of fields -/

/-- One entry per RF channel (R280, R285). -/
def EdgeIn.wf (e : EdgeIn) : Bool := e.gain.length == 6 && e.power.length == 6

/-- The function is one the module has (R60, R61). -/
def Fn.wf : Fn → Bool
  | .radio x => isTransceiver x
  | .gnssSignal a r => isAntenna a && r < 10
  | .reference | .positioning | .fleet | .bowWave => true
  | .port p | .gates p | .ptp p => isFramePort p
  | .queueWindow q => isQueueWindow q
  | .lighter n => isLighter n
  | .quay c => isQuayCh c
  | .meterPoint p => isMeterFeeder p
  | .lamp p => isLampPort p
  | .sign p => isSignPort p

/-- The item is one that firmware places (R63). -/
def MoveItem.wf : MoveItem → Bool
  | .node n => isNodeId n
  | .signal ch => isTrackChannel ch
  | .task t => t < 4096

/-- A search request's ranges (R288). -/
def AcqRequest.wf (r : AcqRequest) : Bool :=
  isAntenna r.antenna && isSignalCode r.signal && 500 ≤ r.halfWidth && r.halfWidth ≤ 50000 && r.window ≤ 64
    && 1 ≤ r.nonCoh && r.nonCoh ≤ 64

/-- A CAN frame's fields in their widths (R472). -/
def CanFrame.wf (f : CanFrame) : Bool :=
  f.format < 5 && f.flags < 16 && f.id < 2 ^ 29 && f.sdt < 256 && f.vcid < 256 && f.af < 2 ^ 32 && f.data.length ≤ 2048

/-- The command's operands name parts that the module has. -/
def Instr.wf : Instr → Bool
  | .tideEdge e => e.wf
  | .clusterResult _ prio _ _ => decide (prio < 256)
  | .tideMessageSend _ | .frameLoad | .clusterTideWorkStart | .pathAck _ | .taskReport _ | .clusterHeartbeat | .clusterFault
  | .clusterDownDeclare | .clusterRestoreComplete | .lockstepMismatch | .timeCorrectionApply | .rfFreezeExpire _ _
  | .improperAccess _ _ _ | .pcieLinkLoss | .usbDetach | .resetEdge | .cfgCheckComplete | .cfgApplyEdge
  | .cfgControlRecordWrite | .ringSyncTimeout | .extPpsEdge _ _ | .ext10mAccept _ | .ext10mLoss | .timeStateEdge
  | .txTimestampDrain | .ppsOutEdge | .changeApplyEdge | .batteryDomainPowerUp | .rtcSecondRollover _
  | .rtcDisciplineLoad _ | .commitSec _ | .commitCal _ | .ledgerSecond | .measurementLatch _ | .fsStateEdge
  | .surveySample _ _ | .surveyTimeout | .monitorSurveySolution _ _ _ | .monitorRoverSolve _ _ _
  | .obsDatagramRx _ _ _ _ | .centralSolve | .centralSolutionsComplete _ _ | .timeSolution _ _ _
  | .utcParametersDecode _ _ _ _ _ | .reservationBatchCheck | .reservationDeadline _ | .hornFreeze | .hornTransmit _
  | .claimFrameSend | .haltInputChange _ _ _ | .haltDiscrepancyLatch _ | .haltInputAutoClear _ | .relayEnergise
  | .ringWtrExpiry | .eccScrub _ | .mf9SampleFrame _ _ _ | .mf9FrameTimeout | .linkGapStart | .linkGapEnd
  | .meteringSave | .meteringSaveComplete | .powerFailSaveRepeat | .mainDomainLoss _ | .batteryBurst _ _
  | .signSyncEdge _ | .powerFailSignal | .powerFailClear | .claimLineSample _ | .twinClaimFrameRx _ | .demotionEdge
  | .twinLinkTimeout | .checkpointStart | .checkpointBlockRx _ | .healthReportSend | .healthReportRx _
  | .healthReportTimeout | .rehearsalStart | .rehearsalComplete _ _ | .takeover | .switchoverCheck | .switchoverEdge
  | .termSetEdge | .termHaltExpiry | .roleStart | .thermalEvaluation _ | .packageVerifyComplete | .installComplete _
  | .activationEdge | .confirmation | .trialWindowExpiry | .logStagingFlush | .logHalfClose | .logSegmentCopy
  | .logSuppressedWrite | .coldStart | .externalReset _ _ | .startTimeout | .romStart _ | .harbourmasterRun _
  | .configChecked _ | .diesLoaded | .servicesStarted | .recoveryInstallComplete _ | .recoveryOwnerTimeout
  | .extPpsLoss | .guardTimerExpiry | .twinLinkSyncLoss | .recoveryVerifyComplete | .arpRequest _ => true
  | .deadlineJudge fn => isLateFn fn
  | .statsLatch group => isStatGroup group
  | .functionStopEdge f | .functionStartEdge f => f.wf
  | .placementMoveEdge item => item.wf
  | .rfGroupFreeze _ addr _ | .rcRegisterRead _ addr | .registerWrite _ addr _ _ => isRegisterAddr addr
  | .spiTransaction _ addr _ _ _ => decide (addr < 2 ^ 24)
  | .usbRequest header _ _ => decide (header.length = 12)
  | .sessOpen _ w | .sessCloseWrite _ w | .doorbellWrite _ w _ | .rspReadyClear _ w | .evtRelease _ w
  | .keepaliveExpiry w | .tlsConnectionLoss w _ | .tlsRecord w _ | .sessionReleaseEdge w | .hello w | .sessionInfo w
  | .keepalive w | .subscribe w | .unsubscribe w | .sessClose w | .sysInfo w | .sysState w | .sysReset w
  | .cfgStatus w | .cfgLoadBegin w | .cfgLoadData w | .cfgLoadEnd w | .cfgApply w | .cfgCancel w | .cfgRevert w
  | .timeStatus w _ | .timePortStatus w | .timeJumpAccept w | .timeJumpReject w | .timePortSet w | .timeSourceSet w
  | .timeThresholdSet w | .timeOutputSet w | .rtcStatus w _ | .rtcSet w | .rtcUtcSet w | .radioStatus w
  | .radioLedger w | .radioNeighbour w | .radioStats w | .radioEnable w | .radioNeighbourFlush w | .radioPowerSet w
  | .lantStatus w | .lantNode w | .lantBalance w | .lantLevel w | .lantScene w | .lantCommandTimeout w _
  | .lantDetect w | .lantFloorSet w | .lantMove w | .lantRemove w | .lantRuleEnable w | .lantBowwaveEnable w
  | .gnssStatus w | .gnssChannel w | .gnssFsStatus w | .gnssStats w | .gnssNotchSet w | .gnssSignalEnable w
  | .gnssMove w | .gnssBiasSet w | .gnssFsSet w | .gnssLoopSet w | .gnssJiCal w | .gnssObsStream w | .refStatus w
  | .posVehicle w | .refStats w | .refEnable w | .refSurveyStart w | .refFixSet w | .refOutputSet w
  | .refIntegritySet w | .posEnrol w | .refStream w | .posEnable w | .fleetStatus w | .fleetVehicle w | .fleetTask w
  | .fleetPath w | .fleetStats w | .fleetEnable w | .fleetHalt w _ | .fleetRelease w _ | .fleetTaskAdd w
  | .fleetTaskCancel w | .fleetTaskMove w | .fleetHold w | .fpPortStatus w | .fpStats w | .fpCounters w
  | .fpGateList w | .fpPortEnable w | .fpGateSet w | .fpGateEnable w | .fpPlcaSet w | .fpRuleSet w | .poolStatus w | .queueStatus w
  | .poolStats w | .lighterStatus w | .qwBind w | .ltBind w | .qbusStatus w | .qbusStats w | .qbusSend w
  | .qbusEnable w | .qbusFilterSet w | .qbusFlush w | .mtrStatus w | .mtrPoint w | .mtrInterval w | .mtrBatteryLog w
  | .mtrPointEnable w | .mtrPulseSet w | .mtrSave w | .mtrBatteryLogClear w | .lampStatus w | .signStatus w
  | .lampSignStats w | .lampLevel w | .lampFaultClear w | .lampEnable w | .signWrite w | .signSwap w _
  | .signStream w | .signEnable w | .signBrightness w | .prStatus w | .prHealth w | .prCheckpoints w
  | .prSwitchover w | .prTermSet w | .prRehearse w | .prThermalStatus w | .updStatus w | .updManifest w
  | .updImages w | .updCampaignStatus w | .updCampaignNode w | .updLoadBegin w | .updLoadData w | .updLoadEnd w
  | .updCancel w | .updActivate w | .updConfirm w | .updRollback w | .updInstall w | .updCampaignStart w
  | .updCampaignStop w | .updImageDelete w | .logExportWrite w | .logStatus w | .logRead w | .logExport w
  | .logExportStop w | .logNote w | .logLimitSet w | .sysGpio w | .sysGpioSet w => isWindow w
  | .qwDataRead _ q | .qwTaggedRead _ q | .qwPopSkip _ q _ | .qwTxData _ q _ | .qwTxEnd _ q _ => isQueueWindow q
  | .tlsConnectionAccept port _ _ _ _ | .ptpSyncRx port _ | .ptpAnnounceRx port _ | .announceReceiptTimeout port
  | .ptpDelayReqRx port _ _ | .ptpPdelayRx port _ | .ptpSyncSend port | .txTimestampCapture port _ _ _
  | .ntripRequest port _ _ | .frameIngress port _ _ | .frameEgress port _ _ | .linkDown port _ | .linkDropEdge port
  | .linkUp port _ _ | .ringSignalFail port | .rapsRx port _ | .collision port _ | .backoffExpiry port
  | .plcaFallback port _ | .plcaRestore port | .gateChange port _ | .gateListApply port | .ptpAnnounceSend port
  | .ptpDelayRespRx port _ _ _ => isFramePort port
  | .sourceHoldoffExpiry src => isTimeSource src
  | .subghzCellTx x _ => isSubGhz x
  | .radioFrameRx x _ => isTransceiver x
  | .enhAckRx x node _ | .ackTimeout x node | .rxWindowEnd x node => isTransceiver x && isNodeId node
  | .hbSlotStart slot _ => isHbSlot slot
  | .ootHornTransmit hb _ | .ootHornCcaTimeout hb => isHbTransceiver hb
  | .indirectFrameExpiry node | .nodeConfirm node _ _ _ | .nodeStatus node _ _ | .nodeEnergy node _ _
  | .nodeFault node _ _ | .nodeDetect node _ _ | .fwStatus node _ _ _ | .nodeLostTimeout node
  | .fwActivateResend node => isNodeId node
  | .radioDieFail die | .radioDieRestore die => isRadioDie die
  | .nodeJoin x eui _ => isTransceiver x && isEui64 eui
  | .balanceEvaluation feeder => isMeterFeeder feeder
  | .acquisitionRequest r => r.wf
  | .acquisitionResult antenna signal _ _ => isAntenna antenna && isSignalCode signal
  | .notchEngage rf _ | .notchRelease rf _ | .jamEnter rf | .jamExit rf | .jiCalComplete rf _ => isRfChannel rf
  | .antennaShort antenna | .biasRetry antenna | .antennaOpen antenna | .laneAlignmentLoss antenna
  | .laneRealign antenna => isAntenna antenna
  | .coastTimeout ch => isTrackChannel ch
  | .channelLock r | .channelLockLoss r | .channelLost r | .sidePeakCorrection r _ | .bitSync r | .secondaryCodeAlignment r
  | .framePreamble r => isTrackChannel r.ch
  | .falseSignalEval band _ => isBandNo band
  | .correctionEncode mount _ => isMountpoint mount
  | .horizonFloor v | .vehicleHeldEntry v | .vehicleHeldExit v | .answerOpportunityMissed v | .pathSend v
  | .pathResend v => isVehicle v
  | .vehicleAckRx x slot _ => isHbDie x && isVehicleSlot slot
  | .relayReadbackFault output _ => isRelayOutput output
  | .fdbAgeing vid mac => isFdbKey vid mac
  | .ltCtrlWrite _ n _ | .ltTailWrite _ n _ | .lighterBurst n _ | .ringWaitExpiry n | .hostMemoryTimeout n => isLighter n
  | .ltRingConfigWrite _ n off _ => isLighter n && isRingOffset off
  | .qbusFrameRx c f => isQuayCh c && f.wf
  | .qbusTxAttempt c _ _ | .busIntegration c | .busOffRecovery c => isQuayCh c
  | .noCrossingEntry c | .noCrossingWindow c => isVoltageCh c
  | .pulseEmit output | .pulseBacklogEmit output => isPulseOutput output
  | .lampSlotFrame port | .lampStatusFrame port _ | .lampStatusCollect port | .lampFaultEval port => isLampPort port
  | .signFrameStart port | .signSyncTimeout port | .signSwapEdge port | .swapCopyComplete port => isSignPort port
  | .feedSample feed _ _ | .feedReclose feed => isFeedNo feed
  | .recInfo c | .recBegin c _ | .recData c _ _ | .recEnd c | .recRestart c => isRecClient c
  | .gpioInputEdge pin _ _ => isGpioPin pin

end Sys2Proof
end

