-- ==== Sys2Proof/Certificates/Slice0/Obligations.lean ====
section
/-! DEFINITION. Sys2Proof/Certificates/Slice0/Obligations.lean: the statements about the machine: how it steps, what
each command may change, what each command does where the spec gives it its effect, and what every step keeps. -/

open Sys2Proof Sys2Proof.Machine

/-! ## The queue and the whole machine -/

/-- A step runs the command at the front of the queue on the state with the queue's rest, and idles on an empty queue
(log entry 12). -/
def Obligations.StepRunsFrontCommand : Prop :=
  (∀ (c : Instr) (rest : List Instr) (s : State), s.pending = c :: rest → step s = exec c { s with pending := rest }) ∧
  ∀ s : State, s.pending = [] → step s = .next s

/-- Every command answers a next state from every state: none ends in a fault or a refusal. -/
def Obligations.EveryCommandAnswers : Prop :=
  ∀ (c : Instr) (s : State), ∃ t, exec c s = .next t

/-- The frame of every command: the queue, and each part of the State that its rules do not name, stay as they were. -/
def Obligations.EveryCommandWritesOnly : Prop :=
  ∀ (c : Instr) (s t : State), exec c s = .next t → Only (writes c) s t

/-- The tide number (R44, R45, R66): a running edge raises it by one, or by two where a correction skips the edge; a
correction of D ≥ 10 ms raises it by floor(D / 10 ms) and another one keeps it; no other command but the harbourmaster's
start moves it. -/
def Obligations.TideNumberMoves : Prop :=
  (∀ (e : EdgeIn) (s : State), ∃ t, exec (.tideEdge e) s = .next t ∧
    t.clk.tide = if s.clk.running then s.clk.tide + (if s.clk.skipNext then 2 else 1) else s.clk.tide) ∧
  (∀ (s : State) (c : Correction) (d : Int), s.clk.correction = some c → c.tide ≤ s.clk.tide → s.time.jump = none →
    (srcOf s c.src).latest = some d → (d.natAbs < 10000000 ∨ preHorn s = true) →
    ∃ t, exec .timeCorrectionApply s = .next t ∧
      t.clk.tide = if d ≥ 10000000 then s.clk.tide + (d / 10000000).toNat else s.clk.tide) ∧
  (∀ s : State, s.clk.correction = none → exec .timeCorrectionApply s = .next s) ∧
  ∀ (c : Instr) (s t : State), movesTide c = false → exec c s = .next t → t.clk.tide = s.clk.tide

/-! ## Sessions and mailboxes (chapter 03) -/

/-- Sessions open, close and are released (R83, R91 to R93, R110, R112): a write of OPEN to a FREE window that is not
reserved opens a session of the accessing origin; a close write, an expired keepalive, a lost link or connection closes
it with the reason of R93 and removes its subscriptions and queued events; at the first edge after the close the window
becomes FREE with every register at its reset value. -/
def Obligations.SessionsOpenAndClose : Prop :=
  (∀ (s : State) (o : Origin) (w : Nat), hostUp s = true → w < 8 → o ≠ .tls → (win s w).st = 1 →
    (w ≠ 7 ∨ o = .usb ∨ s.par.host.usbWindow7 = false) →
    ∃ t, exec (.sessOpen o w) s = .next t ∧ (win t w).st = 2 ∧ (win t w).origin = originCode o ∧
      (win t w).openTide = s.clk.tide ∧ (win t w).rights = rightsFor (originCode o) 0 s ∧ (win t w).subs = [] ∧
      ∀ x, x ≠ w → (win t x).st = (win s x).st) ∧
  (∀ (s : State) (w port cert : Nat) (h : TlsOffer), hostUp s = true → s.par.host.tlsPorts.getLsbD port = true →
    s.cfg.defaultedBit = false → offerOk h = true → s.par.host.anchors.contains h.anchor = true → freeWindow s = some w →
    ∃ t, exec (.tlsConnectionAccept port s.par.host.tlsTcp h (some cert) true) s = .next t ∧ (win t w).st = 2 ∧ (win t w).origin = 4 ∧
      (win t w).rights = rightsFor 4 cert s ∧ (win t w).openTide = s.clk.tide) ∧
  (∀ (s : State) (o : Origin) (w : Nat), owns o w s = true → live (win s w) = true →
    ∃ t, exec (.sessCloseWrite o w) s = .next t ∧ (win t w).st = 4 ∧ (win t w).reason = 0 ∧ (win t w).subs = [] ∧
      (win t w).queue = [] ∧ ∀ x, x ≠ w → win t x = win s x) ∧
  (∀ (s : State) (w : Nat), live (win s w) = true → (win s w).keepPeriod ≠ 0 → (win s w).keepLeft = 0 →
    ∃ t, exec (.keepaliveExpiry w) s = .next t ∧ (win t w).st = 4 ∧ (win t w).reason = 1 ∧ (win t w).subs = [] ∧
      (win t w).queue = [] ∧ ∀ x, x ≠ w → win t x = win s x) ∧
  (∀ s : State, ∃ t, exec .pcieLinkLoss s = .next t ∧ ∀ w, w < 8 →
    if live (win s w) = true ∧ (win s w).origin = 1 then (win t w).st = 4 ∧ (win t w).reason = 2 ∧ (win t w).queue = []
    else win t w = win s w) ∧
  (∀ s : State, ∃ t, exec .usbDetach s = .next t ∧ ∀ w, w < 8 →
    if live (win s w) = true ∧ (win s w).origin = 3 then (win t w).st = 4 ∧ (win t w).reason = 2 ∧ (win t w).queue = []
    else win t w = win s w) ∧
  (∀ (s : State) (w : Nat) (alert : Bool), live (win s w) = true → (win s w).origin = 4 →
    ∃ t, exec (.tlsConnectionLoss w alert) s = .next t ∧ (win t w).st = 4 ∧ (win t w).reason = 3 ∧
      (win t w).subs = [] ∧ (win t w).queue = []) ∧
  (∀ (s : State) (w : Nat), w < 8 → (win s w).st = 4 → (win s w).closeRan ≠ s.clk.ran →
    ∃ t, exec (.sessionReleaseEdge w) s = .next t ∧ win t w = {})

/-- The mailbox registers (R85 to R88, R99, R100, R111): a doorbell of the owner while BUSY is 0 takes the command whose
header stands in the command buffer, when its seq is the doorbell's and follows the one before and no check of R100
fails, and its turn comes after the commands taken before it (R102); one while BUSY is 1 is counted and ignored; clearing
RSP_READY clears BUSY; releasing an event loads the next one; a TLS command record is taken as a doorbell would take it. -/
def Obligations.MailboxRegisters : Prop :=
  (∀ (s : State) (o : Origin) (w : Nat) (v : Word), owns o w s = true → live (win s w) = true →
    (win s w).busy = false →
    let hdr := cmdBytes (win s w) 0 8
    let payload := cmdBytes (win s w) 8 (min (u16 hdr 4) 3832)
    u16 hdr 2 = v.toNat % 65536 → (win s w).prevSeq.all (fun q => (q + 1) % 65536 = u16 hdr 2) = true →
    checkStatus (win s w) (u16 hdr 0) (u16 hdr 4) (u16 hdr 6) payload = stOK →
    ∃ t, exec (.doorbellWrite o w v) s = .next t ∧
      (win t w).inflight = some { code := u16 hdr 0, seq := u16 hdr 2, payload := payload } ∧
      (win t w).busy = true ∧ (win t w).cmdSeq = u16 hdr 2 ∧ (win t w).prevSeq = some (u16 hdr 2) ∧
      (win t w).keepLeft = (win s w).keepPeriod ∧
      t.host.turns = s.host.turns ++ [{ w := w, sid := (win s w).sid }] ∧ ∀ x, x ≠ w → win t x = win s x) ∧
  (∀ (s : State) (o : Origin) (w : Nat) (v : Word), owns o w s = true → (win s w).busy = true →
    ∃ t, exec (.doorbellWrite o w v) s = .next t ∧
      win t w = { win s w with dbIgnored := (win s w).dbIgnored + 1, keepLeft := (win s w).keepPeriod }) ∧
  (∀ (s : State) (o : Origin) (w : Nat), owns o w s = true → (win s w).rspReady = true →
    ∃ t, exec (.rspReadyClear o w) s = .next t ∧
      win t w = { win s w with rspReady := false, busy := false } ∧ ∀ x, x ≠ w → win t x = win s x) ∧
  (∀ (s : State) (o : Origin) (w : Nat), owns o w s = true → (win s w).evtReady = true → (win s w).origin ≠ 4 →
    (∀ e ∈ s.host.held, delivers e w s = false) →
    ∃ t, exec (.evtRelease o w) s = .next t ∧ (win t w).keepLeft = (win s w).keepPeriod ∧
      (win t w).evtReady = !(win s w).queue.isEmpty ∧ (win t w).queue = (win s w).queue.tail ∧
      (∀ e q, (win s w).queue = e :: q →
        (win t w).evtRecord = (evtBytes (win s w) e ++ zeros 128).take 128 ∧
        (win t w).evtSeq = ((win s w).evtSeq + 1) % 65536) ∧ ∀ x, x ≠ w → win t x = win s x) ∧
  (∀ (s : State) (w : Nat) (hdr payload : List Byte), live (win s w) = true → (win s w).origin = 4 →
    (win s w).inflight = none → hdr.length = 8 → payload.length ≤ 3832 → u16 hdr 4 = payload.length →
    (win s w).prevSeq.all (fun q => (q + 1) % 65536 = u16 hdr 2) = true →
    checkStatus (win s w) (u16 hdr 0) (u16 hdr 4) (u16 hdr 6) payload = stOK →
    ∃ t, exec (.tlsRecord w (le 1 1 ++ le 1 0 ++ le 2 (hdr ++ payload).length ++ (hdr ++ payload))) s = .next t ∧
      (win t w).inflight = some { code := u16 hdr 0, seq := u16 hdr 2, payload := payload } ∧
      (win t w).prevSeq = some (u16 hdr 2) ∧ (win t w).keepLeft = (win s w).keepPeriod ∧
      t.host.turns = s.host.turns ++ [{ w := w, sid := (win s w).sid }])

/-- The commands of the session service (R93, R104, R112, R113): HELLO chooses the version and sets the keepalive,
SESSION_INFO lists the windows, KEEPALIVE restarts the count, SUBSCRIBE and UNSUBSCRIBE change the session's
subscriptions, and the response to CLOSE is the last message of the session. -/
def Obligations.SessionCommands : Prop :=
  ∀ (s : State) (w : Nat) (c : Cmd), Waits s w c →
  (∀ major minor, c.code = 0x0101 → helloBad c.payload = false → (win s w).st = 2 →
    chooseVersion (entriesOf 2 (u8 c.payload 0) (c.payload.drop 4)) = some (major, minor) →
    ∃ t, exec (.hello w) s = .next t ∧ Answered s t w c stOK (le 1 major ++ le 1 minor ++ le 2 w ++
        le 1 (win s w).origin ++ zeros 3 ++ le 4 (win s w).rights.toNat ++ le 8 (win s w).openTide) ∧
      (win t w).st = 3 ∧ (win t w).major = major ∧ (win t w).minor = minor ∧
      (win t w).keepPeriod = u16 c.payload 2 ∧ (win t w).keepLeft = u16 c.payload 2) ∧
  (c.code = 0x0102 → Answers (.sessionInfo w) s w c (fun p => p.length = 64 ∧ ∀ i, i < 8 →
    Holds p (8 * i) 1 (win s i).st ∧ Holds p (8 * i + 1) 1 (win s i).origin ∧ Holds p (8 * i + 2) 1 (win s i).major ∧
    Holds p (8 * i + 3) 1 (win s i).minor ∧ Holds p (8 * i + 4) 4 (win s i).rights.toNat)) ∧
  (c.code = 0x0103 → ∃ t, exec (.keepalive w) s = .next t ∧ Answered s t w c stOK [] ∧
    (win t w).keepLeft = (win s w).keepPeriod ∧ Only [.host, .out] s t ∧ ∀ x, x ≠ w → win t x = win s x) ∧
  (c.code = 0x0104 → subsBad true c.payload = false → ((subsOf c.payload).foldl addSub (win s w).subs).length ≤ 64 →
    ∃ t, exec (.subscribe w) s = .next t ∧ (win t w).subs = (subsOf c.payload).foldl addSub (win s w).subs ∧
      Answered s t w c stOK (le 2 (win t w).subs.length ++ le 2 0)) ∧
  (c.code = 0x0105 → subsBad false c.payload = false →
    ∃ t, exec (.unsubscribe w) s = .next t ∧ (∀ y, y ∈ (win t w).subs ↔ y ∈ (win s w).subs ∧
        ∀ x ∈ subsOf c.payload, x.code = y.code → x.wide ≠ y.wide) ∧
      Answered s t w c stOK (le 2 (win t w).subs.length ++ le 2 0)) ∧
  (c.code = 0x0140 → live (win s w) = true →
    ∃ t, exec (.sessClose w) s = .next t ∧ Answered s t w c stOK [] ∧ (win t w).st = 4 ∧ (win t w).reason = 0 ∧
      (win t w).subs = [] ∧ (win t w).queue = [])

/-- The host address map (R17, R19 to R21, R75 to R77, R82, R168, R185): a write to a doorbell register, or to RSP_STATUS
or EVT_STATUS, has the effect of its own command; an SPI or USB request of one word has the effect of the access it
carries; an improper write does nothing and an improper read returns zero; reading an RC counter clears it; the first
read of a frozen group keeps the group's words for the origin until its limit. -/
def Obligations.RegisterMap : Prop :=
  (∀ (s : State) (o : Origin) (w : Nat) (v : Word), w < 8 →
    exec (.registerWrite o (0x10000 + 4 * w) v 15) s = exec (.doorbellWrite o w v) s) ∧
  (∀ (s : State) (o : Origin) (w : Nat) (v : Word), w < 8 → v.getLsbD 0 = true →
    exec (.registerWrite o (0x2000 * w + 0x0C) v 15) s = exec (.rspReadyClear o w) s ∧
    exec (.registerWrite o (0x2000 * w + 0x14) v 15) s = exec (.evtRelease o w) s) ∧
  (∀ (s : State) (w i : Nat) (v : Word) (o : Origin), owns o w s = true → (win s w).busy = false → i < 960 →
    ∃ t, exec (.registerWrite o (0x2000 * w + 0x100 + 4 * i) v 15) s = .next t ∧
      (∀ k, k < 4 → tget 0 (win t w).cmdBuf (4 * i + k) = BitVec.ofNat 8 (v.toNat / 2 ^ (8 * k))) ∧
      ∀ k, (k < 4 * i ∨ 4 * i + 4 ≤ k) → tget 0 (win t w).cmdBuf k = tget 0 (win s w).cmdBuf k) ∧
  (∀ (s : State) (o : Origin) (addr : Nat) (v : Word) (be : BitVec 4), reachable o addr s = false →
    exec (.registerWrite o addr v be) s = .next s ∧ exec (.improperAccess o addr (some v)) s = .next s ∧
    exec (.improperAccess o addr none) s = .next (emit (.read o addr 0) s)) ∧
  (∀ (s : State) (o : Origin) (w : Nat), w < 8 → owns o w s = true →
    ∃ t, exec (.rcRegisterRead o (0x2000 * w + 0x18)) s = .next t ∧
      .read o (0x2000 * w + 0x18) (win s w).dbIgnored ∈ t.out ∧ (win t w).dbIgnored = 0) ∧
  (∀ (s : State) (o : Origin) (dt : Nat), hostUp s = true → o ≠ .tls →
    (tget {} s.time.freeze (originCode o)).words = none →
    ∃ t, exec (.rfGroupFreeze o 0x12000 dt) s = .next t ∧
      (tget {} t.time.freeze (originCode o)).words = some (snapGroup dt s) ∧
      .read o 0x12000 ((snapGroup dt s).getD 0 0) ∈ t.out) ∧
  (∀ (s : State) (o : Origin), (∃ t, exec (.rfFreezeExpire o .snapshot) s = .next t ∧
      tget {} t.time.freeze (originCode o) = {} ∧ t.rtc = s.rtc) ∧
    ∃ t, exec (.rfFreezeExpire o .rtc) s = .next t ∧ tget {} t.rtc.freeze (originCode o) = {} ∧ t.time = s.time) ∧
  (∀ (s : State) (addr dt : Nat) (v : Word), addr < 2 ^ 20 → addr % 4 = 0 →
    exec (.spiTransaction 0x02 addr [v] 0 dt) s = exec (.registerWrite .spi addr v 15) s ∧
    exec (.usbRequest (le 1 2 ++ zeros 3 ++ le 2 4 ++ le 2 0 ++ le 4 addr) (le 4 v.toNat) dt) s =
      exec (.registerWrite .usb addr v 15) s) ∧
  (∀ (s : State) (addr dt : Nat), addr < 2 ^ 20 → addr % 4 = 0 →
    (∃ t, exec (.spiTransaction 0x0B addr [] 1 dt) s = .next t ∧ .read .spi addr (mapRead .spi addr dt s).1 ∈ t.out) ∧
    ∃ t, exec (.usbRequest (le 1 1 ++ zeros 3 ++ le 2 4 ++ le 2 0 ++ le 4 addr) [] dt) s = .next t ∧
      .read .usb addr (mapRead .usb addr dt s).1 ∈ t.out)

/-! ## The system, start-up, resets and recovery mode (chapters 03 and 20) -/

/-- The system commands (R115, R609): SYS_INFO, SYS_STATE, and RESET, which answers OK, enters STOPPING and acts on the
third edge after it. -/
def Obligations.SystemCommands : Prop :=
  ∀ (s : State) (w : Nat) (c : Cmd), Waits s w c →
  (c.code = 0x1101 → Answers (.sysInfo w) s w c (fun p => p.length = 38 ∧ p.take 16 = partName ∧
    Holds p 16 8 Config.serial ∧ Holds p 28 1 s.boot.activeArea)) ∧
  (c.code = 0x1102 → Answers (.sysState w) s w c (fun p => p.length = 20 ∧ Holds p 0 4 (modState s) ∧
    Holds p 4 8 s.clk.tide ∧ Holds p 12 8 (s.clk.ran - s.sys.startRan))) ∧
  (c.code = 0x1140 → resetBad c.payload = false →
    ∃ t, exec (.sysReset w) s = .next t ∧ Answered s t w c stOK [] ∧ t.sys.modState = 5 ∧
      t.sys.resetWait = some (u8 c.payload 0, s.clk.ran + 3) ∧ t.upd.sched = none)

/-- What each reset of R608 leaves (R94, R369, R490, R571, R597, R608, R610, R614, R619): the ROM runs at T0 with the RTC,
the configuration images, the term, the halt latches of the host and of the inputs, the metering copies and the OTP epoch
as they were; every session is gone, every output is at rest, and tide edges stop.

The harbourmaster restarts alone (R39, R94, R609, R610, R617): every session and what it held is gone, the relays and
the claim are off, the role is tender, and the start-up sequence runs again without the ROM.

The power-fail signal (R517, R537): the relays open, the antenna biases go off, the cluster stops, and what the
logbook staged is in MRAM. -/
def Obligations.Resets : Prop :=
  ((∀ (s : State) (k t0 : Nat), (k = 4 ∨ k = 9) → s.sys.resetWait = some (k, t0) → t0 ≤ s.clk.ran →
    ∃ t, exec .resetEdge s = .next t ∧ FullReset k s t) ∧
  (∀ s : State, s.sys.kind = 0 → ∃ t, exec .coldStart s = .next t ∧ FullReset 1 s t) ∧
  (∀ (s : State) (n : Nat) (b : Bool), 10000 ≤ n → s.sys.kind ≠ 0 →
    ∃ t, exec (.externalReset n b) s = .next t ∧ FullReset 3 s t) ∧
  (∀ s : State, s.sys.kind ≠ 0 → s.sys.modState < 4 → s.sys.warm = false → ∃ t, exec .startTimeout s = .next t ∧ FullReset 8 s t) ∧
  (∀ s : State, s.pr.powerFail = true → ∃ t, exec .powerFailClear s = .next t ∧ FullReset 2 s t) ∧
  (∀ (s : State) (c : Nat), s.sys.modState = 6 → (s.sys.recov.owner = 0 ∨ s.sys.recov.owner = c) →
    ∃ t, exec (.recRestart c) s = .next t ∧ FullReset 4 s t ∧ t.boot.failedStarts = 0) ∧
  (∀ (s : State) (n : Nat), s.sys.kind ≠ 0 → ∃ t, exec (.mainDomainLoss n) s = .next t ∧ t.sys.kind = 0 ∧
    t.sys.modState = 0 ∧ t.meter.loss = some (rtcNs (rtcRun n s.rtc)) ∧ t.rtc.sec = s.rtc.sec ∧ t.clk.running = false ∧
    t.cfg.slots = (resetStore s).cfg.slots)) ∧
  ((∀ (s : State) (t0 : Nat), s.sys.resetWait = some (5, t0) → t0 ≤ s.clk.ran → s.boot.trial = false →
    ∃ t, exec .resetEdge s = .next t ∧ Restarted s t) ∧
  (∀ s : State, s.sys.hmRuns = true → s.boot.trial = false → ∃ t, exec .lockstepMismatch s = .next t ∧ Restarted s t)) ∧
  (∀ s : State, s.pr.powerFail = false → s.sys.kind ≠ 0 →
    ∃ t, exec .powerFailSignal s = .next t ∧ t.pr.powerFail = true ∧ t.fleet.relays = 0 ∧
      tget 0 t.par.gnss.bias 0 = 0 ∧ tget 0 t.par.gnss.bias 1 = 0 ∧ t.cluster.st = min s.cluster.st 1 ∧
      (s.log.filling = 0 → bytesOf s.log.half0 + bytesOf s.log.staging ≤ 32512 → t.log.staging = []) ∧ t.rtc = s.rtc)

/-- The start-up sequence (R612 to R618): the ROM starts the area that runs and counts the start as failed until RUNNING,
or enters recovery mode; then module time comes from the RTC, and CONFIG, DIES, SERVICES and RUNNING follow one another. -/
def Obligations.StartUpSequence : Prop :=
  (∀ s : State, inRom s = true → s.sys.kind ≠ 9 → s.boot.failedStarts < 3 → s.boot.trial = false →
    areaOk s (runSlot s) = true →
    ∃ t, exec (.romStart false) s = .next t ∧ t.sys.romDone = true ∧ t.boot.failedStarts = s.boot.failedStarts + 1 ∧
      t.sys.modState = 0) ∧
  (∀ (s : State) (low : Bool), inRom s = true → (low = true ∨ s.sys.kind = 9 ∨ 3 ≤ s.boot.failedStarts) →
    ∃ t, exec (.romStart low) s = .next t ∧ t.sys.modState = 6 ∧ t.sys.hmRuns = false ∧ t.meter.on = false ∧
      t.meter.loss = some (rtcNs s.rtc) ∧
      t.sys.recov.cause = (if low then 1 else if s.sys.kind = 9 then 2 else 4)) ∧
  (∀ (s : State) (n : Nat), mayRun s = true → s.sys.warm = false →
    ∃ t, exec (.harbourmasterRun n) s = .next t ∧ t.clk.tide = rtcTide (rtcRun n s.rtc) ∧ t.clk.running = true ∧
      t.sys.modState = 1 ∧ t.sys.hmRuns = true) ∧
  (∀ (s : State) (plate : Int), s.sys.modState = 1 → s.sys.hmRuns = true → s.sys.warm = false →
    ∃ t, exec (.configChecked plate) s = .next t ∧ t.sys.modState = 2 ∧ t.boot.fwChanged = false ∧
      t.par = (startConfig s).par) ∧
  (∀ s : State, s.sys.modState = 2 → s.sys.hmRuns = true →
    ∃ t, exec .diesLoaded s = .next t ∧ t.sys.modState = 3 ∧ (tget {} t.radio.dies 0).loaded = true ∧
      (tget {} t.radio.dies 1).loaded = true) ∧
  (∀ s : State, s.sys.modState = 3 → s.sys.hmRuns = true →
    ∃ t, exec .servicesStarted s = .next t ∧ t.sys.modState = 4 ∧ t.sys.warm = false ∧ t.boot.failedStarts = 0 ∧
      t.sys.roleDue = (!t.par.pr.pair && !t.cfg.defaultedBit))

/-- Recovery mode (R619 to R622): INFO, BEGIN, DATA and END by the client that owns the load, another client's request
answered BUSY, the package verified and installed, the owner that goes after 60 s, and ARP. -/
def Obligations.RecoveryMode : Prop :=
  (∀ (s : State) (c : Nat), s.sys.modState = 6 → (s.sys.recov.owner = 0 ∨ s.sys.recov.owner = c) →
    exec (.recInfo c) s = .next (recAnswer c 1 stOK (recInfoBytes s) s) ∧ (recInfoBytes s).length = 36) ∧
  (∀ (s : State) (c x : Nat), s.sys.modState = 6 → s.sys.recov.owner ≠ 0 → s.sys.recov.owner ≠ c →
    exec (.recInfo c) s = .next (recAnswer c 1 stBUSY [] s) ∧
    exec (.recBegin c x) s = .next (recAnswer c 2 stBUSY [] s)) ∧
  (∀ (s : State) (c total : Nat), s.sys.modState = 6 → (s.sys.recov.owner = 0 ∨ s.sys.recov.owner = c) →
    total ≤ packageMax → (s.sys.recov.st = 0 ∨ s.sys.recov.st = 4) →
    ∃ t, exec (.recBegin c total) s = .next t ∧ t.sys.recov.st = 1 ∧ t.sys.recov.owner = c ∧
      t.sys.recov.total = total ∧ t.sys.recov.held = []) ∧
  (∀ (s : State) (c : Nat) (data : List Byte), s.sys.modState = 6 → s.sys.recov.owner = c → c ≠ 0 → s.sys.recov.st = 1 →
    data.length ≤ recMax c → s.sys.recov.held.length + data.length ≤ s.sys.recov.total →
    (checkArrived s.sys.recov.total s.sys.recov.held.length (s.sys.recov.held ++ data)).2 = true →
    ∃ t, exec (.recData c s.sys.recov.held.length data) s = .next t ∧
      t.sys.recov.held = (checkArrived s.sys.recov.total s.sys.recov.held.length (s.sys.recov.held ++ data)).1 ∧
      t.sys.recov.st = 1) ∧
  (∀ (s : State) (c : Nat), s.sys.modState = 6 → s.sys.recov.owner = c → c ≠ 0 → s.sys.recov.st = 1 →
    s.sys.recov.total ≤ s.sys.recov.held.length →
    ∃ t, exec (.recEnd c) s = .next t ∧ t.sys.recov.st = 2 ∧ t.sys.recov.held = s.sys.recov.held) ∧
  (∀ s : State, s.sys.modState = 6 → s.sys.recov.st = 2 →
    ∃ t, exec .recoveryVerifyComplete s = .next t ∧
      if recVerify s = stOK then t.sys.recov.st = 3 ∧ t.boot.sealOk = 0
      else t.sys.recov.st = 0 ∧ t.sys.recov.lastStatus = recVerify s) ∧
  (∀ s : State, s.sys.modState = 6 → s.sys.recov.st = 3 →
    ∃ t, exec (.recoveryInstallComplete true) s = .next t ∧ t.sys.recov.st = 4 ∧ t.sys.recov.lastStatus = stOK ∧
      t.boot.sealOk = 3 ∧ t.boot.activeArea = 0 ∧ t.boot.trial = false ∧
      t.boot.otpEpoch = max s.boot.otpEpoch (u8 s.sys.recov.held 40) ∧ t.cfg = s.cfg) ∧
  (∀ s : State, s.sys.modState = 6 → s.sys.recov.owner ≠ 0 →
    ∃ t, exec .recoveryOwnerTimeout s = .next t ∧ t.sys.recov.owner = 0 ∧ (s.sys.recov.st = 1 → t.sys.recov.held = [])) ∧
  (∀ s : State, s.sys.modState = 6 → exec (.arpRequest recAddress) s = .next (emit (.arp recAddress) s))

/-! ## Configuration store, logbook and real-time clock (chapters 04, 06 and 19) -/

/-- The commands of the configuration store (R128 to R130, R133, R134): the status; a load of the announced length in
order by its owner; its end and its scheduled apply; a cancel before the apply; a revert to the previous image.

The edges of the configuration store (R122, R124, R128 to R130, R135): a load that passes every check becomes
READY and one that fails is discarded; an image takes effect at its apply tide; then the control record that was not in
force names it CURRENT, the image before it PREVIOUS, and the highest version given. -/
def Obligations.ConfigStore : Prop :=
  (∀ (s : State) (w : Nat) (c : Cmd), Waits s w c → let p := c.payload
  (c.code = 0x0201 → Answers (.cfgStatus w) s w c (fun b => b.length = 40 ∧ Holds b 0 4 (currentVersion s) ∧
    Holds b 12 4 (ctrl s).highest ∧ Holds b 17 1 s.cfg.defaulted ∧ Holds b 24 8 (ctrl s).applied)) ∧
  (∀ k, c.code = 0x0240 → u32 p 4 ≠ 0 → slotOf s .pending = none → s.cfg.apply = none → u32 p 0 ≤ 16777216 →
    slotOf s .empty = some k →
    ∃ t, exec (.cfgLoadBegin w) s = .next t ∧ Answered s t w c stOK [] ∧ slotOf t .pending = some k ∧
      slotBytes t k = [] ∧ t.cfg.loadTotal = u32 p 0 ∧ t.cfg.owner = (win s w).sid ∧ t.cfg.pendingState = 1) ∧
  (∀ k, c.code = 0x0241 → slotOf s .pending = some k → (win s w).sid = s.cfg.owner → 1 ≤ u16 p 4 → u16 p 4 ≤ 3824 →
    u32 p 0 = (slotBytes s k).length → (slotBytes s k).length + u16 p 4 ≤ s.cfg.loadTotal →
    ∃ t, exec (.cfgLoadData w) s = .next t ∧ slotBytes t k = slotBytes s k ++ p.drop 8 ∧
      Answered s t w c stOK (le 4 (slotBytes t k).length)) ∧
  (∀ k, c.code = 0x0242 → slotOf s .pending = some k → (win s w).sid = s.cfg.owner →
    s.cfg.loadTotal ≤ (slotBytes s k).length → s.cfg.pendingState < 2 →
    ∃ t, exec (.cfgLoadEnd w) s = .next t ∧ Answered s t w c stACCEPTED [] ∧ t.cfg.pendingState = 2 ∧
      t.cfg.checkJob = some (jobOf w s)) ∧
  (∀ k, c.code = 0x0243 → slotOf s .pending = some k → (win s w).sid = s.cfg.owner → s.cfg.pendingState = 3 →
    s.cfg.apply = none → s.clk.tide + 100 ≤ u64 p 0 → u64 p 0 ≤ s.clk.tide + 259200000 →
    ∃ t, exec (.cfgApply w) s = .next t ∧ Answered s t w c stACCEPTED (le 8 (u64 p 0)) ∧
      t.cfg.apply = some { slot := k, tide := u64 p 0, kind := 0, job := jobOf w s }) ∧
  (c.code = 0x0244 → s.cfg.apply = none → (slotOf s .pending).isSome = true →
    ∃ t, exec (.cfgCancel w) s = .next t ∧ Answered s t w c stOK [] ∧ slotOf t .pending ≠ slotOf s .pending ∧
      t.cfg.pendingState = 0) ∧
  (∀ k, c.code = 0x0245 → slotOf s .previous = some k → s.cfg.apply = none → s.clk.tide + 100 ≤ u64 p 0 →
    u64 p 0 ≤ s.clk.tide + 259200000 → (revertImage s (slotBytes s k)).1 = stOK →
    ∃ t, exec (.cfgRevert w) s = .next t ∧ Answered s t w c stACCEPTED (le 8 (u64 p 0)) ∧
      t.cfg.apply = some { slot := k, tide := u64 p 0, kind := 1, job := jobOf w s })) ∧
  ((∀ (s : State) (j : Job) (k : Nat), s.cfg.checkJob = some j → slotOf s .pending = some k →
    ∃ t, exec .cfgCheckComplete s = .next t ∧ t.cfg.checkJob = none ∧
      if checkImage s [7] false (ctrl s).highest (slotBytes s k) = none
      then t.cfg.pendingState = 3 ∧ slotOf t .pending = some k
      else t.cfg.pendingState = 0 ∧ slotBytes t k = []) ∧
  (∀ (s : State) (a : ApplyWait) (p : SiteConfig), s.cfg.apply = some a → a.passed = false → a.tide ≤ s.clk.tide →
    sectionParams 7 s.cfg.maps (sectionsOf (slotBytes s a.slot)) = some p →
    ∃ t, exec .cfgApplyEdge s = .next t ∧ t.cfg.apply = some { a with passed := true, edge := s.clk.tide } ∧
      t.cfg.defaulted = 0 ∧ t.cfg.defaultedBit = false ∧
      t.cfg.sections = sectionsOf (slotBytes s a.slot)) ∧
  (∀ (s : State) (a : ApplyWait), s.cfg.apply = some a → a.passed = true →
    ∃ t, exec .cfgControlRecordWrite s = .next t ∧ t.cfg.apply = none ∧ t.cfg.cur = 1 - s.cfg.cur ∧
      tget .empty (ctrl t).roles a.slot = .current ∧ (ctrl t).seq = ((ctrl s).seq + 1) % 2 ^ 32 ∧
      (ctrl t).highest = max (ctrl s).highest (u32 (slotBytes s a.slot) 8) ∧ (ctrl t).applied = a.edge ∧
      (∀ k, slotOf s .current = some k → k ≠ a.slot → tget .empty (ctrl t).roles k = .previous)))

/-- The commands of the logbook (R601, R603, R604, R606): the status, a read of whole records from a sequence number, a
note that waits for its record to be stored, a limit, an export and its stop.

The logbook's path to its store (R594, R597 to R600, R602, R604): a staged record takes the next sequence number and
its place in the half that is being filled; a half closes after 6,000 tides; a closed half becomes a segment; at each
whole second the suppression counts are written and start afresh; an export ends when all its records are written. -/
def Obligations.Logbook : Prop :=
  (∀ (s : State) (w : Nat) (c : Cmd), Waits s w c → let p := c.payload
  (c.code = 0x1001 → Answers (.logStatus w) s w c (fun b => b.length = 68 ∧ Holds b 16 4 (bytesOf (storedRecs s)) ∧
    Holds b 56 1 s.par.log.floor ∧ Holds b 57 1 s.log.exports.length ∧ Holds b 60 4 s.log.suppTotal.toNat ∧
    Holds b 64 4 s.log.dropTotal.toNat)) ∧
  (c.code = 0x1002 → u8 p 8 ≤ 7 → Answers (.logRead w) s w c (fun b => ∃ (rs : List LogRec) (next : Nat),
    rs <+: (storedRecs s).filter (fun r => r.seq ≥ u64 p 0 && r.sev ≥ u8 p 8) ∧ bytesOf rs ≤ 4076 ∧
    b = le 2 rs.length ++ le 2 0 ++ le 8 next ++ rs.flatMap recBytes)) ∧
  (c.code = 0x1042 → u8 p 0 ≤ 4 → ∃ t, exec (.logNote w) s = .next t ∧
    if (limited (recOf 0x10E0 (u8 p 0) 5 (le 1 w ++ le 1 (win s w).origin ++ zeros 6 ++ p.drop 4) s) s).1
    then Answered s t w c stOK (le 8 0)
    else t.log.noteTag = s.log.noteTag + 1 ∧ t.log.notes.length = s.log.notes.length + 1 ∧ ∀ x, win t x = win s x) ∧
  (c.code = 0x1043 → logLimitBad p = false →
    let asked := s.changes.filterMap fun c => match c.setting with | .logLimit k _ _ => some k | _ => none
    let codes := (asked ++ s.par.log.coded ++ s.log.limitCodes).foldr insertAscending []
    (u16 p 0 ∈ codes ∨ codes.length < 64) →
    Accepts (.logLimitSet w) s w c (.logLimit (u16 p 0) (u16 p 2) (u16 p 4))) ∧
  (c.code = 0x1040 → logExportBad p = false → u64 p 4 ≤ (if u64 p 12 = 0 then lastSeq s else u64 p 12) →
    winOwnsQwin s w (u8 p 0) = true → s.log.exports = [] →
    ∃ t, exec (.logExport w) s = .next t ∧ Answered s t w c stACCEPTED [] ∧ ∃ e, t.log.exports = [e] ∧
      e.window = u8 p 0 ∧ e.minSev = u8 p 1 ∧ e.next = u64 p 4 ∧
      e.to_ = (if u64 p 12 = 0 then lastSeq s else u64 p 12)) ∧
  (∀ e, c.code = 0x1041 → s.log.exports = [e] → e.job.sid = (win s w).sid →
    ∃ t, exec (.logExportStop w) s = .next t ∧ t.log.exports = [] ∧ Answered s t w c stOK [])) ∧
  ((∀ (s : State) (r : LogRec), s.log.staging = [r] → r.tag = 0 → s.log.filling = 0 → s.log.notes = [] →
    s.log.ownWait = [] → bytesOf s.log.half0 + recLen r ≤ 32768 →
    ∃ t, exec .logStagingFlush s = .next t ∧ t.log.half0 = s.log.half0 ++ [{ r with seq := s.log.seq }] ∧
      t.log.seq = s.log.seq + 1) ∧
  (∀ s : State, s.log.filling = 0 → s.log.half0 ≠ [] → s.log.firstRan + 6000 ≤ s.clk.ran →
    ∃ t, exec .logHalfClose s = .next t ∧ t.log.closed = s.log.closed ++ [0] ∧
      t.log.filling = (if s.log.closed.contains 1 then 2 else 1) ∧ t.log.half0 = s.log.half0) ∧
  (∀ (s : State) (rest : List Nat), s.log.closed = 0 :: rest → s.log.store.length < 8192 →
    ∃ t, exec .logSegmentCopy s = .next t ∧ t.log.store = s.log.store ++ [s.log.half0] ∧ t.log.half0 = [] ∧
      t.log.closed = rest) ∧
  (∀ s : State, s.clk.tide % 100 = 0 → ∃ t, exec .logSuppressedWrite s = .next t ∧ t.log.supp = [] ∧
    t.log.staging.length + t.log.ownWait.length = s.log.staging.length + s.log.ownWait.length + s.log.supp.length) ∧
  (∀ (s : State) (e : Export), s.log.exports = [e] → e.job.sid = callerSid s e.job.win →
    ownsQwin s e.window e.job.sid = true → exportItems s e = [] → e.to_ < s.log.seq →
    ∃ t, exec (.logExportWrite e.job.win) s = .next t ∧ t.log.exports = []))

/-- The real-time clock (R174 to R177, R180, R184, R187, R188, R191): seconds count up at each rollover unless a commit
waits that was written a full oscillator cycle before, which then sets them; a disciplined clock is loaded at a whole second
of module time and discards the commit; staged values are taken by COMMIT_SEC and COMMIT_CAL, and by RTC_SET; RTC_UTC_SET
writes the offset; power-up of the battery domain resets all of it, and changes nothing while the main domain is up. -/
def Obligations.RealTimeClock : Prop :=
  (∀ (s : State) (n : Nat), disciplined s = false → s.rtc.commits = [] →
    ∃ t, exec (.rtcSecondRollover n) s = .next t ∧ t.rtc.sec = (s.rtc.sec + 1) % 2 ^ 48 ∧ t.rtc.frac = 0 ∧
      t.rtc.ofs = if s.rtc.armed ∧ s.rtc.at_ ≤ (s.rtc.sec + 1) % 2 ^ 48 then s.rtc.next else s.rtc.ofs) ∧
  (∀ (s : State) (x : Commit) (due young : List Commit), disciplined s = false → s.rtc.commits = due ++ x :: young →
    (∀ c ∈ s.rtc.commits, c.void_ = false) → x.cal = false → 0 ≤ x.value → x.value < 2 ^ 48 →
    ∃ t, exec (.rtcSecondRollover young.length) s = .next t ∧ (t.rtc.sec : Int) = x.value ∧ t.rtc.frac = 0 ∧
      t.rtc.commits = young) ∧
  (∀ s : State, disciplined s = false → (∀ c ∈ s.rtc.commits, c.void_ = false) →
    ∃ t, exec (.rtcSecondRollover s.rtc.commits.length) s = .next t ∧ t.rtc.sec = (s.rtc.sec + 1) % 2 ^ 48 ∧
      t.rtc.commits = s.rtc.commits) ∧
  (∀ (s : State) (n : Nat), disciplined s = false → (∀ c ∈ s.rtc.commits, c.void_ = true) →
    ∃ t, exec (.rtcSecondRollover n) s = .next t ∧ t.rtc.sec = (s.rtc.sec + 1) % 2 ^ 48 ∧ t.rtc.commits = []) ∧
  (∀ (s : State) (dt : Nat), disciplined s = true → (tideStart s + dt) % 1000000000 = 0 →
    ∃ t, exec (.rtcDisciplineLoad dt) s = .next t ∧
      (t.rtc.sec : Int) = ((tideStart s + dt) / 1000000000 - 946684800) % (2 ^ 48 : Int) ∧ t.rtc.frac = 0 ∧
      t.rtc.commits = []) ∧
  (∀ (s : State) (o : Origin), hostUp s = true → o ≠ .tls → disciplined s = false →
    let g := stageOf s (originCode o)
    ∃ t, exec (.commitSec o) s = .next t ∧ t.rtc.commits.getLast? = some
      { origin := originCode o, cal := false, value := ((g.secHi.toNat % 2 ^ 16 * 2 ^ 32 + g.secLo.toNat : Nat) : Int) }) ∧
  (∀ (s : State) (o : Origin), hostUp s = true → o ≠ .tls → disciplined s = false →
    let g := stageOf s (originCode o)
    calendarOk g.date.toNat g.time.toNat = true → inRange (calendarSec g.date.toNat g.time.toNat + utcOfs s.rtc) = true →
    ∃ t, exec (.commitCal o) s = .next t ∧ t.rtc.commits.getLast? = some
      { origin := originCode o, cal := true, value := calendarSec g.date.toNat g.time.toNat }) ∧
  (∀ s : State, s.sys.kind = 0 → ∃ t, exec .batteryDomainPowerUp s = .next t ∧ t.rtc = {} ∧ t.meter.loss = none ∧
    t.meter.log = [] ∧ Only [.rtc, .meter] s t) ∧
  (∀ s : State, s.sys.kind ≠ 0 → exec .batteryDomainPowerUp s = .next s) ∧
  (∀ (s : State) (w : Nat) (c : Cmd), Waits s w c → let p := c.payload
    (∀ frac, c.code = 0x0303 → Answers (.rtcStatus w frac) s w c (fun b => b.length = 40 ∧
      Holds b 0 4 (s.rtc.sec / 2 ^ 32) ∧ Holds b 4 4 s.rtc.sec ∧ Holds b 20 4 s.rtc.ofs.toNat ∧
      Holds b 24 4 s.rtc.next.toNat)) ∧
    (c.code = 0x0346 → rtcSetBad p = false → u8 p 0 = 0 → disciplined s = false → s.rtc.commits = [] →
      u32 p 4 < 2 ^ 16 →
      ∃ t, exec (.rtcSet w) s = .next t ∧ Answered s t w c stACCEPTED [] ∧
        t.rtc.commits.getLast? = some
          { origin := 0, cal := false, value := ((u32 p 4 * 2 ^ 32 + u32 p 8 : Nat) : Int), job := some (jobOf w s) }) ∧
    (c.code = 0x0347 → u8 p 10 ≤ 1 →
      ∃ t, exec (.rtcUtcSet w) s = .next t ∧ Answered s t w c stOK [] ∧ t.rtc.ofs = BitVec.ofNat 16 (u16 p 0) ∧
        t.rtc.next = BitVec.ofNat 16 (u16 p 2) ∧ t.rtc.at_ = leAt p 4 6 ∧ (t.rtc.armed ↔ u8 p 10 = 1) ∧
        t.rtc.sec = s.rtc.sec))

/-! ## Network time (chapter 05) -/

/-- The commands of the time service (R160 to R162, R167, R170 to R172): the snapshot and the port blocks, a flagged jump
accepted for the edge after the next or rejected with its source, and settings that apply at the next edge. -/
def Obligations.TimeCommands : Prop :=
  ∀ (s : State) (w : Nat) (c : Cmd), Waits s w c → let p := c.payload
  (∀ dt, c.code = 0x0301 → Answers (.timeStatus w dt) s w c (fun b => b.length = 60 ∧
    Holds b 0 4 (moduleTime s dt / 2 ^ 32 / 1000000000) ∧ Holds b 16 4 s.clk.tide ∧ Holds b 24 4 (snapState s))) ∧
  (c.code = 0x0302 → u8 p 0 ≤ 13 → Answers (.timePortStatus w) s w c (fun b => b.length = 32 ∧
    Holds b 0 4 ((ptpOf s (u8 p 0)).mode + 4 * (ptpOf s (u8 p 0)).st) ∧
    Holds b 24 4 (ptpOf s (u8 p 0)).dropped.toNat)) ∧
  (∀ j, c.code = 0x0340 → s.time.jump = some j → u32 p 0 = j.id → -60000000000 ≤ j.d → j.accepted = none →
    ∃ t, exec (.timeJumpAccept w) s = .next t ∧ Answered s t w c stACCEPTED (le 8 (s.clk.tide + 2)) ∧
      t.clk.correction = some { d := j.d, cause := if j.d ≥ 0 then 1 else 2, tide := s.clk.tide + 2, src := j.src } ∧
      t.time.jump = some { j with accepted := some (jobOf w s) }) ∧
  (∀ j, c.code = 0x0341 → s.time.jump = some j → u32 p 0 = j.id →
    ∃ t, exec (.timeJumpReject w) s = .next t ∧ Answered s t w c stOK [] ∧ (srcOf t j.src).rejected = true) ∧
  (c.code = 0x0342 → timePortBad p = false →
    Accepts (.timePortSet w) s w c (.timePort (u8 p 0) (iAt p 4 4) (iAt p 8 4) (iAt p 12 4))) ∧
  (c.code = 0x0343 → timeSourceBad p = false →
    Accepts (.timeSourceSet w) s w c (.timeSource (u8 p 0) (u8 p 1) (u8 p 2) (u32 p 4))) ∧
  (c.code = 0x0344 → 50 ≤ u32 p 0 → u32 p 0 ≤ 100000 → u32 p 0 ≤ u32 p 4 → u32 p 4 ≤ 1000000000 →
    Accepts (.timeThresholdSet w) s w c (.timeThreshold (u32 p 0) (u32 p 4))) ∧
  (c.code = 0x0345 → timeOutputBad p = false →
    Accepts (.timeOutputSet w) s w c (.timeOutput (u16 p 0) (u8 p 2) (u32 p 4)))

/-- Sources of time (R41, R153 to R158, R160): a Sync in SLAVE state and a good PPS edge are measurements of their source;
a bad edge, its loss and the loss of Sync make the source invalid; the 10 MHz input is taken within 2 ppm and given up at
its loss; a better source is taken after its hold-off; a state that waits takes effect at its edge.

PTP, time stamps and the PPS output (R139 to R141, R143, R145, R147 to R150, R164): an Announce of the heard master counts
and its loss clears it; a master port answers Delay_Req, and sends Sync and Announce, in class 7; peer delay and path delay
come from the time stamps, latencies, corrections and the asymmetry; the transmit time stamp that a frame asked for enters
its port's queue or is counted as dropped; PPS_OUT rises at a whole second. -/
def Obligations.TimeUnitEvents : Prop :=
  ((∀ (s : State) (port : Nat) (m : SyncMsg) (a b : Announce), port ≤ 1 → (ptpOf s port).st = 9 →
    inDomain s port m.domain = true → qualified s port = some a → s.time.parent = some b → a.source = m.source →
    b.source = m.source →
    let t1 := stamp16 m.origin m.corr
    let t2 := stamp16 m.stamp (-(tget 0 s.par.time.ingress port))
    let d := (t1 + (ptpOf s port).meanDelay * 65536 + tget 0 s.par.time.asym port - t2) / 65536
    ∃ t, exec (.ptpSyncRx port m) s = .next t ∧ (srcOf t 1).valid = true ∧
      (srcOf t 1).meas = (d :: (srcOf s 1).meas).take 8 ∧ (ptpOf t port).lastSync = some (t1, t2)) ∧
  (∀ (s : State) (d : Int) (gap : Nat), ∃ t, exec (.extPpsEdge d gap) s = .next t ∧
    (srcOf t 3).unlabelled = decide (d.natAbs > 250000000) ∧
    if d.natAbs ≤ 250000000 ∧ 999999000 ≤ gap ∧ gap ≤ 1000001000
    then (srcOf t 3).valid = true ∧ (srcOf t 3).meas = (d :: (srcOf s 3).meas).take 8
    else (srcOf t 3).valid = false) ∧
  (∀ s : State, ∃ t, exec .extPpsLoss s = .next t ∧ (srcOf t 3).valid = false ∧ srcOf t 1 = srcOf s 1) ∧
  (∀ s : State, ∃ t, exec .ringSyncTimeout s = .next t ∧ (srcOf t 1).valid = false ∧ srcOf t 3 = srcOf s 3) ∧
  (∀ (s : State) (ppb : Int), ∃ t, exec (.ext10mAccept ppb) s = .next t ∧
    t.time.ext10m = (decide (ppb.natAbs ≤ 2000) || s.time.ext10m)) ∧
  (∀ s : State, ∃ t, exec .ext10mLoss s = .next t ∧ t.time.ext10m = false) ∧
  (∀ (s : State) (k : Nat) (d : Int), selected s ≠ 0 → selected s ≠ k → eligible s k = true →
    prio s k < prio s (selected s) → (srcOf s k).since + s.par.time.holdoff ≤ s.clk.tide → (srcOf s k).latest = some d →
    s.time.prov = false → s.time.jump = none → (d.natAbs : Int) < s.par.time.stepNs →
    ∃ t, exec (.sourceHoldoffExpiry k) s = .next t ∧ t.time.next = some (2, k) ∧ t.time.slew = d ∧
      t.clk.correction = none) ∧
  (∀ (s : State) (st src : Nat), s.time.next = some (st, src) → st ≠ 3 →
    ∃ t, exec .timeStateEdge s = .next t ∧ t.time.st = st ∧ t.time.src = src ∧ t.time.next = none)) ∧
  ((∀ (s : State) (port : Nat) (a : Announce), port ≤ 1 → inDomain s port a.domain = true →
    ∃ t, exec (.ptpAnnounceRx port a) s = .next t ∧
      heardOf t port a.source = some { announce := a, ran := s.clk.ran, heard :=
        (match heardOf s port a.source with | some f => f.heard + 1 | none => 1) }) ∧
  (∀ (s : State) (port : Nat), port ≤ 1 → (ptpOf s port).mode ≠ 0 →
    ∃ t, exec (.announceReceiptTimeout port) s = .next t ∧
      (match qualified s port with
        | some a => heardOf t port a.source = none
        | none => (ptpOf t port).foreign = [])) ∧
  (∀ (s : State) (port seq : Nat) (m : DelayReq), (ptpOf s port).mode = 1 → (ptpOf s port).st = 6 → peerDelay s port = false →
    inDomain s port m.domain = true → CanSend s port 7 (ptpSize s port 9) →
    let lat := tget 0 s.par.time.ingress port
    let r := shiftStamp m.stamp (-lat)
    ∃ t, exec (.ptpDelayReqRx port seq m) s = .next t ∧
      Sends s t port 7 (ptpSize s port 9) none (ptpMsg s port 9 seq (logDelayOf s port)
        [r.sec, r.ns, m.source, corr64 (m.corr - (-lat) % 65536)])) ∧
  (∀ (s : State) (port seq : Nat) (m : DelayReq), peerDelay s port = true → inDomain s port m.domain = true →
    CanSend s port 7 (ptpSize s port 3) →
    let lat := tget 0 s.par.time.ingress port
    let r := shiftStamp m.stamp (-lat)
    ∃ t, exec (.ptpPdelayRx port (.request seq m)) s = .next t ∧
      Sends s t port 7 (ptpSize s port 3) (some (none, seq)) (ptpMsg s port 3 seq 0x7F
        [r.sec, r.ns, m.source, corr64 (m.corr - (-lat) % 65536)])) ∧
  (∀ (s : State) (port seq d : Nat) (rc x y : Stamp) (corr : Int), peerDelay s port = true → seq = (ptpOf s port).reqSeq →
    inDomain s port d = true → (ptpOf s port).reqStamp = some y →
    let t4 := stamp16 x (-(tget 0 s.par.time.ingress port))
    (∃ t, exec (.ptpPdelayRx port (.response d seq false rc corr x)) s = .next t ∧
      (ptpOf t port).meanDelay = ((t4 - corr - stamp16 y 0 - tget 0 s.par.time.asym port) / 131072).toNat ∧
      ∀ q, q ≠ port → ptpOf t q = ptpOf s q) ∧
    (∃ t, exec (.ptpPdelayRx port (.response d seq true rc corr x)) s = .next t ∧
      (ptpOf t port).pdResp = some (stamp16 rc (-corr), t4) ∧ ∀ q, q ≠ port → ptpOf t q = ptpOf s q) ∧
    ∀ a b, (ptpOf s port).pdResp = some (a, b) → ∃ t, exec (.ptpPdelayRx port (.followUp d seq x corr)) s = .next t ∧
      (ptpOf t port).meanDelay = ((b + a - stamp16 x corr - stamp16 y 0 - tget 0 s.par.time.asym port) / 131072).toNat ∧
      (ptpOf t port).pdResp = none ∧ ∀ q, q ≠ port → ptpOf t q = ptpOf s q) ∧
  (∀ (s : State) (port seq : Nat) (m : DelayResp) (y : Stamp) (corr t1 t2 : Int), port ≤ 1 →
    inDomain s port m.domain = true → m.requester = portIdentity s port → (ptpOf s port).mode = 1 →
    (ptpOf s port).st = 9 → peerDelay s port = false → seq = (ptpOf s port).reqSeq →
    (ptpOf s port).lastSync = some (t1, t2) → (ptpOf s port).reqStamp = some y →
    ∃ t, exec (.ptpDelayRespRx port seq m corr) s = .next t ∧ (ptpOf t port).meanDelay =
      ((t2 - stamp16 y 0 + (stamp16 m.receive 0 - t1) - tget 0 s.par.time.asym port - corr) / 131072).toNat) ∧
  (∀ (s : State) (port : Nat), (ptpOf s port).mode ≠ 0 → (ptpOf s port).st = 6 →
    (CanSend s port 7 (ptpSize s port 0) → ∃ t, exec (.ptpSyncSend port) s = .next t ∧
      Sends s t port 7 (ptpSize s port 0) (some (none, (ptpOf s port).syncSeq))
        (ptpMsg s port 0 (ptpOf s port).syncSeq (logSyncOf s port) []) ∧
      (ptpOf t port).syncSeq = ((ptpOf s port).syncSeq + 1) % 65536) ∧
    (CanSend s port 7 (ptpSize s port 11) → ∃ t l, exec (.ptpAnnounceSend port) s = .next t ∧
      Sends s t port 7 (ptpSize s port 11) none
        (ptpMsg s port 11 (ptpOf s port).announceSeq (logAnnounceOf s port) ((announced s).gm :: l)) ∧
      (ptpOf t port).announceSeq = ((ptpOf s port).announceSeq + 1) % 65536)) ∧
  (∀ (s : State) (port id : Nat) (owner : Option Nat) (x : Stamp) (e : TxEntry), port ≤ 13 →
    (ptpOf s port).asked.find? (fun e => e.owner == owner && e.id == id) = some e →
    let n := ((ptpOf s port).txq.filter fun e => e.owner.isSome == owner.isSome).length
    ∃ t, exec (.txTimestampCapture port owner id x) s = .next t ∧ (ptpOf t port).asked = (ptpOf s port).asked.erase e ∧
      if n < (if owner.isSome then 24 else 8)
      then (ptpOf t port).txq = (ptpOf s port).txq ++ [{ e with stamp := shiftStamp x (tget 0 s.par.time.egress port) }] ∧
        (ptpOf t port).dropped = (ptpOf s port).dropped
      else (ptpOf t port).txq = (ptpOf s port).txq ∧ (ptpOf t port).dropped = (ptpOf s port).dropped + 1) ∧
  (∀ s : State, s.clk.running = true → s.clk.ofs = 0 → s.clk.tide % 100 = 0 → s.time.lastPps = none →
    (s.par.time.ppsMode = 0 ∨ s.time.timeQ = true) →
    ∃ t, exec .ppsOutEdge s = .next t ∧ t.out = .pps s.par.time.ppsWidth :: s.out ∧
      t.time.lastPps = some ((s.clk.tide * 10000000 : Nat) : Int)))

/-! ## Radio access (chapter 07) -/

/-- The commands of the radio service (R194, R216, R228 to R231): the transceivers, the ledgers, an entry of a node or
vehicle table and the statistics of a transceiver; a transceiver enabled or disabled at the next edge; the indirect frames
of a node cancelled; a transmit power within the cap set for the next edge. -/
def Obligations.RadioCommands : Prop :=
  ∀ (s : State) (w : Nat) (c : Cmd), Waits s w c → let p := c.payload
  (c.code = 0x0401 → Answers (.radioStatus w) s w c (fun b => b.length = 100 ∧ (∀ x, x < 12 →
    Holds b (8 * x) 1 x ∧ Holds b (8 * x + 1) 1 (stateX s x) ∧ Holds b (8 * x + 2) 1 (modeOf s x) ∧
    Holds b (8 * x + 5) 1 (chanNow s x)) ∧ Holds b 96 1 (dieState s 0) ∧ Holds b 97 1 (dieState s 1))) ∧
  (c.code = 0x0402 → s.par.radio.entries.length ≤ 8 → Answers (.radioLedger w) s w c (fun b =>
    b.length = 4 + 16 * (s.par.radio.entries.length + 1) ∧ Holds b 0 1 (s.par.radio.entries.length + 1))) ∧
  (c.code = 0x0403 → neighbourBad p = false → Answers (.radioNeighbour w) s w c (fun b =>
    let l := link s (u16 p 2 + (if u8 p 0 = 1 then 0x1000 else 0))
    b.length = 28 ∧ Holds b 0 2 (u16 p 2) ∧ Holds b 2 1 l.st ∧ Holds b 3 1 l.x ∧ Holds b 4 1 l.epoch.toNat ∧
    Holds b 8 8 l.lastAsn ∧ Holds b 16 8 l.lastRx)) ∧
  (c.code = 0x0404 → u8 p 0 ≤ 11 → Answers (.radioStats w) s w c (fun b =>
    let g := stat s (u8 p 0)
    b.length = 136 ∧ Holds b 0 8 g.endTide ∧ Holds b 8 4 g.tides ∧ Holds b 12 4 g.snapFlags.toNat ∧
    ∀ i, i < 15 → Holds b (16 + 8 * i) 4 (tget 0 g.snapCtr i) ∧ Holds b (20 + 8 * i) 4 (tget 0 g.snapTotal i))) ∧
  (c.code = 0x0440 → u8 p 0 ≤ 11 → u8 p 1 ≤ 1 → deadX s (u8 p 0) = false →
    (u8 p 1 = 1 ∨ (u8 p 0 < 8 ∧ stayingSub s ≠ [u8 p 0])) →
    Switches (.radioEnable w) s w c (.radio (u8 p 0)) (decide (u8 p 1 = 1))) ∧
  (c.code = 0x0441 → u16 p 0 ≤ 4095 →
    let n := (s.radio.indirect.filter fun f => f.node == u16 p 0).length
    ∃ t, exec (.radioNeighbourFlush w) s = .next t ∧ Answered s t w c stOK (le 2 n ++ le 2 0) ∧
      t.radio = { s.radio with indirect := s.radio.indirect.filter fun f => f.node != u16 p 0
                               returned := List.replicate n (u16 p 0, stCANCELLED) ++ s.radio.returned }) ∧
  (c.code = 0x0442 → u8 p 0 ≤ 11 → -10 ≤ iAt p 1 1 → iAt p 1 1 ≤ capOf s (u8 p 0) →
    Accepts (.radioPowerSet w) s w c (.radioPower (u8 p 0) (iAt p 1 1)))

/-- The dies, their tide messages and the ledgers (R27, R48, R216, R219, R227): TIDE_MESSAGE_SEND names the next tide to the
dies of its mask; RADIO_DIE_FAIL declares a die failed after two edges with its link down or three strobe faults, and
restarts it; RADIO_DIE_RESTORE brings a restarted die back for the next edge; LEDGER_SECOND takes the oldest second of airtime
out of every ledger at a whole second; INDIRECT_FRAME_EXPIRY returns the frames whose expiry tide has passed with TIMEOUT;
FRAME_LOAD loads the cells of the next tide, in which a beacon keeps its cell. -/
def Obligations.DiesAndLedgers : Prop :=
  (∀ (s : State) (m : BitVec 2), ∃ t, exec (.tideMessageSend m) s = .next t ∧ ∀ d, d < 2 →
    Output.die d 0 (nextTide s) ∈ t.out ∧
    tget 0 t.clk.msg d = if m.getLsbD d then nextTide s + 1 else tget 0 s.clk.msg d) ∧
  (∀ (s : State) (d : Nat), d < 2 → (die s d).st ≠ 2 → (die s d).moving = false →
    (2 ≤ (die s d).down ∨ 3 ≤ (die s d).faults) → ∃ t, exec (.radioDieFail d) s = .next t ∧
    die t d = { die s d with faults := 0, moving := true, loaded := false } ∧ dieState t d = 2 ∧ onAir t (4 * d) = false ∧
    (∀ e, e ≠ d → die t e = die s e) ∧ t.radio.links = s.radio.links) ∧
  (∀ (s : State) (d : Nat), d < 2 → (die s d).st = 2 → (die s d).back = false →
    ∃ t, exec (.radioDieRestore d) s = .next t ∧
    die t d = { die s d with faults := 0, loaded := true, back := true } ∧ ∀ e, e ≠ d → die t e = die s e) ∧
  (∀ (s : State) (e budget : Nat), s.clk.tide % 100 = 0 → (e < s.par.radio.entries.length ∨ e = 8) →
    (entryOf s e).budgetUs = some budget →
    let b := (s.clk.tide / 100) % (entryOf s e).windowS
    let left := (ledger s e).used - tget 0 (ledger s e).bins b
    ∃ t, exec .ledgerSecond s = .next t ∧ (ledger t e).used = left ∧ tget 0 (ledger t e).bins b = 0 ∧
      (10 * left ≤ 9 * (budget - reserveOf (entryOf s e)) → (ledger t e).st = 0)) ∧
  (∀ (s : State) (n : Nat), ∃ t, exec (.indirectFrameExpiry n) s = .next t ∧
    t.radio.indirect = s.radio.indirect.filter (fun f => !(f.node == n && decide (f.expiry < s.clk.tide))) ∧
    t.radio.returned.length + t.radio.indirect.length = s.radio.returned.length + s.radio.indirect.length ∧
    Only [.radio] s t) ∧
  (∀ s : State, ∃ t, exec .frameLoad s = .next t ∧ t.radio.cellTide = nextTide s ∧ t.radio.next = [] ∧
    t.radio.waiting = [] ∧ ∀ x, x < 12 →
      (liveX s x = false → tget .idle t.radio.cells x = .idle) ∧
      (ebCell s x (nextTide s) = true → tget .idle t.radio.cells x = .eb))

/-! ## Frames on air (chapters 07, 08 and 11) -/

/-- What a transceiver sends (R199, R205, R208 to R210, R217, R219, R366, R375): a scheduled frame or a beacon goes out in
its cell with its airtime charged, a busy channel returns the frame with BUSY, slot 3 runs the cells of the 2.4 GHz
transceivers, and horns go out in slot 0 on every live one and out of tide on each that still waits. -/
def Obligations.FramesSent : Prop :=
  (∀ (s : State) (x : Nat) (f : CellFrame), x < 8 → cellNow s x = .send f → maySend s x = true → f.kind = .broadcast →
    (ledgerAdmits x (entryX s x) (airX s x f.psdu.length) .other s).1 = true →
    ∃ t, exec (.subghzCellTx x false) s = .next t ∧ t.out = .radio x s.clk.tide 0 f.psdu :: s.out ∧
      t.radio.returned = (f.node, stOK) :: s.radio.returned ∧ cellNow t x = .idle ∧
      (∀ b, (entryOf s (entryX s x)).budgetUs = some b →
        (ledger t (entryX s x)).used = (ledger s (entryX s x)).used + airX s x f.psdu.length) ∧
      ∀ y, y ≠ x → cellNow t y = cellNow s y) ∧
  (∀ (s : State) (x : Nat) (f : CellFrame), x < 8 → cellNow s x = .send f → maySend s x = true → f.kind = .broadcast →
    (entryOf s (entryX s x)).lbt = true →
    ∃ t, exec (.subghzCellTx x true) s = .next t ∧ t.out = s.out ∧ t.radio.ledgers = s.radio.ledgers ∧
      t.radio.returned = (f.node, stBUSY) :: s.radio.returned ∧ cellNow t x = .idle) ∧
  (∀ (s : State) (x : Nat), x < 8 → cellNow s x = .eb → maySend s x = true → s.sys.hmRuns = true →
    ctrlFits (112 + dieOf x) (berths (ebBytes s x).length) s = true →
    (∀ b, (entryOf s (entryX s x)).budgetUs = some b →
      (ledger s (entryX s x)).used + airX s x (ebBytes s x).length ≤ b - reserveOf (entryOf s (entryX s x))) →
    ∃ t, exec (.subghzCellTx x false) s = .next t ∧ .radio x s.clk.tide 0 (ebBytes s x) ∈ t.out) ∧
  (∀ (s : State) (j : Nat) (f : CellFrame), j < 4 → (∀ i, i < 4 → i ≠ j → cellNow s (8 + i) = .idle) →
    cellNow s (8 + j) = .send f → maySend s (8 + j) = true → f.kind = .broadcast →
    (ledgerAdmits (8 + j) (entryX s (8 + j)) (airX s (8 + j) f.psdu.length) .other s).1 = true →
    ∃ t, exec (.hbSlotStart 3 0) s = .next t ∧ t.out = .radio (8 + j) s.clk.tide 3 f.psdu :: s.out ∧
      t.radio.returned = (f.node, stOK) :: s.radio.returned) ∧
  (∀ s : State, s.fleet.horn.tide = s.clk.tide → s.sys.hmRuns = true → (∀ j ∈ liveHb s, maySend s (8 + j) = true) →
    ∃ t, exec (.hornTransmit 0) s = .next t ∧ t.fleet.ootWait = 0 ∧
      ∀ j ∈ liveHb s, Output.radio (8 + j) s.clk.tide 0 (hornBytes s j s.fleet.horn) ∈ t.out) ∧
  (∀ (s : State) (j us : Nat), j < 4 → s.fleet.ootWait.getLsbD j = true → maySend s (8 + j) = true →
    s.sys.hmRuns = true → us + 1920 ≤ 7500 →
    ctrlFits (112 + dieOf (8 + j)) (berths (hornBytes s j s.fleet.oot).length) s = true →
    ∃ t, exec (.ootHornTransmit j us) s = .next t ∧ t.fleet.ootSent = true ∧
      .radio (8 + j) s.clk.tide 0 (hornBytes s j s.fleet.oot) ∈ t.out ∧
      (∀ n, n ∈ [1, 2, 3] → (2500 * n < us + 1920 ∧ us < 2500 * (n + 1)) → (8 + j, n) ∈ t.fleet.lost) ∧
      ∀ i, i < 4 → t.fleet.ootWait.getLsbD i = (s.fleet.ootWait.getLsbD i && decide (i ≠ j))) ∧
  (∀ (s : State) (j : Nat), j < 4 → s.fleet.ootWait.getLsbD j = true →
    ∃ t, exec (.ootHornCcaTimeout j) s = .next t ∧ t.out = s.out ∧
      ∀ i, i < 4 → t.fleet.ootWait.getLsbD i = (s.fleet.ootWait.getLsbD i && decide (i ≠ j)))

/-- What a transceiver receives (R211 to R214, R222, R379): a secured frame of a placed node whose ASN is newer than any
accepted one is recorded in its entry, and one that is not newer changes no entry and enters no queue; a vehicle's
acknowledgement in its answer cell is recorded in its entry and with the vehicle; an acknowledgement ends a run of failures,
and a transmission or a receive cell without an answer adds one, the third of which sets ADRIFT. -/
def Obligations.FramesReceived : Prop :=
  (∀ (s : State) (x : Nat) (f : RadioFrame), x < 12 → (x < 8 ∨ f.slot = 3) →
    receives s x f.slot (cellNow s x) = true → taken s x f = false → inWindow s x (cellNow s x) f = true → f.fcsOk = true →
    passes s x f = true → f.isHorn = false → f.isEb = false → f.srcExt = false → f.src ≤ 4095 →
    2 ≤ (link s f.src).st → (link s f.src).x = x → (f.level = 5 ∨ f.level = 6) → f.micOk = true →
    let asn := if x < 8 then asnSub s.clk.tide else asnHb s.clk.tide f.slot
    ∃ t, exec (.radioFrameRx x f) s = .next t ∧ (∀ b, b ≠ f.src → link t b = link s b) ∧
      if (link s f.src).lastAsn < asn then
        (link t f.src).lastAsn = asn ∧ (link t f.src).lastDsn = f.dsn ∧ (link t f.src).err = f.errUs ∧
        (link t f.src).lastRx = s.clk.tide ∧ (link t f.src).fails = 0 ∧
        (link t f.src).st = (if 250 < f.errUs.natAbs then 3 else 2)
      else link t f.src = link s f.src ∧ t.pool = s.pool) ∧
  (∀ (s : State) (x slot : Nat) (f : RadioFrame), 8 ≤ x → x < 12 → (slot = 1 ∨ slot = 2) → onAir s x = true →
    taken s x { f with slot } = false → inWindow s x .shared f = true → f.fcsOk = true → passes s x f = true → f.srcExt = false → 0x1000 ≤ f.src → f.src < 0x1100 →
    vehicleCfg s (f.src - 0x1000) = true → answerCell s (f.src - 0x1000) s.clk.tide = some (x - 8, slot) →
    (link s f.src).st ≠ 0 → (link s f.src).x = x → (f.level = 5 ∨ f.level = 6) → f.micOk = true →
    (link s f.src).lastAsn < asnHb s.clk.tide slot → f.dsn ≠ (link s f.src).lastDsn →
    (poolTakes (rxMeta x (asnHb s.clk.tide slot) f.src false f s) f s).1 = true → f.payload.length = 20 → u8 f.payload 0 = 3 → u8 f.payload 1 = f.src - 0x1000 →
    ∃ t, exec (.vehicleAckRx x slot f) s = .next t ∧ (link t f.src).lastAsn = asnHb s.clk.tide slot ∧
      (link t f.src).st = 2 ∧ (veh t (f.src - 0x1000)).lastAck = s.clk.tide ∧
      (veh t (f.src - 0x1000)).answered = true ∧ (veh t (f.src - 0x1000)).missed = 0 ∧
      (veh t (f.src - 0x1000)).cell = u16 f.payload 10 ∧ (veh t (f.src - 0x1000)).ackState = u8 f.payload 8 ∧
      ∀ v, v ≠ f.src - 0x1000 → veh t v = veh s v) ∧
  (∀ (s : State) (x n : Nat) (err : Int), (lnode s n).join = none → (lnode s n).leaving = false → s.radio.waiting.contains (x, n) = true →
    (link s n).x = x → 2 ≤ (link s n).st →
    ∃ t, exec (.enhAckRx x n err) s = .next t ∧ t.radio.returned = (n, stOK) :: s.radio.returned ∧
      t.radio.waiting = s.radio.waiting.filter (fun y => y != (x, n)) ∧ (link t n).fails = 0 ∧ (link t n).err = err ∧
      (link t n).st = (if 250 < err.natAbs then 3 else 2)) ∧
  (∀ (s : State) (x n : Nat), (lnode s n).join = none → (lnode s n).leaving = false → s.radio.waiting.contains (x, n) = true → 2 ≤ (link s n).st →
    ∃ t, exec (.ackTimeout x n) s = .next t ∧ t.radio.returned = (n, stTIMEOUT) :: s.radio.returned ∧
      (link t n).fails = (link s n).fails + 1 ∧
      (link t n).st = (if 2 ≤ (link s n).fails then 4 else (link s n).st)) ∧
  (∀ (s : State) (x n : Nat), cellNow s x = .receive n → onAir s x = true → (link s n).x = x → 2 ≤ (link s n).st →
    s.radio.heard.contains (x, n) = false →
    ∃ t, exec (.rxWindowEnd x n) s = .next t ∧ (link t n).fails = (link s n).fails + 1 ∧
      (link t n).st = (if 2 ≤ (link s n).fails then 4 else (link s n).st))

/-! ## Lantern network control (chapter 08) -/

/-- The commands of the lantern service (R250, R251, R254, R263, R272 to R275): the status, a node, a feeder's balance;
levels, scenes and floors that wait for their confirmations; a detection; a move and a removal of a node; a rule set for
the next edge, and bow waves stopped or started at it. -/
def Obligations.LanternCommands : Prop :=
  ∀ (s : State) (w : Nat) (c : Cmd), Waits s w c → let p := c.payload
  (c.code = 0x0501 → Answers (.lantStatus w) s w c (fun b => b.length = 32 ∧ Holds b 10 2 s.lantern.generation.toNat ∧
    Holds b 16 4 s.lantern.stale.toNat ∧ Holds b 20 4 s.lantern.joinUnknown.toNat ∧
    Holds b 28 4 s.lantern.malformed.toNat)) ∧
  (c.code = 0x0502 → u16 p 0 ≤ 4095 → Answers (.lantNode w) s w c (fun b => let e := lnode s (u16 p 0)
    b.length = 58 ∧ Holds b 0 2 (u16 p 0) ∧ Holds b 2 1 e.st ∧ Holds b 4 8 e.eui ∧ Holds b 22 2 e.level ∧
    Holds b 34 8 e.lastFrame ∧ Holds b 50 6 e.energy)) ∧
  (c.code = 0x0503 → u8 p 0 ≤ 11 → Answers (.lantBalance w) s w c (fun b => let x := balanceOf s (u8 p 0)
    b.length = 52 ∧ Holds b 1 1 x.result ∧ Holds b 4 8 x.endTide ∧ Holds b 20 8 x.nodeSum ∧ Holds b 46 2 x.missing)) ∧
  (s.cluster.st ≠ 1 →
  (c.code = 0x0540 → lantLevelBad p = false → u8 p 0 = 0 → tideLimit (u64 p 8) s = stOK → (lnode s (u16 p 2)).st ≠ 0 →
    let id := newCmdId s
    ∃ t, exec (.lantLevel w) s = .next t ∧ Answered s t w c stACCEPTED [] ∧ t.lantern.cmdId = id ∧
      t.lantern.waits = s.lantern.waits ++
        [{ job := jobOf w s, limit := s.clk.tide + 6000, cmdId := id, targets := [u16 p 2], floor := none }] ∧
      t.lantern.down = s.lantern.down ++
        [{ node := u16 p 2, x := 0, kind := (if u64 p 8 = 0 then 0x10 else 0x11), left := 3, dsn := s.lantern.dsn + 1
           body := le 1 id ++ ((if u64 p 8 = 0 then [] else le 4 (u64 p 8)) ++ le 2 (u16 p 4) ++ le 2 (u16 p 6)) }]) ∧
  (c.code = 0x0541 → u8 p 0 ≤ 254 → u8 p 1 ≤ 15 → tideLimit (u64 p 4) s = stOK →
    let ns := (groupNodes s (u8 p 0)).filter fun n => decide ((lnode s n).version ≥ 2)
    ns ≠ [] → ∃ t, exec (.lantScene w) s = .next t ∧ Answered s t w c stACCEPTED [] ∧
      t.lantern.waits = s.lantern.waits ++ [{ job := jobOf w s, limit := s.clk.tide + 6000, cmdId := 256, targets := ns }] ∧
      ∀ m ∈ t.lantern.down, m ∈ s.lantern.down ∨
        (m.node = 0xFFFF ∧ m.kind = 0x14 ∧ m.body = le 1 (u8 p 0) ++ le 1 (u8 p 1) ++ le 4 (u64 p 4))) ∧
  (c.code = 0x0542 → u16 p 0 ≤ 1023 → 1 ≤ u8 p 2 → u8 p 2 ≤ 5 → s.clk.tide ≤ u64 p 8 + 100 →
    u64 p 8 ≤ s.clk.tide + 8640000 →
    let d : Detection := { source := 2, id := u16 p 0, cls := u8 p 2, tide := u64 p 8, ran := s.clk.ran }
    ∃ t, exec (.lantDetect w) s = .next t ∧ Answered s t w c stOK (le 2 (matching d s).length ++ le 2 0) ∧
      t.lantern = { s.lantern with inputs := s.lantern.inputs ++ [d] }) ∧
  (c.code = 0x0543 → u16 p 2 % 1024 ≤ 1000 → u16 p 4 % 1024 ≤ 1000 →
    let ns := (if u8 p 0 = 255 then usedNodes s else groupNodes s (u8 p 0)).filter fun n => decide ((lnode s n).version ≥ 2)
    ns ≠ [] → ∃ t, exec (.lantFloorSet w) s = .next t ∧ Answered s t w c stACCEPTED [] ∧
      t.lantern.waits = s.lantern.waits ++ [{ job := jobOf w s, limit := s.clk.tide + 6000, cmdId := newCmdId s,
                                              targets := ns, floor := some (u16 p 2) }] ∧
      t.lantern.down.length = s.lantern.down.length + ns.length ∧ t.lantern.nodes = s.lantern.nodes) ∧
  (c.code = 0x0544 → u16 p 0 ≤ 4095 → u8 p 2 ≤ 7 → (lnode s (u16 p 0)).st ≠ 0 → liveX s (u8 p 2) = true →
    fits s (lnode s (u16 p 0)).version (u8 p 2) = true → (lnode s (u16 p 0)).move = none →
    ∃ t, exec (.lantMove w) s = .next t ∧ Answered s t w c stACCEPTED [] ∧ t.radio = s.radio ∧
      (lnode t (u16 p 0)).move = some { x := u8 p 2, fromTide := s.clk.tide + 4, job := some (jobOf w s) } ∧
      ∀ n, n ≠ u16 p 0 → lnode t n = lnode s n) ∧
  (c.code = 0x0545 → u16 p 0 ≤ 4095 → (lnode s (u16 p 0)).st ≠ 0 →
    ∃ t, exec (.lantRemove w) s = .next t ∧ Answered s t w c stOK [] ∧
      lnode t (u16 p 0) = { lnode s (u16 p 0) with removing := true } ∧ (∀ n, n ≠ u16 p 0 → lnode t n = lnode s n) ∧
      t.lantern.down = s.lantern.down ++ 
        [{ node := u16 p 0, kind := 0x06, body := le 1 (drawn s % 256), left := 3, dsn := s.lantern.dsn + 1 }]) ∧
  (c.code = 0x0546 → u16 p 0 ≤ 1023 → u8 p 2 ≤ 1 →
    Accepts (.lantRuleEnable w) s w c (.ruleEnable (u16 p 0) (decide (u8 p 2 = 1)))) ∧
  (c.code = 0x0547 → u8 p 0 ≤ 1 → Switches (.lantBowwaveEnable w) s w c .bowWave (decide (u8 p 0 = 1))))

/-- What end nodes send (R64, R234, R237, R241, R244, R246, R247, R256, R258): a JOIN of a configured EUI-64 takes the
highest version that both sides allow and makes an entry; a STATUS of the current placement makes the node ACTIVE and an
older one changes no entry; a confirmation ends what waited for it; an energy report, a fault and a detection are kept.

What becomes of silent nodes, of waits and of the feeder balance (R247, R266, R270 to R272, R586): a node heard of too
long ago is LOST; a wait ends at its limit; a firmware status that reports every block makes the node HELD, and another
names the blocks it lacks; a balance without reports at both ends is incomplete, and one with them has the residual of
its import, node sum and allowance. -/
def Obligations.NodeTraffic : Prop :=
  ((∀ (s : State) (x eui v : Nat) (p : List Byte) (c : NodeCfg), s.cluster.st = 2 → x < 8 → fits s v x = true →
    p.length = 12 → u8 p 1 ≤ 2 → s.par.lantern.nodes.find? (fun c => c.eui == eui) = some c →
    joinVersion (u8 p 0) s.par.lantern.versions = some v → (lnode s c.node).st = 0 →
    ∃ t, exec (.nodeJoin x eui p) s = .next t ∧ (lnode t c.node).st = 1 ∧ (lnode t c.node).version = v ∧
      (lnode t c.node).eui = eui ∧ (lnode t c.node).cls = u8 p 1 ∧ (lnode t c.node).hw = u16 p 2 ∧
      (lnode t c.node).fwVersion = u32 p 4 ∧ (link t c.node).st = 1 ∧ (link t c.node).x = x ∧
      (lnode t c.node).join = some { x, nonce := u32 p 8, again := false, key := le 8 (drawn s) ++ le 8 (drawn (draw s)) } ∧
      ∀ n, n ≠ c.node → lnode t n = lnode s n) ∧
  (∀ (s : State) (x eui : Nat) (p : List Byte), s.cluster.st = 2 → x < 8 → takesJoins s x = true → p.length = 12 →
    u8 p 1 ≤ 2 → s.par.lantern.nodes.find? (fun c => c.eui == eui) = none →
    ∃ t, exec (.nodeJoin x eui p) s = .next t ∧ t.lantern = { s.lantern with joinUnknown := s.lantern.joinUnknown + 1 } ∧
      t.radio = s.radio) ∧
  (∀ (s : State) (n epoch : Nat) (p : List Byte), hears n s = true → (lnode s n).st ≤ 4 → p.length = 16 →
    u8 p 6 < 8 → u8 p 6 % 4 ≠ 3 →
    ∃ t, exec (.nodeStatus n epoch p) s = .next t ∧
      if fresh n epoch (fullTide s.clk.tide (u32 p 0)) s = true then
        (lnode t n).st = 2 ∧ (lnode t n).lastFrame = s.clk.tide ∧ (lnode t n).level = u16 p 4 ∧
        (lnode t n).nodeState = u8 p 6 % 4 ∧ (lnode t n).faults.toNat = u16 p 7 ∧ (lnode t n).generation = u16 p 9 ∧
        (lnode t n).recallGen = u16 p 11 ∧ (lnode t n).fwSlot = u8 p 15 ∧ ∀ m, m ≠ n → lnode t m = lnode s m
      else t.lantern.nodes = s.lantern.nodes ∧ t.lantern.staleDropped = s.lantern.staleDropped + 1) ∧
  (∀ (s : State) (n epoch tide : Nat) (p : List Byte), hears n s = true → p.length = 4 → u8 p 1 ≤ 3 →
    fresh n epoch tide s = true →
    ∃ t, exec (.nodeConfirm n epoch tide p) s = .next t ∧ (lnode t n).lastFrame = s.clk.tide ∧
      (∀ x ∈ t.lantern.waits, x.cmdId = u8 p 0 → n ∉ x.targets ∧ x.targets ≠ []) ∧
      ∀ x ∈ s.lantern.waits, x.cmdId ≠ u8 p 0 → x ∈ t.lantern.waits) ∧
  (∀ (s : State) (n epoch : Nat) (p : List Byte), hears n s = true →
    p.length = (if (lnode s n).version = 3 then 21 else 15) → u8 p 14 ≤ 3 →
    ∃ t, exec (.nodeEnergy n epoch p) s = .next t ∧ (lnode t n).energy = leAt p 4 6 ∧ (lnode t n).burnHours = u32 p 10 ∧
      (lnode t n).lastEnergy = fullTide s.clk.tide (u32 p 0) ∧ (lnode t n).lastFrame = s.clk.tide ∧
      ∀ m, m ≠ n → lnode t m = lnode s m) ∧
  (∀ (s : State) (n epoch : Nat) (p : List Byte), hears n s = true → p.length = 7 → 1 ≤ u8 p 4 → u8 p 4 ≤ 11 →
    ∃ t, exec (.nodeFault n epoch p) s = .next t ∧
      (lnode t n).faults = (lnode s n).faults ||| ((1 : BitVec 16) <<< (u8 p 4 - 1)) ∧
      ∀ m, m ≠ n → lnode t m = lnode s m) ∧
  (∀ (s : State) (n epoch : Nat) (p : List Byte), hears n s = true → p.length = 8 → 1 ≤ u8 p 5 → u8 p 5 ≤ 5 →
    2 ≤ (lnode s n).version →
    ∃ t, exec (.nodeDetect n epoch p) s = .next t ∧ t.lantern.inputs = s.lantern.inputs ++
      [{ source := 1, id := n, channel := u8 p 4, cls := u8 p 5, tide := fullTide s.clk.tide (u32 p 0), ran := s.clk.ran }])) ∧
  ((∀ (s : State) (n : Nat), ((lnode s n).st = 2 ∨ (lnode s n).st = 3) →
    ∃ t, exec (.nodeLostTimeout n) s = .next t ∧
      (lnode t n).st = (if (lnode s n).lastFrame + s.par.lantern.lostTides ≤ s.clk.tide then 4 else (lnode s n).st) ∧
      ∀ m, m ≠ n → lnode t m = lnode s m) ∧
  (∀ (s : State) (w seq : Nat) (x : LampWait),
    s.lantern.waits.find? (fun x => x.job.win == w && x.job.seq == seq && decide (x.limit ≤ s.clk.tide)) = some x →
    ∃ t, exec (.lantCommandTimeout w seq) s = .next t ∧ t.lantern = { s.lantern with waits := s.lantern.waits.erase x }) ∧
  (∀ (s : State) (n epoch tide : Nat) (p : List Byte), hears n s = true → p.length = 16 → fresh n epoch tide s = true →
    (cnode s n).campaign ≠ 0xFF → (cnode s n).st = 1 → u16 p 0 = (camp s (cnode s n).campaign).tag →
    ∃ t, exec (.fwStatus n epoch tide p) s = .next t ∧
      (blocksOf s (cnode s n).campaign ≤ leAt p 2 3 → (cnode t n).st = 2 ∧ (cnode t n).blocks = leAt p 2 3) ∧
      (leAt p 2 3 < blocksOf s (cnode s n).campaign → leAt p 2 3 ≠ 0 → (cnode t n).st = 1 ∧
        (cnode t n).blocks = leAt p 2 3 ∧
        (cnode t n).todo = missingOf (blocksOf s (cnode s n).campaign) (leAt p 5 3) (leAt p 8 8))) ∧
  (∀ (s : State) (f e : Nat) (total : Int) (older : List (Nat × Int)), f ≤ 11 → s.cluster.st = 2 →
    (tget [] s.lantern.imports f).dropWhile (fun x => decide (s.clk.tide < x.1 + s.par.lantern.reportWindow)) =
      (e, total) :: older →
    (balanceOf s f).endTide < e →
    let ns := (s.par.lantern.nodes.filter fun c => c.feeder == f && (lnode s c.node).st != 0).map (·.node)
    let spans := [1, 2, 3, 4].filter fun k => spanOk s ns (e - k * s.par.meter.len) e &&
      older.any fun x => x.1 == e - k * s.par.meter.len
    ∃ t, exec (.balanceEvaluation f) s = .next t ∧ (balanceOf t f).endTide = e ∧ (balanceOf t f).nodes = ns.length ∧
      (spans = [] → (balanceOf t f).result = 4) ∧
      (∀ k ks, spans = k :: ks → let b := balanceOf t f
        b.intervals = k ∧ b.residual = b.imported - b.nodeSum - b.allowance ∧
        let tol : Int := b.imported * s.par.lantern.tolPpm / 1000000 + s.par.lantern.tolAbs
        b.result = (if (b.residual.natAbs : Int) > tol then (if b.residual > 0 then 2 else 3) else 1)) ∧
      ∀ g, g ≠ f → balanceOf t g = balanceOf s g))

/-! ## Berth pool, queue windows and lighters (chapter 13) -/

/-- The commands of the pool service (R432, R434, R449 to R453): the pool, a queue, its statistics and a lighter channel; a
queue window and a host lighter channel bound at once to the session, and released at the next edge.

Error correction and transmit time stamps (R151, R431): a corrected error is counted and the third in a row retires its
berth, an uncorrected one is counted and the second retires it; every time stamp queue is emptied, and the stamp of a Sync
of the module's own goes out in its Follow_Up. -/
def Obligations.Pool : Prop :=
  (∀ (s : State) (w : Nat) (c : Cmd), Waits s w c → let p := c.payload
  let me := some (w, (win s w).sid)
  (c.code = 0x0A01 → Answers (.poolStatus w) s w c (fun b => b.length = 32 ∧ Holds b 4 4 (sharedFree s) ∧
    Holds b 8 4 (sharedSize s) ∧ Holds b 14 2 s.pool.retired.length)) ∧
  (c.code = 0x0A02 → u16 p 0 ≤ 255 → Answers (.queueStatus w) s w c (fun b => b.length = 24 ∧
    Holds b 0 2 (u16 p 0) ∧ Holds b 4 4 (used s (u16 p 0)) ∧ Holds b 12 4 (qMax s (u16 p 0)) ∧
    Holds b 16 4 (poolQ s (u16 p 0)).high ∧ Holds b 20 4 (poolQ s (u16 p 0)).refused.toNat)) ∧
  (c.code = 0x0A03 → Answers (.poolStats w) s w c (fun b => b.length = 136 ∧ Holds b 0 8 (stat s 30).endTide ∧
    ∀ i, i < 15 → Holds b (16 + 8 * i) 4 (tget 0 (stat s 30).snapCtr i))) ∧
  (c.code = 0x0A04 → u8 p 0 ≤ 31 → Answers (.lighterStatus w) s w c (fun b => b.length = 16 ∧
    Holds b 0 1 (u8 p 0) ∧ Holds b 4 4 (ltOf s (u8 p 0)).bursts.toNat ∧ Holds b 8 8 (ltOf s (u8 p 0)).bytes)) ∧
  (c.code = 0x0A40 → qwBindBad p = false → u8 p 1 = 1 → heldByOther (qwinOf s (u8 p 0)).owner w s = false →
    ∃ t, exec (.qwBind w) s = .next t ∧ Answered s t w c stOK (le 8 0) ∧ t.switches = s.switches ∧
      qwinOf t (u8 p 0) = { qwinOf s (u8 p 0) with owner := me, rxLimit := u16 p 2, txPorts := BitVec.ofNat 16 (u16 p 4) } ∧
      ∀ q, q ≠ u8 p 0 → qwinOf t q = qwinOf s q) ∧
  (c.code = 0x0A40 → qwBindBad p = false → u8 p 1 = 0 → (qwinOf s (u8 p 0)).owner = me →
    Switches (.qwBind w) s w c (.queueWindow (u8 p 0)) false) ∧
  (c.code = 0x0A41 → u8 p 0 ≤ 7 → u8 p 1 = 1 → heldByOther (ltOf s (u8 p 0)).owner w s = false → (win s w).origin = 1 →
    ∃ t, exec (.ltBind w) s = .next t ∧ Answered s t w c stOK (le 8 0) ∧ t.switches = s.switches ∧
      ltOf t (u8 p 0) = { ltOf s (u8 p 0) with owner := me } ∧ ∀ n, n ≠ u8 p 0 → ltOf t n = ltOf s n) ∧
  (c.code = 0x0A41 → u8 p 0 ≤ 7 → u8 p 1 = 0 → (ltOf s (u8 p 0)).owner = me →
    Switches (.ltBind w) s w c (.lighter (u8 p 0)) false)) ∧
  ((∀ (s : State) (b k : Nat), ∃ t, exec (.eccScrub { scrub := true, corrected := [(b, k)], uncorrected := [] }) s = .next t ∧
    t.pool.eccCorrected = s.pool.eccCorrected + 1 ∧
    let n := ((s.pool.corrected.find? fun x => x.1 == (b, k)).map (·.2)).getD 0
    t.pool.corrected = [((b, k), n + 1)] ∧
    (2 ≤ n → s.pool.retired.length < 1024 → b ∈ t.pool.retired) ∧ (n < 2 → t.pool.retired = s.pool.retired)) ∧
  (∀ (s : State) (b : Nat) (scrub : Bool), ∃ t, exec (.eccScrub { scrub, corrected := [], uncorrected := [b] }) s = .next t ∧
    t.pool.eccUncorrected = s.pool.eccUncorrected + 1 ∧ b ∈ t.pool.suspect ∧
    (b ∈ s.pool.suspect → s.pool.retired.length < 1024 → b ∈ t.pool.retired) ∧
    ∀ id, storedAt s b = some id → (tget ({} : Stored) s.pool.store id).refs ≠ 0 →
      (∀ q, 112 ≤ q → q < 128 → (poolQ s q).entries = []) → (tget ({} : Stored) t.pool.store id).bad = true) ∧
  (∀ (s : State) (a b : Nat) (scrub : Bool),
    ∃ t, exec (.eccScrub { scrub, corrected := [], uncorrected := [], linkCorrected := a, linkUncorrected := b }) s = .next t ∧
      t.pool.eccCorrected = s.pool.eccCorrected + BitVec.ofNat 32 a ∧
      t.pool.eccUncorrected = s.pool.eccUncorrected + BitVec.ofNat 32 b ∧ t.pool.retired = s.pool.retired ∧
      t.pool.store = s.pool.store) ∧
  (∀ s : State, ∃ t, exec .txTimestampDrain s = .next t ∧ ∀ p, p < 14 → (ptpOf t p).txq = [] ∧
    (ptpOf t p).dropped = (ptpOf s p).dropped) ∧
  (∀ (s : State) (p : Nat) (e : TxEntry), p < 14 → (ptpOf s p).txq = [e] → e.owner = none → e.kind = 0 →
    (∀ q, q ≠ p → (ptpOf s q).txq = []) → CanSend s p 7 (ptpSize s p 8) →
    ∃ t, exec .txTimestampDrain s = .next t ∧
      Sends s t p 7 (ptpSize s p 8) none (ptpMsg s p 8 e.id (logSyncOf s p) [e.stamp.sec, e.stamp.ns])))

/-- The queue windows (R433 to R438): a read of data pops four bytes of the head record, or repeats the last word and counts
an underrun on an empty window; a tagged read pops three, or answers zero; a skip releases the head record; written words
collect in the transmit record, whose end accepts it or refuses it with a reason.

The host lighter channels (R440 to R449): LT_CTRL enables and disables a channel; LT_TAIL and the ring registers are
taken in range while it is disabled; a burst of a receive descriptor, in the channel's turn, writes the head record to host
memory; a record whose next buffer does not come is truncated, and a completion that does not come stops the channel. -/
def Obligations.WindowsAndLighters : Prop :=
  ((∀ (s : State) (o : Origin) (w : Nat), qwProper o w s = true → ltServes s w = false →
    (poolQ s (128 + w)).entries = [] →
    (∃ t, exec (.qwDataRead o w) s = .next t ∧ t.out = .read o (qwBase w + 0x10) (qwinOf s w).last :: s.out ∧
      (qwinOf t w).underrun = true ∧ (qwinOf t w).underruns = (qwinOf s w).underruns + 1) ∧
    ∃ t, exec (.qwTaggedRead o w) s = .next t ∧ t.out = .read o (qwBase w + 0x14) 0 :: s.out ∧ t.pool = s.pool) ∧
  (∀ (s : State) (o : Origin) (w : Nat) (e : Entry) (r : List Entry), qwProper o w s = true → ltServes s w = false →
    (poolQ s (128 + w)).entries = e :: r → isBad s e = false →
    let pos := (qwinOf s w).pos
    (∃ t, exec (.qwDataRead o w) s = .next t ∧
      Output.read o (qwBase w + 0x10) (BitVec.ofNat 32 (leAt (slice e.bytes pos 4) 0 4)) ∈ t.out ∧
      if e.bytes.length ≤ pos + 4 then (poolQ t (128 + w)).entries = r ∧ (qwinOf t w).pos = 0
      else (poolQ t (128 + w)).entries = e :: r ∧ (qwinOf t w).pos = pos + 4) ∧
    ∃ t, exec (.qwTaggedRead o w) s = .next t ∧
      Output.read o (qwBase w + 0x14) (BitVec.ofNat 32 (leAt (slice e.bytes pos 3) 0 3 +
        0x1000000 * (slice e.bytes pos 3).length + 0x40000000 * bit (decide (pos + 3 ≥ e.bytes.length)) + 0x80000000)) ∈ t.out ∧
      if e.bytes.length ≤ pos + 3 then (poolQ t (128 + w)).entries = r ∧ (qwinOf t w).pos = 0
      else (poolQ t (128 + w)).entries = e :: r ∧ (qwinOf t w).pos = pos + 3) ∧
  (∀ (s : State) (o : Origin) (w : Nat) (v : Word) (e : Entry) (r : List Entry), qwProper o w s = true →
    ltServes s w = false → (poolQ s (128 + w)).entries = e :: r → v.getLsbD 0 = true →
    ∃ t, exec (.qwPopSkip o w v) s = .next t ∧ (poolQ t (128 + w)).entries = r ∧ (qwinOf t w).pos = 0) ∧
  (∀ (s : State) (o : Origin) (w : Nat) (v : Word), qwProper o w s = true → ltServes s w = false →
    ∃ t, exec (.qwTxData o w v) s = .next t ∧ (qwinOf t w).txOpen = true ∧
      (let b := (if (qwinOf s w).txOpen then (qwinOf s w).txBuf else []) ++ le 4 v.toNat
      if txFits s w 4 = true then (qwinOf t w).txBuf = b
      else (qwinOf t w).txOver = true ∧ (qwinOf t w).txBuf = (if (qwinOf s w).txOpen then (qwinOf s w).txBuf else [])) ∧
      ∀ x, x ≠ w → qwinOf t x = qwinOf s x) ∧
  (∀ (s : State) (o : Origin) (w : Nat) (v : Word), qwProper o w s = true → ltServes s w = false →
    (qwinOf s w).txOpen = true → s.lampSign.streams.contains w = false →
    let r := txReason s w (v.toNat % 65536) false
    ∃ t, exec (.qwTxEnd o w v) s = .next t ∧ (qwinOf t w).txOpen = false ∧ (qwinOf t w).txBuf = [] ∧
      if r = 0 ∧ (txAdmit w s).1 ≠ 0 then (qwinOf t w).accepted = (qwinOf s w).accepted + 1
      else (qwinOf t w).result = (if r = 0 then 6 else r) ∧ (qwinOf t w).refused = (qwinOf s w).refused + 1)) ∧
  ((∀ (s : State) (o : Origin) (n : Nat) (v : Word), ltProper o n s = true → (ltOf s n).enable = false →
    v.getLsbD 0 = true → ltServes s (ltOf s n).cfgWin = false →
    ∃ t, exec (.ltCtrlWrite o n v) s = .next t ∧ (ltOf t n).enable = true ∧ (ltOf t n).stopped = false ∧
      (ltOf t n).irqEn = v.getLsbD 1 ∧ ∀ m, m ≠ n → ltOf t m = ltOf s m) ∧
  (∀ (s : State) (o : Origin) (n : Nat) (v : Word), ltProper o n s = true → (ltOf s n).enable = true →
    v.getLsbD 0 = false → (ltOf s n).desc = none → (ltOf s n).rxOpen = false →
    ∃ t, exec (.ltCtrlWrite o n v) s = .next t ∧ ltOf t n = { ltOf s n with enable := false, irqEn := v.getLsbD 1 }) ∧
  (∀ (s : State) (o : Origin) (n : Nat) (v : Word), ltProper o n s = true →
    ∃ t, exec (.ltTailWrite o n v) s = .next t ∧ ltOf t n = { ltOf s n with
      tail := if v.toNat % 4096 < (ltOf s n).count then v.toNat % 4096 else (ltOf s n).tail }) ∧
  (∀ (s : State) (o : Origin) (n : Nat) (v : Word), ltProper o n s = true →
    (((ltOf s n).enable = true → exec (.ltRingConfigWrite o n 0x01C v) s = .next s)) ∧
    ((ltOf s n).enable = false → ∃ t, exec (.ltRingConfigWrite o n 0x01C v) s = .next t ∧
      ltOf t n = { ltOf s n with cfgWin := v.toNat % 16, cfgVec := v.toNat / 16 % 8, cfgWait := v.toNat / 256 % 1024 }) ∧
    ((ltOf s n).enable = false → ∃ t, exec (.ltRingConfigWrite o n 0x00C v) s = .next t ∧
      ltOf t n = { ltOf s n with base := v.toNat * 2 ^ 32 + (ltOf s n).base % 2 ^ 32, head := 0, tail := 0 })) ∧
  (∀ (s : State) (n : Nat) (m : HostMem) (e : Entry) (r : List Entry), n < 8 →
    let c := ltOf s n
    nextGrant s = some n → c.enable = true → c.runFrom ≤ s.clk.ran → c.desc = none → c.head ≠ c.tail → c.pace = 0 → m.ok = true → u16 m.desc 12 % 2 = 1 →
    descBad m.desc (qwinOf s c.cfgWin).txOpen = false → (BitVec.ofNat 16 (u16 m.desc 12)).getLsbD 3 = true →
    c.owner.isSome = true → (qwinOf s c.cfgWin).owner = c.owner → (poolQ s (128 + c.cfgWin)).entries = e :: r →
    isBad s e = false → (qwinOf s c.cfgWin).pos = 0 → e.bytes.length ≤ u32 m.desc 8 →
    e.bytes.length ≤ 256 - u64 m.desc 0 % 256 →
    ∃ t, exec (.lighterBurst n m) s = .next t ∧ Output.hostMem n (u64 m.desc 0) e.bytes ∈ t.out ∧
      (ltOf t n).desc = none ∧ (ltOf t n).head = (c.head + 1) % c.count ∧ (ltOf t n).descDone = c.descDone + 1 ∧
      (ltOf t n).bursts = c.bursts + 1 ∧ (ltOf t n).bytes = (c.bytes + e.bytes.length) % 2 ^ 64 ∧
      (poolQ t (128 + c.cfgWin)).entries = r) ∧
  (∀ (s : State) (n : Nat) (m : HostMem), n < 8 → (ltOf s n).enable = false → (ltOf s n).owed = none →
    exec (.lighterBurst n m) s = .next s) ∧
  (∀ (s : State) (n a : Nat) (b : List Byte) (m : HostMem), n < 8 → nextGrant s = some n → (ltOf s n).enable = false →
    (ltOf s n).owed = some (a, b) → m.ok = true →
    ∃ t, exec (.lighterBurst n m) s = .next t ∧ t.out = .hostMem n a b :: s.out ∧
      ltOf t n = { ltOf s n with owed := none, lastAddr := some a }) ∧
  (∀ (s : State) (n : Nat) (d : Desc) (e : Entry) (r : List Entry), n < 8 → (ltOf s n).enable = true → (ltOf s n).runFrom ≤ s.clk.ran →
    (ltOf s n).rxOpen = true → (ltOf s n).desc = some d → d.moved = d.len → (ltOf s n).head = (ltOf s n).tail →
    (poolQ s (128 + (ltOf s n).cfgWin)).entries = e :: r →
    ∃ t, exec (.ringWaitExpiry n) s = .next t ∧ (ltOf t n).desc = none ∧ (ltOf t n).rxOpen = false ∧
      (ltOf t n).trunc = true ∧ (ltOf t n).truncated = (ltOf s n).truncated + 1 ∧
      (poolQ t (128 + (ltOf s n).cfgWin)).entries = r) ∧
  (∀ (s : State) (n : Nat), n < 8 → (ltOf s n).enable = true → (ltOf s n).runFrom ≤ s.clk.ran → (ltOf s n).desc = none →
    (ltOf s n).head ≠ (ltOf s n).tail →
    ∃ t, exec (.hostMemoryTimeout n) s = .next t ∧ (ltOf t n).enable = false ∧ (ltOf t n).stopped = true ∧
      (ltOf t n).error = true ∧ (ltOf t n).code = 3 ∧ (ltOf t n).errIndex = (ltOf s n).head ∧
      (ltOf t n).head = (ltOf s n).head))

/-! ## Frame ports and gates (chapter 12) -/

/-- The commands of the frame port service (R396, R401, R405, R408 to R410, R413, R415, R416): a port, its statistics, its
counters and its gate list; a port or its gates switched at the next edge; a gate list that waits for its cycle start; PLCA
and rule settings for the next edge. -/
def Obligations.PortCommands : Prop :=
  ∀ (s : State) (w : Nat) (c : Cmd), Waits s w c → let p := c.payload
  (c.code = 0x0901 → u8 p 0 ≤ 13 → Answers (.fpPortStatus w) s w c (fun b => b = portBlock s (u8 p 0) ∧ b.length = 48 ∧
    Holds b 12 4 (maxFrame s (u8 p 0)) ∧ Holds b 40 8 (portOf s (u8 p 0)).linkTide)) ∧
  (c.code = 0x0902 → u8 p 0 ≤ 13 → Answers (.fpStats w) s w c (fun b => b.length = 352 ∧
    Holds b 0 8 (stat s (16 + u8 p 0)).endTide ∧ Holds b 16 8 (tget 0 (stat s (16 + u8 p 0)).snapCtr 0))) ∧
  (c.code = 0x0903 → u8 p 0 ≤ 13 → Answers (.fpCounters w) s w c (fun b => b.length = 176 ∧ Holds b 0 8 s.clk.tide ∧
    Holds b 8 8 (tget 0 (stat s (16 + u8 p 0)).total 0) ∧ Holds b 16 4 (tget 0 (stat s (16 + u8 p 0)).total 1))) ∧
  (c.code = 0x0904 → u8 p 0 ≤ 13 → u8 p 1 = 0 → Answers (.fpGateList w) s w c (fun b =>
    b = gateListBytes (portOf s (u8 p 0)).gates ∧ Holds b 0 1 (portOf s (u8 p 0)).gates.n)) ∧
  (c.code = 0x0940 → u8 p 0 ≤ 13 → u8 p 1 ≤ 1 → (u8 p 1 = 0 ∨ s.cfg.defaultedBit = false) →
    Switches (.fpPortEnable w) s w c (.port (u8 p 0)) (decide (u8 p 1 = 1))) ∧
  (c.code = 0x0941 → gateSetBad p = false → s.clk.tide + 2 ≤ u64 p 4 → (portOf s (u8 p 0)).gateWait = none →
    let a := cycleStart (gateListOf p) (u64 p 4)
    ∃ t, exec (.fpGateSet w) s = .next t ∧ Answered s t w c stACCEPTED (le 8 a) ∧
      portOf t (u8 p 0) = { portOf s (u8 p 0) with gateWait := some { list := gateListOf p, apply := a, job := jobOf w s } } ∧
      ∀ q, q ≠ u8 p 0 → portOf t q = portOf s q) ∧
  (c.code = 0x0942 → u8 p 0 ≤ 9 → u8 p 1 ≤ 1 → (u8 p 1 = 0 ∨ (portOf s (u8 p 0)).gates.n ≠ 0) →
    Switches (.fpGateEnable w) s w c (.gates (u8 p 0)) (decide (u8 p 1 = 1))) ∧
  (c.code = 0x0943 → plcaBad p = false → Accepts (.fpPlcaSet w) s w c (.plca (u8 p 0)
    { on := decide (u8 p 1 = 1), nodeId := u8 p 2, nodeCount := u8 p 3, toTimer := u8 p 4, burstCount := u8 p 5
      burstTimer := u8 p 6 })) ∧
  (c.code = 0x0944 → ruleBad p = false → u8 p 4 = 0xFF →
    Accepts (.fpRuleSet w) s w c (.fpRule (u16 p 0) (ruleOf p) none))

/-- Frames (R391, R398, R400, R402, R403, R411, R424): a frame that is too short changes no queue and no entry of the
filtering database; a good one for one other port teaches its source address and enters that port's queue of its class;
a port that may start sends the head of the class that strict priority and the gates let, be it forwarded or the module's own,
and one with a timestamp request then awaits its egress timestamp (R145). -/
def Obligations.FramesForwarded : Prop :=
  (∀ (s : State) (p : Nat) (f : EthFrame) (x : Stamp), p ≤ 13 → f.bytes.length < 64 →
    ∃ t, exec (.frameIngress p f x) s = .next t ∧ t.pool = s.pool ∧ t.ports.fdb = s.ports.fdb ∧ t.out = s.out) ∧
  (∀ (s : State) (p q pcp vid : Nat) (f : EthFrame) (x : Stamp), p ≤ 13 → (portOf s p).enabled = true →
    (portOf s p).up = true → (portOf s p).blocked = false → 64 ≤ f.bytes.length → f.bytes.length ≤ maxFrame s p →
    f.symbolErr = false → f.fcsOk = true → etherType f.bytes ≠ 0x8808 →
    let b := f.bytes.take (f.bytes.length - 4)
    tagOf b = some (vid, pcp) → vid ≠ 0 → classify s p vid pcp b = none → (membersOf s vid).getLsbD p = true →
    forModule s p vid b = false → targets s p vid b = [q] → (portOf s q).up = true → (dress s q vid b).length + 4 ≤ maxFrame s q →
    cuts s p q (pcpClass pcp) f.bytes.length (cutTime s p q (sinceEdge s x)) = false →
    admits (egressQ q (pcpClass pcp)) p (berths (maxFrame s p)) s = true → castOf (srcMac b) = 0 →
    s.ports.fdb.length < 16384 →
    ∃ t, exec (.frameIngress p f x) s = .next t ∧
      { vid, mac := srcMac b, port := p, ran := s.clk.ran } ∈ t.ports.fdb ∧
      ∃ e ∈ (poolQ t (egressQ q (pcpClass pcp))).entries, e.bytes = dress s q vid b) ∧
  (∀ (s : State) (p ns c : Nat) (e : Entry) (r : List Entry), p ≤ 13 → mayStart s p ns = true →
    (∀ k, k < 8 → ∀ h, (poolQ s (egressQ p k)).entries.head? = some h →
      isBad s h = false ∧ gateNever s p k h.len = false ∧ ((portOf s p).blocked = false ∨ passesBlock h = true)) →
    (∀ d, d ∈ s.host.outbox ++ s.ref.outbox → d.port ≠ p) →
    nextClass s p ns = some c → (poolQ s (egressQ p c)).entries = e :: r →
    ∃ t, exec (.frameEgress p ns none) s = .next t ∧ (e.own = none → Output.eth p e.bytes ∈ t.out) ∧
      (∀ o, e.own = some o → o ∈ t.out) ∧ (poolQ t (egressQ p c)).entries = r ∧
      (∀ o id, e.ts = some (o, id) → ∃ a ∈ (ptpOf t p).asked, a.owner = o ∧ a.id = id) ∧
      (∀ o, e.own = some o → Output.own p Config.macAddress (if ownTagged s p o then some c else none) ∈ t.out) ∧
      (portOf t p).line = some (c, ((ns + lineNs (portOf s p).speed e.len : Nat) : Int)))

/-- Links and the ring (R390, R393, R398, R399): a link that comes up takes its speed and one that goes down drops at the
next edge what its port still queues; a ring link down for three edges, and the R-APS messages, set the state of the ring
node; messages in the guard time are discarded; the owner's wait ends with the RPL blocked; old entries age out.

Cabinet ports and gates (R395, R396, R406, R408): a collision backs off for a number of slots below the power of the
attempt, and ends the frame when it is late or the sixteenth; PLCA falls back and is restored; the gate in force follows
the position in the cycle, and a waiting list takes effect at a cycle start from its apply tide on. -/
def Obligations.RingAndCabinet : Prop :=
  ((∀ (s : State) (p v : Nat) (full : Bool), p ≤ 13 → (portOf s p).enabled = true → (portOf s p).up = false →
    ∃ t, exec (.linkUp p v full) s = .next t ∧
      if 2 ≤ p ∧ p < 10 ∧ s.par.ports.sgmii.getLsbD p = true ∧ full = false
      then (portOf t p).up = false ∧ (portOf t p).hdx = true
      else (portOf t p).up = true ∧ (portOf t p).speed = speedOf s p v ∧ (portOf t p).full = decide (p < 10) ∧
        (portOf t p).sigFail = false ∧ (portOf t p).linkTide = s.clk.tide) ∧
  (∀ (s : State) (p : Nat), p ≤ 13 → (portOf s p).up = true →
    ∃ t, exec (.linkDown p none) s = .next t ∧ (portOf t p).up = false ∧ (portOf t p).speed = 0 ∧
      (portOf t p).dropDue = some s.clk.ran ∧ t.pool = s.pool ∧ ∀ q, q ≠ p → portOf t q = portOf s q) ∧
  (∀ (s : State) (p n : Nat), p ≤ 13 → (portOf s p).dropDue = some n → n < s.clk.ran →
    ∃ t, exec (.linkDropEdge p) s = .next t ∧ (portOf t p).dropDue = none ∧
      ∀ c, c < 8 → (poolQ t (egressQ p c)).entries = []) ∧
  (∀ (s : State) (p : Nat), p < 2 → ringOn s = true → (portOf s p).sigFail = false → 3 ≤ (portOf s p).downEdges →
    ∃ t, exec (.ringSignalFail p) s = .next t ∧ t.ports.ring.st = 1 ∧ (portOf t p).sigFail = true ∧
      (portOf t p).blocked = true ∧ (s.ports.ring.st ≠ 1 → t.ports.fdb = [])) ∧
  (∀ (s : State) (p : Nat), p < 2 → ringOn s = true → (portOf s p).up = true → s.ports.ring.guard = false →
    (∃ t, exec (.rapsRx p .signalFail) s = .next t ∧ t.ports.ring.st = 1) ∧
    (∃ t, exec (.rapsRx p .forcedSwitch) s = .next t ∧ t.ports.ring.st = 3) ∧
    (s.par.ports.rplOwner = false → failedRing s = [] → ∃ t, exec (.rapsRx p .noRequestRplBlocked) s = .next t ∧ t.ports.ring.st = 0)) ∧
  (∀ (s : State) (p : Nat) (m : Raps), s.ports.ring.guard = true → exec (.rapsRx p m) s = .next s) ∧
  (∀ (s : State) (k : Nat), s.ports.ring.wtr = some k → k ≤ s.clk.ran → s.par.ports.rplOwner = true →
    ∃ t, exec .ringWtrExpiry s = .next t ∧ t.ports.ring.st = 0 ∧ t.ports.ring.wtr = none ∧
      ∀ p, p < 2 → (portOf t p).blocked = decide (p = s.par.ports.rplPort)) ∧
  (∀ s : State, ∃ t, exec .guardTimerExpiry s = .next t ∧ t.ports.ring = { s.ports.ring with guard := false } ∧
    t.ports.port = s.ports.port ∧ t.ports.fdb = s.ports.fdb) ∧
  (∀ (s : State) (vid mac : Nat), ∃ t, exec (.fdbAgeing vid mac) s = .next t ∧
    (∀ e, e ∈ t.ports.fdb ↔ e ∈ s.ports.fdb ∧
      ¬ (e.vid = vid ∧ e.mac = mac ∧ e.ran + s.par.ports.ageing * 100 ≤ s.clk.ran)) ∧ t.ports.port = s.ports.port)) ∧
  ((∀ (s : State) (p bytes : Nat), 10 ≤ p → p ≤ 13 → csma s p = true → sendsNext s p = true →
    ∃ t, exec (.collision p bytes) s = .next t ∧
      if bytes ≤ 64 ∧ (portOf s p).attempts < 15 then
        (portOf t p).attempts = (portOf s p).attempts + 1 ∧
        ∃ k, (portOf t p).backoff = some k ∧ k < 2 ^ (min ((portOf s p).attempts + 1) 10)
      else (portOf t p).attempts = 0 ∧ (portOf t p).backoff = none) ∧
  (∀ (s : State) (p : Nat), p ≤ 13 → ∃ t, exec (.backoffExpiry p) s = .next t ∧
    portOf t p = { portOf s p with backoff := none } ∧ ∀ q, q ≠ p → portOf t q = portOf s q) ∧
  (∀ (s : State) (p : Nat) (b : Bool), 10 ≤ p → p ≤ 13 → (portOf s p).enabled = true → (plcaOf s p).on = true →
    (portOf s p).fellBack = false → ((plcaOf s p).nodeId ≠ 0 ∨ b = true) →
    ∃ t, exec (.plcaFallback p b) s = .next t ∧ (portOf t p).fellBack = true ∧ (portOf t p).plcaOk = false) ∧
  (∀ (s : State) (p : Nat), 10 ≤ p → p ≤ 13 → (portOf s p).enabled = true → (portOf s p).fellBack = true →
    ∃ t, exec (.plcaRestore p) s = .next t ∧ portOf t p = { portOf s p with fellBack := false, plcaOk := true }) ∧
  (∀ (s : State) (p ns : Nat), p ≤ 9 → ∃ t, exec (.gateChange p ns) s = .next t ∧
    (portOf t p).gateNow = (if (portOf s p).gatesOn = true ∧ (portOf s p).gates.n ≠ 0
      then (gateAt (portOf s p).gates s.clk.tide ns).2 else 0xFF) ∧ ∀ q, q ≠ p → portOf t q = portOf s q) ∧
  (∀ (s : State) (p : Nat) (x : GateWait), (portOf s p).gateWait = some x → x.apply ≤ s.clk.tide →
    s.clk.tide % x.list.n = x.list.q →
    ∃ t, exec (.gateListApply p) s = .next t ∧
      let g := if (portOf s p).gatesOn = true ∧ x.list.n ≠ 0 then gateAt x.list s.clk.tide 0 else (0, 0xFF)
      portOf t p = { portOf s p with gates := x.list, gateWait := none, gateNow := g.2, gateEntry := g.1 }))

/-! ## GNSS baseband (chapter 09) -/

/-- The commands of the GNSS service (R281, R282, R287, R294, R300 to R303, R309, R312 to R314): the baseband, a channel, a
band and the statistics; notches, bias, thresholds and loops set for the next edge; signals switched at it; a move of a
signal, a calibration and a measurement stream. -/
def Obligations.GnssCommands : Prop :=
  ∀ (s : State) (w : Nat) (c : Cmd), Waits s w c → let p := c.payload
  (c.code = 0x0601 → Answers (.gnssStatus w) s w c (fun b => b.length = 68 ∧ (∀ r, r < 6 →
    Holds b (8 * r) 1 r ∧ Holds b (8 * r + 2) 1 (rfOf s r).gain ∧ Holds b (8 * r + 4) 1 (rfOf s r).jiOut) ∧
    ∀ k, k < 3 → Holds b (56 + 4 * k) 1 (fsBand s k).st)) ∧
  (c.code = 0x0602 → u16 p 0 ≤ 383 → Answers (.gnssChannel w) s w c (fun b => b.length = 32 ∧ Holds b 0 2 (u16 p 0) ∧
    Holds b 2 1 (chanOf s (u16 p 0)).st ∧ Holds b 24 8 (chanOf s (u16 p 0)).startTide)) ∧
  (c.code = 0x0603 → u8 p 0 ≤ 2 → s.cluster.st ≠ 1 → Answers (.gnssFsStatus w) s w c (fun b =>
    let x := fsBand s (u8 p 0)
    b.length = 24 + 4 * x.last.r.length ∧ Holds b 1 1 x.st ∧ Holds b 2 1 x.last.n ∧ Holds b 4 8 x.last.tide)) ∧
  (c.code = 0x0604 → u8 p 0 ≤ 1 → Answers (.gnssStats w) s w c (fun b => b.length = 136 ∧
    Holds b 0 8 (stat s (12 + u8 p 0)).endTide ∧
    ∀ i, i < 15 → Holds b (16 + 8 * i) 4 (tget 0 (stat s (12 + u8 p 0)).snapCtr i))) ∧
  (c.code = 0x0640 → notchBad p = false → Accepts (.gnssNotchSet w) s w c (.notch (u8 p 0) (u8 p 1)
    { mode := u8 p 2, width := u8 p 3, offset := iAt p 4 4, depth := u8 p 8 })) ∧
  (c.code = 0x0641 → u8 p 0 ≤ 1 → u16 p 2 < 1024 → (u8 p 0 = 1 ∨ u16 p 2 ≠ 0 ∨ s.ref.on = false) →
    ∃ t, exec (.gnssSignalEnable w) s = .next t ∧ Answered s t w c stOK (le 8 (nextTide s)) ∧
      Only [.host, .switches, .out] s t ∧ ∀ i, i < 10 →
        (u16 p 2).testBit i = s.gnss.stopped.contains (u8 p 0, i) →
        { fn := .gnssSignal (u8 p 0) i, start := (u16 p 2).testBit i, tide := nextTide s } ∈ t.switches) ∧
  (c.code = 0x0642 → u16 p 0 ≤ 383 → u16 p 2 ≤ 383 → antOf (u16 p 0) = antOf (u16 p 2) → s.cluster.st ≠ 1 →
    (chanOf s (u16 p 2)).st = 0 → reservedCh s (u16 p 2) = false →
    1 ≤ (chanOf s (u16 p 0)).st → (chanOf s (u16 p 0)).st ≤ 3 →
    s.gnss.moves.find? (fun m => m.src == u16 p 0) = none →
    ∃ t, exec (.gnssMove w) s = .next t ∧ Answered s t w c stACCEPTED [] ∧ t.gnss.chans = s.gnss.chans ∧
      { src := u16 p 0, dst := u16 p 2, tide := nextTide s, job := some (jobOf w s) } ∈ t.gnss.moves) ∧
  (c.code = 0x0643 → u8 p 0 ≤ 1 → u8 p 1 ≤ 2 → Accepts (.gnssBiasSet w) s w c (.bias (u8 p 0) (u8 p 1))) ∧
  (c.code = 0x0644 → fsSetBad p = false → Accepts (.gnssFsSet w) s w c (.fsPar (fsOf p))) ∧
  (c.code = 0x0645 → loopBad p = false → Accepts (.gnssLoopSet w) s w c (.loop (u8 p 0) (u8 p 1)
    { tMs := u8 p 2, fll := u8 p 3, pll := u16 p 4, dll := u8 p 6, dN := u8 p 7, dF := u8 p 8 })) ∧
  (c.code = 0x0646 → u8 p 0 ≤ 5 → calVoid s (u8 p 0) = false →
    ∃ t, exec (.gnssJiCal w) s = .next t ∧ Answered s t w c stACCEPTED [] ∧
      rfOf t (u8 p 0) = { rfOf s (u8 p 0) with cal := some { ends := s.clk.ran + 100, job := jobOf w s } } ∧
      ∀ r, r ≠ u8 p 0 → rfOf t r = rfOf s r) ∧
  (c.code = 0x0647 → u8 p 0 ≤ 15 → u8 p 1 ∈ [1, 2, 4, 20] → 1 ≤ u8 p 2 → u8 p 2 ≤ 3 → winOwnsQwin s w (u8 p 0) = true →
    let rest := s.gnss.streams.filter fun x => x.qwin != u8 p 0
    rest.length < 4 → ∃ t, exec (.gnssObsStream w) s = .next t ∧ Answered s t w c stOK [] ∧
      t.gnss.streams = rest ++ [{ sid := (win s w).sid, qwin := u8 p 0, a := u8 p 1, b := u8 p 2 }] ∧
      t.gnss.chans = s.gnss.chans)

/-- Acquisition, notches, jamming and antennas (R281, R283, R284, R286 to R290): a request waits or runs; a detection starts
its channel at the next edge; a notch is engaged on a line and released; jamming begins and ends; a short or an open
antenna is reported, and the bias tried again; a calibration ends.

Tracking (R28, R278, R292, R294 to R297, R302): lanes lost and aligned again; locks, losses, slips and synchronisation
of a channel, where the report is of its current placement (R64); another report changes no channel. -/
def Obligations.GnssSignals : Prop :=
  ((∀ (s : State) (r : AcqRequest), s.cluster.st = 2 → r.antenna ≤ 1 → signalOn s r.antenna r.signal = true →
    (r.antenna = 0 ∨ s.pr.level < 3) → r.aided = false → acqOk r = true →
    s.gnss.running.any (fun x => x.antenna == r.antenna && x.signal == r.signal && x.sat == r.sat) = false →
    s.gnss.queue.length < 64 →
    ∃ t, exec (.acquisitionRequest r) s = .next t ∧ t.gnss.chans = s.gnss.chans ∧
      (8 ≤ s.gnss.running.length → t.gnss.queue = s.gnss.queue ++ [r] ∧ t.gnss.running = s.gnss.running) ∧
      (s.gnss.running.length < 8 → s.gnss.queue = [] → t.gnss.running = s.gnss.running ++ [r] ∧ t.gnss.queue = [])) ∧
  (∀ (s : State) (a sig sat : Nat) (found : Option AcqHit),
    let same (x : AcqRequest) := x.antenna == a && x.signal == sig && x.sat == sat
    s.gnss.running.any same = true → s.gnss.queue = [] →
    (∀ h, found = some h → h.channel < 384 ∧ (a = 0 ∨ s.pr.level < 3) ∧ antOf h.channel = a ∧
      startable s h.channel = true) →
    ∃ t, exec (.acquisitionResult a sig sat found) s = .next t ∧ t.gnss.running = s.gnss.running.eraseP same ∧
      t.gnss.chans = s.gnss.chans ∧ t.gnss.starts = (match found with
        | none => s.gnss.starts
        | some h => if s.cluster.st = 2 ∧ gloOk sig h.gloFreq = true
          then s.gnss.starts ++ [(h.channel, freshChan s a sig sat h.gloFreq h.doppler h.cn0 h.phase)] else s.gnss.starts)) ∧
  (∀ (s : State) (rf : Nat) (off : Int), rf ≤ 5 → off.natAbs ≤ 30000000 →
    match (waitingLines s rf).find? fun l => l.bin == binOf (notchSteps off) with
    | none => exec (.notchEngage rf off) s = .next s
    | some l => ∃ t, exec (.notchEngage rf off) s = .next t ∧
      if ((waitingLines s rf).filter fun x => x.level > l.level).length < (freeNotches s rf).length
      then (rfOf t rf).notchChange = some s.clk.ran ∧ ∃ n ∈ freeNotches s rf,
        notchOf t rf n = { engaged := true, offset := notchSteps off } ∧ ∀ m, m ≠ n → notchOf t rf m = notchOf s rf m
      else ∀ n, notchOf t rf n = notchOf s rf n) ∧
  (∀ (s : State) (rf n : Nat), rf ≤ 5 → n ≤ 3 → (notchPar s rf n).mode = 1 → (notchOf s rf n).engaged = true →
    100 ≤ (notchOf s rf n).low →
    ∃ t, exec (.notchRelease rf n) s = .next t ∧ notchOf t rf n = {} ∧ (∀ m, m ≠ n → notchOf t rf m = notchOf s rf m)) ∧
  (∀ (s : State) (rf : Nat), rf ≤ 5 → (rfOf s rf).jammed = false → 10 ≤ (rfOf s rf).above →
    ∃ t, exec (.jamEnter rf) s = .next t ∧ rfOf t rf = { rfOf s rf with jammed := true }) ∧
  (∀ (s : State) (rf : Nat), rf ≤ 5 → (rfOf s rf).jammed = true → 100 ≤ (rfOf s rf).below →
    ∃ t, exec (.jamExit rf) s = .next t ∧ rfOf t rf = { rfOf s rf with jammed := false }) ∧
  (∀ (s : State) (a : Nat), a ≤ 1 → biasOf s a ≠ 0 →
    ((antenna s a).ant ≠ 2 → ∃ t, exec (.antennaShort a) s = .next t ∧
      antenna t a = { antenna s a with ant := 2, retry := s.clk.ran + 6000 }) ∧
    ((antenna s a).ant = 0 → ∃ t, exec (.antennaOpen a) s = .next t ∧ antenna t a = { antenna s a with ant := 1 })) ∧
  (∀ (s : State) (a : Nat), a ≤ 1 → (antenna s a).ant = 2 → (antenna s a).retry ≤ s.clk.ran →
    ∃ t, exec (.biasRetry a) s = .next t ∧ antenna t a = { antenna s a with ant := 0 }) ∧
  (∀ (s : State) (rf mean : Nat) (c : JiCal), (rfOf s rf).cal = some c → c.ends ≤ s.clk.ran →
    ∃ t, exec (.jiCalComplete rf mean) s = .next t ∧ (rfOf t rf).cal = none ∧
      (rfOf t rf).quiet = (if calVoid s rf then (rfOf s rf).quiet else some mean))) ∧
  ((∀ (s : State) (a : Nat), a ≤ 1 → (antenna s a).lane = true →
    ∃ t, exec (.laneAlignmentLoss a) s = .next t ∧ (antenna t a).lane = false ∧ ∀ c, 
      if antOf c = a ∧ 1 ≤ (chanOf s c).st ∧ (chanOf s c).st ≤ 3
      then (chanOf t c).st = 4 ∧ (chanOf t c).coastRan = s.clk.ran ∧ (chanOf t c).slip = true
      else chanOf t c = chanOf s c) ∧
  (∀ (s : State) (a : Nat), a ≤ 1 → (antenna s a).lane = false →
    ∃ t, exec (.laneRealign a) s = .next t ∧ (antenna t a).lane = true ∧ ∀ c,
      if antOf c = a ∧ (chanOf s c).st = 4
      then (chanOf t c).st = (if s.clk.ran ≤ (chanOf s c).coastRan + 100 then 1 else 5)
      else chanOf t c = chanOf s c) ∧
  (∀ (s : State) (c : Nat), (chanOf s c).st = 4 → (chanOf s c).coastRan + 100 ≤ s.clk.ran →
    ∃ t, exec (.coastTimeout c) s = .next t ∧ chanOf t c = { chanOf s c with st := 5 }) ∧
  (∀ (s : State) (r : ChanReport), current s r = true → let v := chanOf s r.ch
    (v.st = 1 → ∃ t, exec (.channelLock r) s = .next t ∧ chanOf t r.ch = { v with st := 2 }) ∧
    (v.st = 3 → ∃ t, exec (.channelLock r) s = .next t ∧ chanOf t r.ch = { slipped s v with st := 2 }) ∧
    (v.st = 2 → ∃ t, exec (.channelLockLoss r) s = .next t ∧ chanOf t r.ch = { slipped s v with st := 3 }) ∧
    (1 ≤ v.st → v.st ≤ 3 →
      (∃ t, exec (.channelLost r) s = .next t ∧ chanOf t r.ch = { v with st := 5 }) ∧
      ∀ later, isBoc v.signal = true → ∃ t, exec (.sidePeakCorrection r later) s = .next t ∧
        chanOf t r.ch = { slipped s v with phase := v.phase + (if later then 1 else -1) }) ∧
    (dataOnly v.signal = true →
      (∃ t, exec (.framePreamble r) s = .next t ∧ chanOf t r.ch = { v with half := true }) ∧
      (v.bitSync = false → ∃ t, exec (.bitSync r) s = .next t ∧
        chanOf t r.ch = { v with bitSync := true, tMs := (loopOf s v.signal (antOf r.ch)).tMs })) ∧
    (dataOnly v.signal = false → ∃ t, exec (.secondaryCodeAlignment r) s = .next t ∧
      chanOf t r.ch = { v with secondary := true })) ∧
  (∀ (s : State) (r : ChanReport), current s r = false →
    (∃ t, exec (.channelLockLoss r) s = .next t ∧ t.gnss = s.gnss) ∧ (∃ t, exec (.channelLock r) s = .next t ∧ t.gnss = s.gnss) ∧
    (∃ t, exec (.channelLost r) s = .next t ∧ t.gnss = s.gnss) ∧ (∃ t, exec (.bitSync r) s = .next t ∧ t.gnss = s.gnss)))

/-- Measurements and false signals (R297 to R300, R305 to R307): at an edge with a number divisible by 5 every channel in
TRACKING enters the record with what it latched; an evaluation on time waits for its edge, and a late one changes nothing. -/
def Obligations.MeasurementsAndEvaluations : Prop :=
  (∀ (s : State) (raw : List RawMeas), s.clk.tide % 5 = 0 → s.gnss.latchRan ≠ some s.clk.ran →
    (∀ m ∈ s.gnss.moves, s.clk.tide < m.tide) → ∃ t, exec (.measurementLatch raw) s = .next t ∧
    t.gnss.recTide = s.clk.tide ∧ ∀ c m, (chanOf s c).st = 2 → raw.find? (fun m => m.channel == c) = some m →
      (chanOf t c).slip = false ∧ ∃ e ∈ t.gnss.entries, e.ch = c ∧ e.range = m.range ∧ e.carrier = carrierPhase m.cycles m.carrierNco ∧
        e.cn0 = m.cn0 ∧ e.st = 2 ∧ e.epoch = (chanOf s c).epoch) ∧
  (∀ (s : State) (raw : List RawMeas), (s.clk.tide % 5 ≠ 0 ∨ s.gnss.latchRan = some s.clk.ran) →
    exec (.measurementLatch raw) s = .next s) ∧
  (∀ (s : State) (band us : Nat), band ≤ 2 → s.clk.tide % 100 = 0 → s.cluster.st = 2 → s.pr.level < 3 →
    (∀ e, (fsBand s band).next = some e → e.tide ≠ s.clk.tide) → ∃ t, exec (.falseSignalEval band us) s = .next t ∧
      if us ≤ 9000 then fsBand t band = { fsBand s band with next := some (evaluate s band) } ∧
        ∀ b, b ≠ band → fsBand t b = fsBand s b
      else t.gnss = s.gnss)

/-! ## Reference station and positioning (chapter 10) -/

/-- The commands of the reference service (R318, R321, R329, R334, R338, R341 to R344): the station, a vehicle and the
statistics; the station and positioning switched at the next edge; a survey, coordinates, an output, the integrity limits
and an enrolment set for it; a stream. -/
def Obligations.ReferenceCommands : Prop :=
  ∀ (s : State) (w : Nat) (c : Cmd), Waits s w c → let p := c.payload
  (c.code = 0x0701 → Answers (.refStatus w) s w c (fun b => b.length = 88 ∧ Holds b 0 1 s.ref.st ∧
    Holds b 1 1 s.ref.integrity ∧ Holds b 64 8 s.ref.lastCorr ∧ Holds b 84 2 s.ref.clients.length)) ∧
  (c.code = 0x0746 → u8 p 0 ≤ 15 → 1 ≤ u8 p 1 → u8 p 1 ≤ 2 → u8 p 2 ≤ 3 → winOwnsQwin s w (u8 p 0) = true →
    let rest := s.ref.streams.filter fun x => x.qwin != u8 p 0
    rest.length < 4 → ∃ t, exec (.refStream w) s = .next t ∧ Answered s t w c stOK [] ∧
      t.ref = { s.ref with streams := rest ++ [{ sid := (win s w).sid, qwin := u8 p 0, a := u8 p 1, b := u8 p 2 }] }) ∧
  (s.cluster.st ≠ 1 →
  (c.code = 0x0702 → Answers (.posVehicle w) s w c (fun b => b.length = 76 ∧
    Holds b 0 1 ((slotOfVehicle s (u8 p 0)).getD 0xFF) ∧ Holds b 4 8 (posVehicle s (u8 p 0)).obsTide)) ∧
  (c.code = 0x0703 → Answers (.refStats w) s w c (fun b => b.length = 136 ∧ Holds b 0 8 (stat s 14).endTide ∧
    ∀ i, i < 15 → Holds b (16 + 8 * i) 4 (tget 0 (stat s 14).snapCtr i))) ∧
  (c.code = 0x0740 → u8 p 0 ≤ 1 → Switches (.refEnable w) s w c .reference (decide (u8 p 0 = 1))) ∧
  (c.code = 0x0747 → u8 p 0 ≤ 1 → Switches (.posEnable w) s w c .positioning (decide (u8 p 0 = 1))) ∧
  (c.code = 0x0741 → surveyBad p = false → (u8 p 10 = 1 ∨ s.ref.monArp.isSome = true) →
    Accepts (.refSurveyStart w) s w c (.survey (u32 p 0) (u32 p 4) (u16 p 8) (decide (u8 p 10 = 1)))) ∧
  (c.code = 0x0742 → fixSetBad s p = false → (u8 p 26 ≠ 2 ∨ s.ref.monArp.isSome = true) →
    Accepts (.refFixSet w) s w c (.refFix (ecefAt p 0) (u16 p 24) (u8 p 26) (ecefAt p 28))) ∧
  (c.code = 0x0743 → outputBad p = false → s.ref.st ≠ 0 → Accepts (.refOutputSet w) s w c (.refOutput (u8 p 0)
    { mountOf s (u8 p 0) with msm := u8 p 1, rate := u8 p 2, station := u8 p 3, stationTides := u16 p 4 })) ∧
  (c.code = 0x0744 → integrityBad p = false → s.ref.st ≠ 0 →
    Accepts (.refIntegritySet w) s w c (.refIntegrity (u16 p 0) (u16 p 2) (u8 p 4) (u16 p 6))) ∧
  (c.code = 0x0745 → u8 p 1 = 0xFF → Accepts (.posEnrol w) s w c (.enrol (u8 p 0) 0)) ∧
  (c.code = 0x0745 → u8 p 1 ≤ 95 → (slotsNext s).any (fun x => x.1 != u8 p 0 && x.2 == u8 p 1 + 1) = false →
    (tget 0 (slotsNext s) (u8 p 0) = 0 ∨ tget 0 (slotsNext s) (u8 p 0) = u8 p 1 + 1) →
    Accepts (.posEnrol w) s w c (.enrol (u8 p 0) (u8 p 1 + 1))))

/-- The station's surveys and integrity, and false signals (R307, R308, R318, R319, R330 to R332): samples are taken until
the survey ends or starts again, a run of 600 monitor solutions gives the monitor's coordinates, a rover solution counts
towards the integrity alarm, and the alarm of the bands follows their evaluations.

Corrections, vehicle solutions and time (R323, R327, R328, R335 to R340): an epoch encoded on time and one that is
late; an observation that is accepted or rejected; the vehicles solved in a tide and the record sent of each; a time
solution; UTC parameters; the requests of caster clients. -/
def Obligations.StationAndSolutions : Prop :=
  ((∀ (s : State) (v : Survey) (sats : Nat) (pos : Ecef), s.ref.survey = some v → s.ref.st = 1 →
    s.clk.tide % 100 = 0 → s.cluster.st = 2 → 6 ≤ sats → sats ≤ surveySats s → v.startRan ≤ s.clk.ran → s.ref.next = none →
    s.ref.solving = [] →
    let x := addSample v pos
    ∃ t, exec (.surveySample sats pos) s = .next t ∧ t.ref.survey = some x ∧
      if v.startRan + v.minTides ≤ s.clk.ran ∧ semWithin x = true
      then t.ref.refArp = some (arpOf s false (meanOf x.n x.sum)) ∧ t.ref.next = some (2, 1)
      else t.ref.refArp = s.ref.refArp ∧ t.ref.next = s.ref.next) ∧
  (∀ (s : State) (v : Survey), s.ref.survey = some v → s.ref.st = 1 → s.cluster.st = 2 → s.ref.next = none →
    v.startRan + v.maxTides ≤ s.clk.ran →
    ∃ t, exec .surveyTimeout s = .next t ∧
      t.ref.survey = some { start := nextTide s, startRan := s.clk.ran + 1, minTides := v.minTides, maxTides := v.maxTides
                            limitMm := v.limitMm }) ∧
  (∀ (s : State) (fix ratio : Nat) (pos : Ecef), s.ref.st = 2 → s.ref.monSurvey = true →
    s.clk.tide % 10 = 0 → s.cluster.st = 2 → s.ref.next = none → s.pr.level < 3 → recordNow s = true →
    s.ref.roverAt ≠ s.clk.tide + 1 → s.ref.solving = [] →
    let l := if fix == 3 && decide (ratio ≥ 300) then (pos :: s.ref.monLast).take 600 else []
    (l.length < 600 → ∃ t, exec (.monitorSurveySolution fix ratio pos) s = .next t ∧
      t.ref = { s.ref with monLast := l, monFix := fix % 4, roverAt := s.clk.tide + 1 }) ∧
    (∀ a, 600 ≤ l.length → maxAxis (monSpread l) ≤ 50 ^ 2 * (600 * 599) → s.ref.refArp = some a →
      let arp := arpOf s true (meanOf 600 (sumEcef l))
      lengthOk (subEcef (phaseCentre s true 0 arp) (phaseCentre s false 0 a)) = true →
      ∃ t, exec (.monitorSurveySolution fix ratio pos) s = .next t ∧ t.ref.monArp = some arp ∧ t.ref.next = some (3, 2))) ∧
  (∀ (s : State) (fix us : Nat) (pos : Ecef), (s.ref.st = 3 ∨ s.ref.st = 4) → s.cluster.st = 2 → s.pr.level < 3 →
    s.ref.encoded ≠ [] → s.ref.lastCorr = s.clk.tide → s.ref.lastSolve + 10 ≤ s.clk.tide + 1 →
    s.ref.roverAt ≠ s.clk.tide + 1 → s.ref.solving = [] → rtcmMessages (roverBytes s).length (roverBytes s) ≠ none →
    6000 ≤ us → us < 9000 → let d := discrepancy s pos
    ∃ t, exec (.monitorRoverSolve fix pos us) s = .next t ∧ t.ref.monFix = fix % 4 ∧ t.ref.hDisc = (Nat.sqrt d.1 + 5) / 10 ∧
      t.ref.vDisc = divNear d.2 10 ∧ t.ref.lastSolve = s.clk.tide + 1 ∧
      (fix = 3 → ((10 * s.par.ref.hLim) ^ 2 < d.1 ∨ 10 * s.par.ref.vLim < d.2.natAbs) →
        s.par.ref.nAlarm ≤ s.ref.overRun + 1 → t.ref.integrity = 2)) ∧
  (∀ (s : State), ∃ t, exec .fsStateEdge s = .next t ∧
    t.gnss.alarm = [0, 1, 2].any (fun b => (fsBand t b).st == 3) ∧ ∀ b, b < 3 →
      (∀ e, (fsBand s b).next = some e → e.tide < s.clk.tide → (fsBand t b).last = e ∧ (fsBand t b).next = none ∧
        (fsBand t b).st = (fsNext s.par.gnss.fs (fsBand s b) e.kind).1) ∧
      ((fsBand s b).next = none → fsBand t b = fsBand s b))) ∧
  ((∀ (s : State) (m us : Nat), m ≤ 3 → s.cluster.st = 2 → mountDue s m = true →
    s.ref.encoded.any (fun x => x.1 == m) = false →
    ∃ t, exec (.correctionEncode m us) s = .next t ∧
      if us ≤ 6000 then (missOf t 5).due = true ∧
        (admits 190 attCluster (berths (correctionBytes s m).length) s = true →
          t.ref.lastCorr = s.clk.tide ∧ (m, correctionBytes s m) ∈ t.ref.encoded)
      else t.ref = s.ref ∧ (missOf t 5).total = (missOf s 5).total + 1) ∧
  (∀ (s : State) (d : List Byte) (port slot us : Nat), s.cluster.st = 2 → s.ref.posOn = true → 2 ≤ port → port ≤ 9 →
    u16 d 0 = 0x9E50 → u8 d 2 = 1 → 6 ≤ u16 d 10 → u16 d 10 ≤ 1440 → d.length = 32 + u16 d 10 →
    obsMessages d ≠ none → slotOfVehicle s (u8 d 3) = some slot →
    newerSeq (u16 d 8) (posVehicle s (u8 d 3)).lastSeq = true →
    let k := fullTide s.clk.tide (u32 d 4)
    k % 10 = phaseOf slot → obsEpochOk s d k = true →
    (s.clk.tide < k ∨ (s.clk.tide = k ∧ us ≤ 3000 ∧ s.ref.solveTide ≠ k)) →
    (obsTagOk s d = true → let x := posVehicle s (u8 d 3)
      ∃ t, exec (.obsDatagramRx port s.par.ref.obsPort d us) s = .next t ∧ (posVehicle t (u8 d 3)) = { x with
        lastSeq := some (u16 d 8), obsTide := k
        sets := addObs k s.clk.tide ((obsMsms d).flatMap (·.2.2)) x.sets } ∧
      ∀ v, v ≠ u8 d 3 → posVehicle t v = posVehicle s v) ∧
    (obsTagOk s d = false → ∃ t, exec (.obsDatagramRx port s.par.ref.obsPort d us) s = .next t ∧ t.ref = s.ref)) ∧
  (∀ s : State, s.cluster.st = 2 → s.ref.posOn = true → s.clk.tide % 5 = 0 → s.ref.solveTide ≠ s.clk.tide →
    ∃ t, exec .centralSolve s = .next t ∧ t.ref.solveTide = s.clk.tide ∧
      t.ref.solving = (phaseVehicles s s.clk.tide).filterMap (fun v =>
        (obsSet s v s.clk.tide).map fun x => (v, engineObs s x.obs)) ∧
      ∀ x ∈ t.ref.solving, obsSet t x.1 s.clk.tide = none ∧ stateElements x.2 ≤ 70 ∧ measurements x.2 ≤ 128) ∧
  (∀ (s : State) (l : List ObsSignal), (engineObs s l).length ≤ 64 ∧ ∀ o ∈ engineObs s l, usableObs s o = true ∧
    ∀ q ∈ l, usableObs s q = true → q ∉ engineObs s l → q.cn0 ≤ o.cn0) ∧
  (∀ (s : State) (x : Solution) (o : List ObsSignal) (us : Nat), s.cluster.st = 2 → s.ref.posOn = true →
    s.ref.solveTide = s.clk.tide → s.ref.solving = [(x.vehicle, o)] → s.ref.ready = [] →
    let n := satsOf o
    ∃ t, exec (.centralSolutionsComplete [x] us) s = .next t ∧ t.ref.solving = [] ∧
      if us ≤ 9000 then (posVehicle t x.vehicle).record = solutionBytes s x n ∧
        (posVehicle t x.vehicle).fix = (fixReason s x n).1 ∧ (posVehicle t x.vehicle).reset = false ∧
        let v := tget ({} : VehicleCfg) s.par.fleet.vehicles x.vehicle
        let size := udpSize s v.fieldPort (solutionRecord s x n).length
        (CanSend s v.fieldPort 6 size → admits 190 attCluster (berths (solutionRecord s x n).length) s = true →
          admits (egressQ v.fieldPort 6) attCluster (berths size) s = true →
          Sends s t v.fieldPort 6 size none (.datagram x.vehicle v.fieldPort v.addr v.posUdp (solutionRecord s x n)))
      else posVehicle t x.vehicle = posVehicle s x.vehicle ∧ (missOf t 6).total = (missOf s 6).total + 1) ∧
  (∀ (s : State) (sats gps sd : Nat) (c : Ecef), s.ref.st ≠ 0 → s.cluster.st = 2 → s.clk.tide % 100 = 0 →
    timeCentre s = some c → 5 ≤ sats → sats ≤ (entrySats (timeEntries s)).length → 2 ≤ gps →
    gps ≤ ((entrySats (timeEntries s)).filter (· < 256)).length → sd ≤ 100 → s.gnss.alarm = false → engineLast s = true →
    let d := timeOffset s c
    ∃ t, exec (.timeSolution sats gps sd) s = .next t ∧ t.ref.timeEpochs = (s.clk.tide :: s.ref.timeEpochs).take 3 ∧
      (srcOf t 2).valid = true ∧ (srcOf t 2).meas = (d :: (srcOf s 2).meas).take 8) ∧
  (∀ (s : State) (gps : Bool) (a b : Int) (e : Nat × Nat), (gps = true ∨ s.ref.gpsUtc = false) → s.cluster.st = 2 →
    (∃ t, exec (.utcParametersDecode gps false a b e) s = .next t ∧ t.ref.gpsUtc = (s.ref.gpsUtc || gps) ∧
      if s.time.st = 2 ∧ s.time.src = 2 then t.rtc.ofs = BitVec.ofInt 16 (a + 19) ∧ t.ref.utcSet = none ∧
        (a ≠ b → t.rtc.next = BitVec.ofInt 16 (b + 19) ∧ t.rtc.at_ = endOfDay s a e % 2 ^ 48 ∧ t.rtc.armed = true)
      else t.rtc = s.rtc ∧ t.ref.utcSet = some (a + 19, b + 19, endOfDay s a e)) ∧
    exec (.utcParametersDecode gps true a b e) s = .next s) ∧
  (∀ (s : State) (port conn m : Nat) (two : Bool) (auth : Option Nat), let tcp := s.par.ref.casterTcp
    let head (k : Nat) := ntripHead two k "ICY 200 OK".toList
    hostUp s = true → s.par.ref.casterPorts.getLsbD port = true →
    (portOf s port).enabled = true →
    (s.ref.clients.filter fun c => c.conn != conn).length < 32 →
    (∃ t, exec (.ntripRequest port conn (.mount tcp two m auth)) s = .next t ∧
      if m ≤ 3 ∧ (mountOf s m).rate ≠ 0 ∧
        ((mountOf s m).auth = true → ∃ u, auth = some u ∧ u ∈ s.par.ref.users)
      then { conn, port, mount := m, two } ∈ t.ref.clients ∧ { port, cls := 5, out := .ntrip conn (head 200) } ∈ t.ref.outbox
      else ∃ k, k ∈ [401, 404] ∧
        t.ref = { s.ref with outbox := s.ref.outbox ++ [{ port, cls := 5, out := .ntrip conn (head k) }] }) ∧
    (∃ t, exec (.ntripRequest port conn .gga) s = .next t ∧ t = s) ∧
    (∃ t, exec (.ntripRequest port conn .close) s = .next t ∧
      t.ref = { s.ref with clients := s.ref.clients.filter fun c => c.conn != conn }) ∧
    ∃ t, exec (.ntripRequest port conn (.serverRole tcp two)) s = .next t ∧
      t.ref = { s.ref with outbox := s.ref.outbox ++ [{ port, cls := 5, out := .ntrip conn (ntripHead two 501 []) }] }))

/-! ## Fleet allotment and halt (chapter 11) -/

/-- The commands of the fleet service (R355, R361 to R363, R369, R372, R381 to R385): the service, a vehicle, a task, the
intervals held and the statistics; the service switched at the next edge; halts that stay until they are released, for the
host and for the halt input; tasks added, cancelled and moved; a vehicle held. -/
def Obligations.FleetCommands : Prop :=
  ∀ (s : State) (w : Nat) (c : Cmd), Waits s w c → let p := c.payload
  (c.code = 0x0801 → Answers (.fleetStatus w) s w c (fun b => b.length = 52 ∧ Holds b 0 1 (bit s.fleet.on) ∧
    Holds b 4 8 s.fleet.horn.halt.toNat ∧ Holds b 20 8 s.fleet.host.toNat ∧ Holds b 44 8 s.fleet.horn.tide)) ∧
  (c.code = 0x0802 → Answers (.fleetVehicle w) s w c (fun b => b.length = 44 ∧ Holds b 0 1 (u8 p 0) ∧
    Holds b 1 1 (if vehicleCfg s (u8 p 0) then (if (veh s (u8 p 0)).held then 2 else 1) else 0) ∧
    Holds b 20 2 (veh s (u8 p 0)).cell ∧ Holds b 28 8 (veh s (u8 p 0)).lastAck)) ∧
  (c.code = 0x0803 → u16 p 0 ≤ 4095 → Answers (.fleetTask w) s w c (fun b => b.length = 36 ∧ Holds b 0 2 (u16 p 0) ∧
    ((task s (u16 p 0)).used = true → Holds b 2 1 (task s (u16 p 0)).st) ∧
    Holds b 3 1 (min (task s (u16 p 0)).vehicle 0xFF) ∧ Holds b 12 8 (task s (u16 p 0)).due)) ∧
  (c.code = 0x0804 → Answers (.fleetPath w) s w c (fun b => let n := (heldOf s.fleet.held (u8 p 0)).length
    b.length = 4 + 14 * min 256 (n - u16 p 2) ∧ Holds b 0 2 n)) ∧
  (c.code = 0x0805 → Answers (.fleetStats w) s w c (fun b => b.length = 136 ∧ Holds b 0 8 (stat s 15).endTide ∧
    ∀ i, i < 15 → Holds b (16 + 8 * i) 4 (tget 0 (stat s 15).snapCtr i))) ∧
  (c.code = 0x0840 → u8 p 0 ≤ 1 → (u8 p 0 = 0 ∨ s.cfg.defaultedBit = false ∧ s.cluster.st ≠ 1) →
    Switches (.fleetEnable w) s w c .fleet (decide (u8 p 0 = 1))) ∧
  (∀ us, c.code = 0x0841 → u8 p 8 ≤ 1 → ∃ t, exec (.fleetHalt w us) s = .next t ∧
    Answered s t w c stOK (le 8 (if us < 100 then s.clk.tide else nextTide s)) ∧
    t.fleet.host = s.fleet.host ||| BitVec.ofNat 64 (u64 p 0) ∧ t.fleet.vehicles = s.fleet.vehicles ∧
    t.fleet.hostRelay = (if u8 p 8 = 1 then s.fleet.hostRelay ||| BitVec.ofNat 64 (u64 p 0) else s.fleet.hostRelay)) ∧
  (∀ us, c.code = 0x0842 → u8 p 8 = 1 → let z := BitVec.ofNat 64 (u64 p 0)
    ∃ t, exec (.fleetRelease w us) s = .next t ∧ Answered s t w c stOK (le 1 (bit (s.fleet.host &&& z != 0)) ++ le 3 0) ∧
      t.fleet.host = s.fleet.host &&& ~~~z ∧ t.fleet.input = s.fleet.input) ∧
  (∀ us, c.code = 0x0842 → u8 p 8 = 2 → (s.fleet.input.chan ≠ 0 → Refused (.fleetRelease w us) s w c stSTATE) ∧
    (s.fleet.input.chan = 0 → s.fleet.input.active = true → s.fleet.input.disc = false →
      ∃ t, exec (.fleetRelease w us) s = .next t ∧ Answered s t w c stOK (le 1 2 ++ le 3 0) ∧
        t.fleet.input = { s.fleet.input with active := false } ∧ t.fleet.host = s.fleet.host)) ∧
  (c.code = 0x0843 → fleetTaskAddBad p = false → s.cluster.st ≠ 1 →
    ((task s (u16 p 0)).used = false ∨ 4 ≤ (task s (u16 p 0)).st) → s.clk.tide + 100 ≤ u64 p 8 →
    ∃ t, exec (.fleetTaskAdd w) s = .next t ∧ Answered s t w c stOK [] ∧ (task t (u16 p 0)).used = true ∧
      (task t (u16 p 0)).st = 0 ∧ (task t (u16 p 0)).kind = u8 p 2 ∧ (task t (u16 p 0)).prio = u8 p 3 ∧
      (task t (u16 p 0)).fromCell = u16 p 4 ∧ (task t (u16 p 0)).toCell = u16 p 6 ∧ (task t (u16 p 0)).due = u64 p 8 ∧
      (task t (u16 p 0)).ref = u64 p 16 ∧ ∀ k, k ≠ u16 p 0 → task t k = task s k) ∧
  (c.code = 0x0844 → u16 p 0 ≤ 4095 → (task s (u16 p 0)).used = true → (task s (u16 p 0)).st < 3 →
    (task s (u16 p 0)).cancel = none →
    ∃ t, exec (.fleetTaskCancel w) s = .next t ∧ Answered s t w c stACCEPTED [] ∧
      if (task s (u16 p 0)).st = 0 then (task t (u16 p 0)).st = 6
      else (task t (u16 p 0)).cancel = some (jobOf w s) ∧ (task t (u16 p 0)).st = (task s (u16 p 0)).st) ∧
  (c.code = 0x0845 → u16 p 0 ≤ 4095 → s.cluster.st ≠ 1 → (task s (u16 p 0)).used = true →
    ((task s (u16 p 0)).st = 1 ∨ (task s (u16 p 0)).st = 2) → vehicleCfg s (u8 p 2) = true →
    (task s (u16 p 0)).move = none →
    ∃ t, exec (.fleetTaskMove w) s = .next t ∧ Answered s t w c stACCEPTED [] ∧ task t (u16 p 0) =
      { task s (u16 p 0) with move := some { vehicle := u8 p 2, tide := nextTide s, job := some (jobOf w s) } }) ∧
  (c.code = 0x0846 → u8 p 1 ≤ 1 → ∃ t, exec (.fleetHold w) s = .next t ∧
    Answered s t w c stOK (le 8 (nextTide s)) ∧
    veh t (u8 p 0) = { veh s (u8 p 0) with hostHold := decide (u8 p 1 = 1) } ∧
    ∀ v, v ≠ u8 p 0 → veh t v = veh s v)

/-- The reservation engine at work (R351, R352, R355 to R357): a batch is checked into a shadow, which a deadline accepts or
discards; a vehicle whose horizon falls, or with a cause at an edge, is held, with its speculative set dropped; it leaves
when no cause stands; a missed answer is counted. -/
def Obligations.EngineAndHold : Prop :=
  (∀ s : State, s.fleet.on = true → s.cluster.st = 2 → s.fleet.shadow = none →
    ∃ t, exec .reservationBatchCheck s = .next t ∧ t.fleet.held = s.fleet.held ∧ t.fleet.batch = [] ∧
      t.fleet.shadow = some { ops := (checkBatch s).ops, committed := (checkBatch s).committed
                              dropped := (checkBatch s).dropped, failed := (checkBatch s).failed } ∧
      t.fleet.returned = (checkBatch s).returned ++ s.fleet.returned) ∧
  (∀ (s : State) (sh : Shadow), s.fleet.shadow = some sh →
    (∃ t, exec (.reservationDeadline true) s = .next t ∧ t.fleet.accepted = sh.ops ∧ t.fleet.shadow = none ∧
      t.lantern.cond = []) ∧
    ∃ t, exec (.reservationDeadline false) s = .next t ∧ t.fleet.accepted = s.fleet.accepted ∧ t.fleet.shadow = none ∧
      t.fleet.discarded = true ∧ (missOf t 2).total = (missOf s 2).total + 1 ∧ t.radio = s.radio) ∧
  (∀ (s : State) (v : Nat), vehicleCfg s v = true → s.fleet.on = true → lowHorizon s v s.clk.tide = true →
    ∃ t, exec (.horizonFloor v) s = .next t ∧ (veh t v).held = true ∧ (veh t v).causes.getLsbD 0 = true) ∧
  (∀ (s : State) (v : Nat), vehicleCfg s v = true → s.fleet.on = true → (veh s v).causes ≠ 0 → (veh s v).held = false →
    ∃ t, exec (.vehicleHeldEntry v) s = .next t ∧ (veh t v).held = true ∧ (veh t v).since = s.clk.tide ∧
      (∀ h ∈ heldOf t.fleet.held v, h.spec = false) ∧ ∀ u, u ≠ v → heldOf t.fleet.held u = heldOf s.fleet.held u) ∧
  (∀ (s : State) (v : Nat), vehicleCfg s v = true → s.fleet.on = true → mayLeave s v = true →
    ∃ t, exec (.vehicleHeldExit v) s = .next t ∧ (veh t v).held = false ∧ t.fleet.held = s.fleet.held) ∧
  (∀ (s : State) (v : Nat), vehicleCfg s v = true → s.fleet.on = true → (answerCell s v s.clk.tide).isSome = true →
    (veh s v).answered = false →
    ∃ t, exec (.answerOpportunityMissed v) s = .next t ∧ (veh t v).missed = min 255 ((veh s v).missed + 1) ∧
      (veh t v).answered = true ∧ ∀ u, u ≠ v → veh t u = veh s u)

/-- The halt path (R68, R366, R369 to R375): a horn halts every zone with a source and releases no other zone without a
request; a channel in halt activates the input and opens the relays; a discrepancy is latched, and an unlatched input
clears; the relays are energised when every condition holds; a read-back that differs is logged.

The fleet link (R63, R64, R358 to R364): a PATH is sent when it is due and again until it is acknowledged; an
acknowledgement with a bad tag changes nothing but the statistics, and a good one of a complete PATH is recorded; a report
under the current placement moves the task on, and a stale report of custody is recorded as a move. -/
def Obligations.HaltPathAndLink : Prop :=
  ((∀ s : State, let s1 : State := { s with clk := { s.clk with preHalted := preHalt s } }
    ∃ t, exec .hornFreeze s = .next t ∧
      t.fleet.released = (s.fleet.released ||| s.fleet.requestNow) &&& ~~~(if actHalt s then allHalted else haltSources s1) ∧
      t.fleet.horn.halt = ~~~t.fleet.released ∧ t.fleet.horn.tide = s.clk.tide ∧ t.fleet.horn.claim = claim s ∧
      t.fleet.requestNow = 0 ∧ t.fleet.lastHalt = t.fleet.horn.halt ∧
      t.fleet.host = s.fleet.host ∧ t.fleet.input = s.fleet.input) ∧
  (∀ (s : State) (b : Bool) (us : Nat), s.fleet.input.active = false →
    ∃ t, exec (.haltInputChange b false us) s = .next t ∧ t.fleet.input.active = true ∧ t.fleet.relays = 0 ∧
      t.fleet.input.chan = s.fleet.input.chan ||| (if b then 2 else 1) ∧ t.fleet.host = s.fleet.host) ∧
  (∀ (s : State) (b : Bool) (us : Nat), ∃ t, exec (.haltInputChange b true us) s = .next t ∧
    t.fleet.input.active = s.fleet.input.active ∧ t.fleet.relays = s.fleet.relays ∧
    t.fleet.input.chan = s.fleet.input.chan &&& ~~~(if b then 2 else 1)) ∧
  (∀ (s : State) (k u us : Nat), s.fleet.input.differ = some (k, u) → s.fleet.input.disc = false →
    u + s.par.fleet.discrepancyMs * 1000 ≤ (s.clk.ran - k) * 10000 + us →
    ∃ t, exec (.haltDiscrepancyLatch us) s = .next t ∧
      t.fleet.input = { s.fleet.input with disc := true, discStep := 0 }) ∧
  (∀ (s : State) (us : Nat), s.fleet.input.active = true → s.par.fleet.latched = false → s.fleet.input.disc = false →
    s.fleet.input.chan = 0 → s.fleet.input.runFrom + 100 ≤ s.clk.ran →
    ∃ t, exec (.haltInputAutoClear us) s = .next t ∧ t.fleet.input = { s.fleet.input with active := false }) ∧
  (∀ s : State, ∃ t, exec .relayEnergise s = .next t ∧
    t.fleet.relays = (if relayOk s then 3 else s.fleet.relays) ∧ t.fleet.host = s.fleet.host) ∧
  (∀ (s : State) (i : Nat) (r : Bool), i < 2 → r ≠ s.fleet.relays.getLsbD i →
    let code := 0x0800 + Config.logCode 1 % 0xF0
    (rateOf s code 6).rate = 0 → s.log.closed.length < 2 →
    (let d := Config.logPayload 1 [i, bit (s.fleet.relays.getLsbD i), bit r]
     s.log.taken + 28 + d.length ≤ 28672) →
    ∃ t x, exec (.relayReadbackFault i r) s = .next t ∧ t.log.staging = s.log.staging ++ [x] ∧ x.code = code ∧
      x.sev = 6 ∧ x.tide = s.clk.tide ∧ t.fleet = s.fleet)) ∧
  ((∀ (s : State) (v : Nat), s.fleet.on = true → vehicleCfg s v = true → (veh s v).pathDue = true →
    ∃ t, exec (.pathSend v) s = .next t ∧ (veh t v).pathDue = false ∧ (veh t v).pathSent = (veh s v).pathSent + 1 ∧
      (veh t v).pathTide = s.clk.tide ∧
      (veh t v).sent = { seq := ((veh s v).pathSent + 1).toNat, entries := pathEntries s v } :: (veh s v).sent ∧
      LinkSent s t v (44 + 8 * (pathEntries s v).length) (pathEntries s v).length) ∧
  (∀ (s : State) (v : Nat) (p : SentPath) (r : List SentPath), s.fleet.on = true → (veh s v).sent = p :: r →
    (veh s v).acked ≠ some p.seq → (veh s v).pathTide < s.clk.tide → (s.clk.tide - (veh s v).pathTide) % 5 = 0 →
    ∃ t, exec (.pathResend v) s = .next t ∧ (veh t v).sent = (veh s v).sent ∧
      (veh t v).pathSent = (veh s v).pathSent ∧ LinkSent s t v (44 + 8 * p.entries.length) p.entries.length) ∧
  (∀ (s : State) (d : List Byte) (p : SentPath), let v := u8 d 3
    let b := linkBody d
    let n := max 1 ((p.entries.length + 159) / 160)
    linkForm 2 d = true → vehicleCfg s v = true →
    newerSeq (u16 d 8) (veh s v).seqIn = true → (veh s v).sent.find? (fun p => p.seq == u16 b 0) = some p →
    newerSeq p.seq (veh s v).acked = true → u16 b 2 % 2 ^ n = 2 ^ n - 1 →
    (linkTagOk s d = true → ∃ t, exec (.pathAck d) s = .next t ∧ (veh t v).acked = some p.seq ∧
      (veh t v).ackedSet = p.entries.filter (fun h => !h.spec) ∧ (veh t v).seqIn = some (u16 d 8)) ∧
    (linkTagOk s d = false → ∃ t, exec (.pathAck d) s = .next t ∧ t.fleet = s.fleet)) ∧
  (∀ (s : State) (d : List Byte), let v := u8 d 3
    let b := linkBody d
    let x := task s (u16 b 0)
    linkForm 4 d = true → linkTagOk s d = true → vehicleCfg s v = true → newerSeq (u16 d 8) (veh s v).seqIn = true →
    u16 b 0 ≤ 4095 → x.used = true → x.cancel = none →
    ((x.vehicle = v → x.epoch.toNat = u8 b 2 → x.placed ≤ fullTide s.clk.tide (u32 b 8) →
      ∃ t, exec (.taskReport d) s = .next t ∧ let y := task t (u16 b 0)
        (u8 b 3 = 1 → x.st = 1 → y.st = 2) ∧ (u8 b 3 = 3 → y.st = 3) ∧ (u8 b 3 = 4 → x.st = 3 → y.st = 2) ∧
        (u8 b 3 = 5 → y.st = 4) ∧ (u8 b 3 = 6 → y.st = 5) ∧ (u8 b 3 = 7 → y.st = 0 ∧ y.vehicle = 256)) ∧
    (x.vehicle ≠ v → u8 b 3 = 3 → ∃ t, exec (.taskReport d) s = .next t ∧
      task t (u16 b 0) = { x with move := some { vehicle := v, tide := nextTide s, custody := some 3 } }))))

/-- Committed intervals of different vehicles never conflict: where the held ones do not, and the conflict sets are
symmetric, neither do those that a checked batch leaves (R346 to R351). -/
def Obligations.BatchKeepsVehiclesApart : Prop :=
  ∀ s : State, (∀ a b, (conflictSet s a).contains b = (conflictSet s b).contains a) → twf [] s.fleet.held = true →
    let apart (held : Tbl (List Held)) := ∀ u v, u ≠ v → ∀ x ∈ heldOf held u, ∀ y ∈ heldOf held v,
      x.spec = false → y.spec = false → conflict s (gapNow s) x y = false
    apart s.fleet.held → apart (checkBatch s).held

/-! ## Quay bus (chapter 14) -/

/-- The commands of the quay bus service (R463, R470, R472, R474, R477, R478): the channels and the statistics of one; the
entries of a send enter the transmit queue in order; a channel switched and a filter set for the next edge; a flush takes
the session's own entries.

The quay bus channels (R456, R458, R460, R461, R464 to R468, R470, R471): integration and recovery; an attempt that is sent,
that loses arbitration, or that ends in an error, also where the loop delay of an FD or XL frame exceeds 127 clocks, and the
entry at its retry limit, which is retired; a frame received, and acknowledged, without an error, and one with an error; the claim frames in their express slots. -/
def Obligations.QuayBus : Prop :=
  (∀ (s : State) (w : Nat) (c : Cmd), Waits s w c → let p := c.payload
  (c.code = 0x0B01 → Answers (.qbusStatus w) s w c (fun b => b.length = 48 ∧ ∀ k, k < 4 → Holds b (12 * k) 1 k ∧
    Holds b (12 * k + 1) 1 (qch s k).st ∧ Holds b (12 * k + 4) 2 (qch s k).tec ∧ Holds b (12 * k + 6) 2 (qch s k).rxc)) ∧
  (c.code = 0x0B02 → u8 p 0 ≤ 3 → Answers (.qbusStats w) s w c (fun b => b.length = 136 ∧
    Holds b 0 8 (stat s (31 + u8 p 0)).endTide ∧
    ∀ i, i < 15 → Holds b (16 + 8 * i) 4 (tget 0 (stat s (31 + u8 p 0)).snapCtr i))) ∧
  (∀ es, c.code = 0x0B40 → u8 p 0 ≤ 3 → 1 ≤ u8 p 1 → u8 p 1 ≤ 16 → sendEntries (u8 p 1) (p.drop 4) = some es →
    es.any (entryBad (qpar s (u8 p 0)).formatSet (u8 p 0)) = false → (∀ e ∈ es, u8 e 16 < 2) →
    (qch s (u8 p 0)).queue.length + es.length ≤ 64 →
    ∃ t, exec (.qbusSend w) s = .next t ∧ Answered s t w c stOK (le 2 (qch s (u8 p 0)).seq ++ le 2 0) ∧
      (qch t (u8 p 0)).queue = (qch s (u8 p 0)).queue ++ es.map (entryOfBytes w s) ∧
      (qch t (u8 p 0)).seq = ((qch s (u8 p 0)).seq + es.length) % 65536 ∧
      (qch t (u8 p 0)).express = (qch s (u8 p 0)).express ∧ ∀ k, k ≠ u8 p 0 → qch t k = qch s k) ∧
  (c.code = 0x0B41 → u8 p 0 ≤ 3 → u8 p 1 ≤ 1 → (u8 p 1 = 1 ∨ (qpar s (u8 p 0)).claims = false) →
    Switches (.qbusEnable w) s w c (.quay (u8 p 0)) (decide (u8 p 1 = 1))) ∧
  (c.code = 0x0B42 → filterBad p = false → u8 p 5 ≠ 2 →
    Accepts (.qbusFilterSet w) s w c (.qfilter (u8 p 0) (u8 p 1) (filterBytes (p.drop 4)))) ∧
  (c.code = 0x0B43 → u8 p 0 ≤ 3 → (qch s (u8 p 0)).express = none →
    let mine (e : QbEntry) : Bool := e.owner == (w, (win s w).sid) && !e.claim
    ∃ t, exec (.qbusFlush w) s = .next t ∧ (qch t (u8 p 0)).queue = (qch s (u8 p 0)).queue.filter (fun e => !mine e) ∧
      Answered s t w c stOK (le 1 ((qch s (u8 p 0)).queue.filter mine).length ++ le 3 0))) ∧
  ((∀ (s : State) (c : Nat), (qch s c).st = 4 → ∃ t, exec (.busIntegration c) s = .next t ∧
    (qch t c).st = (if 255 < (qch s c).tec then 3 else if 128 ≤ (qch s c).tec ∨ 128 ≤ (qch s c).rxc then 2 else 1) ∧
    (qch t c).tec = (qch s c).tec ∧ ∀ k, k ≠ c → qch t k = qch s k) ∧
  (∀ (s : State) (c : Nat), (qch s c).st = 3 → ∃ t, exec (.busOffRecovery c) s = .next t ∧
    qch t c = { qch s c with st := 1, tec := 0, rxc := 0 }) ∧
  (∀ (s : State) (c loop : Nat) (e : QbEntry), c ≤ 3 → mayTx s c = true → offered s c = some e →
    let late := decide (2 ≤ e.format) && decide (127 < loop)
    (late = false → ∃ t, exec (.qbusTxAttempt c loop .sent) s = .next t ∧
      (let esi := bit (e.format == 2 || e.format == 3) * bit ((qch s c).st == 2)
       Output.can c e.format (e.flags.toNat / 8 * 8 + e.flags.toNat % 4 + 4 * esi) e.id e.sdt e.vcid e.af e.data ∈ t.out) ∧
      let x := if e.format < 2 then qch s c else { qch s c with delay := loop, ssp := loop + tdcOffset (qpar s c) }
      qch t c = ({ x.pop with tec := (qch s c).tec - 1, ackRun := 0, solitude := false } : QuayCh).confine) ∧
    (late = true → quietError s c e.format true = false → ∃ t, exec (.qbusTxAttempt c loop .sent) s = .next t ∧
      (qch t c).tec = (qch s c).tec + 8 ∧ (qch t c).delay = loop) ∧
    (∃ t, exec (.qbusTxAttempt c loop .arbLost) s = .next t ∧ t.quay = s.quay ∧ t.out = s.out) ∧
    ∀ k dom data, ∃ t, exec (.qbusTxAttempt c loop (.error k dom data)) s = .next t ∧
      (let lim := (qpar s c).retryLimit
       let past := !e.claim && lim != 0 && e.retries == lim
       (past = true → (qch t c).queue = (qch s c).pop.queue ∧ (qch t c).express = (qch s c).pop.express) ∧
       (past = false → (qch t c).queue.length = (qch s c).queue.length ∧
         (qch t c).express.isSome = (qch s c).express.isSome)) ∧
      (qch t c).tec = (if (k = .ack ∧ (qch s c).st = 2 ∧ dom = false) ∨ quietError s c e.format data = true
        then (qch s c).tec else (qch s c).tec + 8)) ∧
  (∀ (s : State) (c : Nat) (f : CanFrame), c ≤ 3 → ((qch s c).st = 1 ∨ (qch s c).st = 2) →
    (∀ k, f.err = some k → ∃ t, exec (.qbusFrameRx c f) s = .next t ∧ (qch t c).rx = (qch s c).rx ∧
      (qch t c).rxc = if quietError s c f.format f.dataPhase then (qch s c).rxc else recBad f.dominant (qch s c).rxc) ∧
    (f.err = none → formatOk (qpar s c).formatSet f.format = true → (qpar s c).listen.contains f.id = false →
      let g : CanFrame := { f with data := if f.format ≤ 1 then f.data.take 8 else f.data }
      ∃ t, exec (.qbusFrameRx c f) s = .next t ∧
        (if (qch s c).rxc ≤ 127 then (qch t c).rxc = (qch s c).rxc - 1 else 119 ≤ (qch t c).rxc ∧ (qch t c).rxc ≤ 127) ∧
        ((qpar s c).listenOnly = false → Output.canFlag c 0 ∈ t.out) ∧
        (firstFilter s c f = none → (qch t c).rx = (qch s c).rx) ∧
        ∀ x, firstFilter s c f = some x → x.action ≠ 0 → rxHeld (qch s c) + (canRecord c g).length ≤ 24576 →
          (qch t c).rx = (qch s c).rx ++
            [{ record := canRecord c g, window := if x.action = 2 then some x.window else none }])) ∧
  (∀ (s : State) (c : Nat), s.sys.hmRuns = true → 3 ≤ s.sys.modState → s.pr.powerFail = false → c ∈ claimChannels s →
    (qch s c).st ≠ 0 → (poolQ s 118).entries = [] → ctrlFits 118 1 s = true →
    ∃ t, exec .claimFrameSend s = .next t ∧ (qch t c).express = some (quayClaimFrame s c) ∧
      ((poolQ s 114).entries = [] → ctrlFits 114 1 s = true → (pairMode s = true ∨ s.cfg.defaultedBit = true) →
        Output.twin (twinClaim s) ∈ t.out) ∧ (qch t c).queue = (qch s c).queue))

/-! ## Feeder metering (chapter 15) -/

/-- The commands of the metering service (R495, R497, R499, R506, R507, R510 to R513): the meters, a point, the last interval
record and the battery log; a point switched and a pulse output set for the next edge; a save that is asked for, and the
log cleared. -/
def Obligations.MeterCommands : Prop :=
  ∀ (s : State) (w : Nat) (c : Cmd), Waits s w c → let p := c.payload
  (c.code = 0x0C01 → Answers (.mtrStatus w) s w c (fun b => b.length = 60 ∧ Holds b 0 1 (bit s.meter.gap) ∧
    Holds b 24 8 s.meter.unaccounted ∧ Holds b 36 4 s.meter.badFrames.toNat ∧ Holds b 56 4 s.meter.saves.toNat)) ∧
  (c.code = 0x0C02 → u8 p 0 ≤ 11 → Answers (.mtrPoint w) s w c (fun b => b.length = 80 ∧ Holds b 0 1 (u8 p 0) ∧
    Holds b 4 12 (mpoint s (u8 p 0)).imp ∧ Holds b 16 12 (mpoint s (u8 p 0)).exp)) ∧
  (c.code = 0x0C03 → Answers (.mtrInterval w) s w c (fun b =>
    b = if s.meter.record = [] then zeros 896 else s.meter.record)) ∧
  (c.code = 0x0C04 → u16 p 0 ≤ 255 → 1 ≤ u8 p 2 → u8 p 2 ≤ 100 → u16 p 0 < s.meter.log.length →
    Answers (.mtrBatteryLog w) s w c (fun b => b = le 2 s.meter.log.length ++ le 2 s.meter.overwritten ++
      ((s.meter.log.drop (u16 p 0)).take (u8 p 2)).flatten)) ∧
  (c.code = 0x0C40 → u8 p 0 ≤ 11 → u8 p 1 ≤ 1 → (billing s (u8 p 0) = false ∨ u8 p 1 = 1) →
    Switches (.mtrPointEnable w) s w c (.meterPoint (u8 p 0)) (decide (u8 p 1 = 1))) ∧
  (c.code = 0x0C41 → mtrPulseBad p = false → (u8 p 1 = 0xFF ∨ pulseRateOk s (u8 p 1) (u32 p 4) = true) →
    Accepts (.mtrPulseSet w) s w c (.pulse (u8 p 0)
      { point := if u8 p 1 = 0xFF then none else some (u8 p 1), export_ := decide (u8 p 2 = 1), const := u32 p 4
        width := u8 p 3 })) ∧
  (c.code = 0x0C42 → s.meter.ask = none → (∀ n v j, s.meter.writing = some (n, v, j) → j = none) →
    ∃ t, exec (.mtrSave w) s = .next t ∧ Answered s t w c stACCEPTED [] ∧
      t.meter = { s.meter with ask := some (jobOf w s, s.clk.ran) }) ∧
  (c.code = 0x0C43 → ∃ t, exec (.mtrBatteryLogClear w) s = .next t ∧
    Answered s t w c stOK (le 2 s.meter.log.length ++ le 2 0) ∧ t.meter = { s.meter with log := [], fresh := 0 })

/-- Sample frames (R29, R485, R487, R491): a good frame in sequence is taken and no point counts import and export at once;
a frame that does not come counts as bad and from the 32nd in a row no energy is counted; a link gap starts and ends; a
channel without crossings runs fixed windows.

Pulses, saves and battery mode (R496 to R500, R505): a due pulse leaves when 10 ms have passed and waits else; a save is
begun into the copy that does not hold the newest one, and its end makes it valid; a burst without a supply runs on, and
one below every threshold ends the run. -/
def Obligations.MeterSamplesAndSaves : Prop :=
  ((∀ (s : State) (n : Nat) (v : List Int), s.meter.on = true → (s.meter.expected = none ∨ s.meter.expected = some n) →
    ∃ t, exec (.mf9SampleFrame n true v) s = .next t ∧ t.meter.badRun = 0 ∧ t.meter.goodRun = s.meter.goodRun + 1 ∧
      t.meter.n = s.meter.n + 1 ∧ t.meter.expected = some ((n + 1) % 65536) ∧ t.meter.prev = v ∧
      ∀ p, p < 12 → ((mpoint t p).imp = (mpoint s p).imp ∨ (mpoint t p).exp = (mpoint s p).exp) ∧
        (pointOn s p = false → mpoint t p = mpoint s p)) ∧
  (∀ s : State, s.meter.on = true → ∃ t, exec .mf9FrameTimeout s = .next t ∧ t.meter.badRun = s.meter.badRun + 1 ∧
    t.meter.goodRun = 0 ∧ t.meter.badFrames = s.meter.badFrames + 1 ∧
    (31 ≤ s.meter.badRun → t.meter.points = s.meter.points ∧ t.meter.gapSamples = s.meter.gapSamples + 1 ∧
      t.meter.outs = s.meter.outs)) ∧
  (∀ s : State, (s.meter.gap = false → 32 ≤ s.meter.badRun → ∃ t, exec .linkGapStart s = .next t ∧
      t.meter = { s.meter with gap := true, linkGaps := s.meter.linkGaps + 1 }) ∧
    (s.meter.gap = true → 64 ≤ s.meter.goodRun → ∃ t, exec .linkGapEnd s = .next t ∧
      t.meter = { s.meter with gap := false, gapNow := 0, flags := s.meter.flags ||| 2 })) ∧
  (∀ (s : State) (c : Nat), c ≤ 5 → s.meter.on = true → (vchan s c).dead = false → (vchan s c).last + 1280 ≤ s.meter.n →
    ∃ t, exec (.noCrossingEntry c) s = .next t ∧ (vchan t c).dead = true ∧ (vchan t c).winStart = s.meter.n ∧
      t.meter.points = s.meter.points) ∧
  (∀ (s : State) (c : Nat), c ≤ 5 → s.meter.on = true → (vchan s c).dead = true → (vchan s c).winStart + 640 ≤ s.meter.n →
    ∃ t, exec (.noCrossingWindow c) s = .next t ∧ (vchan t c).winStart = (vchan s c).winStart + 640 ∧
      (vchan t c).n = 0 ∧ (vchan t c).sq = 0 ∧ t.meter.points = s.meter.points)) ∧
  ((∀ (s : State) (o : Nat), o ≤ 3 → (pout s o).due ≠ 0 →
    ∃ t, exec (.pulseEmit o) s = .next t ∧ (pout t o).due = (pout s o).due - 1 ∧
      if (pout s o).backlog = 0 ∧ spaced s o = true
      then t.out = .pulse o (pulsePar s o).width :: s.out ∧ (pout t o).edge = some s.meter.n ∧ (pout t o).backlog = 0
      else (pout t o).backlog = (pout s o).backlog + 1 ∧ (pout t o).edge = (pout s o).edge) ∧
  (∀ (s : State) (o : Nat), o ≤ 3 → (pout s o).backlog ≠ 0 → spaced s o = true →
    ∃ t, exec (.pulseBacklogEmit o) s = .next t ∧ (pout t o).backlog = (pout s o).backlog - 1 ∧
      (pout t o).edge = some s.meter.n ∧ Output.pulse o (pulsePar s o).width ∈ t.out ∧ (pout t o).due = (pout s o).due) ∧
  (∀ s : State, s.meter.on = true → s.pr.powerFail = false → s.meter.writing = none →
    (s.clk.tide % 6000 = 0 → s.meter.snapped ≠ s.clk.tide + 1 → ∃ (t : State) (c : Nat) (v : MeterSave),
      exec .meteringSave s = .next t ∧ t.meter.writing = some (c, v, none) ∧ v.kind = 0 ∧ v.data = meterData s ∧
      (∀ x, newestSave s.meter = some (0, x) → t.meter.copyA = s.meter.copyA ∧ c = 1 ∧ v.seq = x.seq + 1) ∧
      (∀ x, newestSave s.meter = some (1, x) → t.meter.copyB = s.meter.copyB ∧ c = 0 ∧ v.seq = x.seq + 1)) ∧
    (∀ j r, (s.clk.tide % 6000 ≠ 0 ∨ s.meter.snapped = s.clk.tide + 1) → s.meter.ask = some (j, r) → r < s.clk.ran →
      ∃ (t : State) (c : Nat) (v : MeterSave), exec .meteringSave s = .next t ∧
        t.meter.writing = some (c, v, some j) ∧ v.kind = 2 ∧ v.data = meterData s ∧ t.meter.ask = none)) ∧
  (∀ (s : State) (c : Nat) (v : MeterSave) (j : Option Job), s.meter.writing = some (c, v, j) → c ≤ 1 →
    ∃ t, exec .meteringSaveComplete s = .next t ∧ t.meter.writing = none ∧ t.meter.saves = s.meter.saves + 1 ∧
      (if c = 0 then t.meter.copyA = some v ∧ t.meter.copyB = s.meter.copyB
       else t.meter.copyB = some v ∧ t.meter.copyA = s.meter.copyA)) ∧
  (∀ s : State, s.pr.powerFail = true → s.meter.on = true → s.meter.writing = none →
    ∃ (t : State) (c : Nat) (v : MeterSave), exec .powerFailSaveRepeat s = .next t ∧ t.meter.writing = some (c, v, none) ∧ v.kind = 1 ∧
      v.data = meterData s) ∧
  (∀ (s : State) (codes : List Nat), s.meter.mainOff = true → s.par.meter.battery = true → s.sys.kind = 0 →
    (∃ t r, exec (.batteryBurst false codes) s = .next t ∧ t.meter.run = some r ∧
      r.seconds = (s.meter.run.getD { start := s.rtc.sec }).seconds + 1 ∧ r.flags.getLsbD 2 = true ∧ Only [.meter] s t) ∧
    ((∀ i, i < 8 → burstMa s i (codes.getD i 0) <
        min (tget 1000 s.par.meter.theftMa 0) (tget 1000 s.par.meter.theftMa 1) * fullScale) →
      ∃ t, exec (.batteryBurst true codes) s = .next t ∧ t.meter.run = none)))

/-! ## Lamp strings and signs (chapter 16) -/

/-- The commands of the lamp and sign service (R520, R522, R527, R528, R532, R533): a port, the signs and the statistics;
levels, fault releases, brightness and the switching of ports at an edge; a write that is applied to the back buffer
alone; a swap that waits; a window attached. -/
def Obligations.LampSignCommands : Prop :=
  ∀ (s : State) (w : Nat) (c : Cmd), Waits s w c → let p := c.payload
  (c.code = 0x0D01 → u8 p 0 ≤ 7 → Answers (.lampStatus w) s w c (fun b => b.length = 136 ∧ Holds b 0 1 (u8 p 0) ∧
    Holds b 3 1 (lpar s (u8 p 0)).lamps ∧ Holds b 4 2 (lport s (u8 p 0)).current)) ∧
  (c.code = 0x0D02 → Answers (.signStatus w) s w c (fun b => b.length = 32 ∧ ∀ k, k < 2 → Holds b (16 * k) 1 k ∧
    Holds b (16 * k + 2) 1 (gport s k).front ∧ Holds b (16 * k + 8) 2 (brightOf s k))) ∧
  (c.code = 0x0D03 → Answers (.lampSignStats w) s w c (fun b => b.length = 112 ∧ Holds b 0 8 (stat s 35).endTide ∧
    ∀ i, i < 12 → Holds b (16 + 8 * i) 4 (tget 0 (stat s 35).snapCtr i))) ∧
  (∀ k, c.code = 0x0D40 → u8 p 0 ≤ 7 → u16 p 8 % 1024 ≤ 1000 → (lpar s (u8 p 0)).lamps ≠ 0 →
    u32 p 4 < 2 ^ (lpar s (u8 p 0)).lamps → namedTide s (u64 p 12) = some k →
    ∃ t, exec (.lampLevel w) s = .next t ∧ Answered s t w c stOK (le 8 k) ∧ t.lampSign = s.lampSign ∧ t.changes =
      s.changes ++ [{ tide := k, setting := .lampLevel (u8 p 0) (BitVec.ofNat 32 (u32 p 4)) (u16 p 8) }]) ∧
  (c.code = 0x0D41 → u8 p 0 ≤ 7 → (lpar s (u8 p 0)).lamps ≠ 0 → u32 p 4 < 2 ^ (lpar s (u8 p 0)).lamps →
    ∃ t gone, exec (.lampFaultClear w) s = .next t ∧ Answered s t w c stOK (le 4 gone) ∧ t.lampSign = s.lampSign ∧
      (∀ i, i < 32 → (gone.testBit i = true ↔ (u32 p 4).testBit i = true ∧ (lampOf s (u8 p 0) i).st = 1)) ∧
      t.changes = s.changes ++ [{ tide := nextTide s, setting := .lampClear (u8 p 0) (BitVec.ofNat 32 gone) }]) ∧
  (c.code = 0x0D42 → u8 p 0 ≤ 7 → u8 p 1 ≤ 1 → (lpar s (u8 p 0)).lamps ≠ 0 →
    Switches (.lampEnable w) s w c (.lamp (u8 p 0)) (decide (u8 p 1 = 1))) ∧
  (let q := u8 p 0
   let base := regionBase s q (1 - (gport s q).front)
   let at_ (r k : Nat) := base + 6 * ((u16 p 6 + r) * (gpar s q).width + u16 p 4 + k)
   c.code = 0x0D43 → q ≤ 1 → u8 p 1 ≤ 2 → (gpar s q).width ≠ 0 → u16 p 4 + u16 p 8 ≤ (gpar s q).width →
    u16 p 6 + u16 p 10 ≤ (gpar s q).height → p.length = 12 + u16 p 8 * u16 p 10 * pixelBytes (u8 p 1) →
    (gport s q).off = false → signHeld s q = false → (poolQ s (214 + q)).entries = [] →
    ∃ t, exec (.signWrite w) s = .next t ∧ Answered s t w c stOK [] ∧
      (∀ r k j, r < u16 p 10 → k < u16 p 8 → j < 6 → memRead t (at_ r k + j) =
        (pixelOf (u8 p 1) (p.drop 12) (r * u16 p 8 + k)).getD j 0) ∧
      (∀ a, (∀ r k, r < u16 p 10 → k < u16 p 8 → a < at_ r k ∨ at_ r k + 6 ≤ a) → memRead t a = memRead s a) ∧
      t.lampSign.signs = s.lampSign.signs ∧ t.lampSign.ports = s.lampSign.ports) ∧
  (∀ us k, c.code = 0x0D44 → u8 p 0 ≠ 0 → u8 p 0 ≤ 3 → u8 p 1 ≤ 1 →
    (∀ q, q < 2 → (u8 p 0).testBit q = true →
      (gpar s q).width ≠ 0 ∧ (gport s q).off = false ∧ (gport s q).swap = none) →
    namedTide s (u64 p 4) = some k →
    let late := k = nextTide s ∧ 9000 < us
    let k' := if late then k + 1 else k
    ∃ t, exec (.signSwap w us) s = .next t ∧ Answered s t w c stACCEPTED (le 8 k') ∧
      ∀ q, q < 2 → (gport t q).front = (gport s q).front ∧ (gport t q).swap = if (u8 p 0).testBit q
        then some { tide := k', copy := decide (u8 p 1 = 1), late := decide late
                    notBefore := if late then s.clk.ran + 2 else 0, job := some (jobOf w s) }
        else (gport s q).swap) ∧
  (c.code = 0x0D45 → u8 p 0 ≤ 15 → u8 p 1 ≤ 1 → winOwnsQwin s w (u8 p 0) = true → ltServes s (u8 p 0) = false →
    ∃ t, exec (.signStream w) s = .next t ∧ Answered s t w c stOK [] ∧
      (u8 p 0 ∈ t.lampSign.streams ↔ u8 p 1 = 1) ∧
      ∀ x, x ≠ u8 p 0 → (x ∈ t.lampSign.streams ↔ x ∈ s.lampSign.streams)) ∧
  (c.code = 0x0D46 → u8 p 0 ≤ 1 → u8 p 1 ≤ 1 → (gpar s (u8 p 0)).width ≠ 0 →
    Switches (.signEnable w) s w c (.sign (u8 p 0)) (decide (u8 p 1 = 1))) ∧
  (∀ k, c.code = 0x0D47 → u8 p 0 ≤ 1 → u16 p 2 ≤ 1000 → (gpar s (u8 p 0)).width ≠ 0 → namedTide s (u64 p 4) = some k →
    ∃ t, exec (.signBrightness w) s = .next t ∧ Answered s t w c stOK (le 8 k) ∧ t.lampSign = s.lampSign ∧
      t.changes = s.changes ++ [{ tide := k, setting := .signBright (u8 p 0) (u16 p 2) }])

/-- Lamp strings (R516, R518, R519, R521, R522): in any 1,000 consecutive slots a lamp is lit as often as its level says;
the mask closes the bypass of each lamp of the string that is not lit or is in forced bypass; the frame of a slot carries
its number and the mask sent for it; status frames are kept or counted; the third tide in a row without one loses the
link, and a lamp whose board reports AUTO_BYPASS is OPEN at once.

Signs (R525, R526, R528): a frame starts with the front region, and a swap that is armed takes effect just before it; a
sync edge schedules a frame 20 µs later, or is counted where one is on the line or waits; a sync that does not come lets
the output fall back, and an edge ends that; a swap at its edge makes the back buffer the front one, or is armed; the copy
of the new front region. -/
def Obligations.LampStringsAndSigns : Prop :=
  ((∀ n i l k0 : Nat, l ≤ 1000 → ((List.range 1000).filter fun k => litIn n i l (k0 + k)).length = l) ∧
  (∀ (s : State) (p k i : Nat) (next : Bool), i < 32 → (maskAt s p next k).getLsbD i =
    (decide (i < (lpar s p).lamps) && (forced s p i next || !litIn (lpar s p).lamps i (effLevel s p i next) k))) ∧
  (∀ (s : State) (p : Nat), lampRuns s p = true →
    let k := (lport s p).slot
    let f := slotFrame s p (if k ≤ 999 then k else 1023) (if k < 999 then maskAt s p false (k + 1)
      else if k = 999 then maskAt s p true 0 else (lport s p).mask)
    f.length = 12 ∧ ∃ t, exec (.lampSlotFrame p) s = .next t ∧ t.out = .lamp p f :: s.out ∧
      (lport t p).slot = min (k + 1) 1000 ∧ (lport t p).lamps = (lport s p).lamps ∧
      ∀ q, q ≠ p → lport t q = lport s q) ∧
  (∀ (s : State) (p : Nat) (f : List Byte), lampRuns s p = true → u8 f 0 = 0xC3 →
    ∃ t, exec (.lampStatusFrame p f) s = .next t ∧
      if f.length = 12 ∧ f.getD 11 0 = crc8 (f.take 11)
      then tget [] (lport t p).seen (u16 f 1 % 1024) = slice f 3 8 ∧
        ∀ k, k ≠ u16 f 1 % 1024 → tget [] (lport t p).seen k = tget [] (lport s p).seen k
      else t.lampSign = s.lampSign) ∧
  (∀ (s : State) (p : Nat), lampRuns s p = true → ∃ t, exec (.lampStatusCollect p) s = .next t ∧
    t.lampSign = s.lampSign ∧ ((poolQ t (222 + p)).entries = (poolQ s (222 + p)).entries ∨ ∃ e : Entry,
      e.bytes = statusRecord s p ∧ (poolQ t (222 + p)).entries = (poolQ s (222 + p)).entries ++ [e])) ∧
  (∀ (s : State) (p : Nat), lampRuns s p = true → ∃ t, exec (.lampFaultEval p) s = .next t ∧
    (lport t p).seen = [] ∧ (poolQ t (222 + p)).entries = [] ∧
    ((lport s p).seen = [] → (lport t p).missed = min ((lport s p).missed + 1) 3 ∧ (lport t p).lamps = (lport s p).lamps ∧
      (lport t p).lost = ((lport s p).lost || decide (2 ≤ (lport s p).missed))) ∧
    ((lport s p).seen ≠ [] → (lport t p).missed = 0 ∧ (lport t p).lost = false ∧
      ((poolQ s (222 + p)).entries ≠ [] → (∀ e ∈ (poolQ s (222 + p)).entries, isBad s e = false) → ∀ i, i < (lpar s p).lamps → ∀ d, tget [] (lport s p).seen (2 + i) = d → d ≠ [] →
        ((lampOf s p i).st = 1 ∨ (u8 d 2).testBit 1 = true ↔ (lampOf t p i).st = 1))))) ∧
  ((∀ (s : State) (p : Nat), signRuns s p = true → (syncLocked s p = false ∨ (gport s p).due ≠ none) →
    (∀ x, (gport s p).swap = some x → x.armed = false) →
    ∃ t, exec (.signFrameStart p) s = .next t ∧ t.out = .sign p (signFrame s p) :: s.out ∧ (gport t p).first = false ∧
      (gport t p).due = none ∧ (gport t p).front = (gport s p).front ∧
      (gport t p).busy = ((gport s p).due).getD (instant s 100) + frameUs (gpar s p)) ∧
  (∀ (s : State) (p : Nat) (x : SignSwap), signRuns s p = true → (gport s p).due ≠ none → (gport s p).swap = some x →
    x.armed = true → ∃ t b, exec (.signFrameStart p) s = .next t ∧ (gport t p).front = 1 - (gport s p).front ∧
      (gport t p).swap = none ∧ (gport t p).copying = x.copy ∧ Output.sign p b ∈ t.out ∧
      Holds b 3 1 (bit ((gport t p).front == 1) + 2)) ∧
  (∀ (s : State) (us p : Nat), p < 2 → signRuns s p = true → (gpar s p).mode = 1 →
    ∃ t, exec (.signSyncEdge us) s = .next t ∧ (gport t p).fellBack = false ∧ (gport t p).due =
      if (gport s p).due = none ∧ (gport s p).busy ≤ instant s us then some (instant s us + 20) else (gport s p).due) ∧
  (∀ (s : State) (p : Nat), signRuns s p = true → syncLocked s p = true → (gport s p).due = none →
    ∃ t, exec (.signSyncTimeout p) s = .next t ∧ (gport t p).fellBack = true ∧ t.lampSign.mem = s.lampSign.mem ∧
      ∀ q, q ≠ p → gport t q = gport s q) ∧
  (∀ (s : State) (p : Nat) (x : SignSwap), p ≤ 1 → (gport s p).swap = some x → x.tide ≤ s.clk.tide → x.notBefore ≤ s.clk.ran →
    x.armed = false →
    ∃ t, exec (.signSwapEdge p) s = .next t ∧
      if syncLocked s p = true then (gport t p).front = (gport s p).front ∧ (gport t p).swap = some { x with armed := true }
      else (gport t p).front = 1 - (gport s p).front ∧ (gport t p).swap = none ∧ (gport t p).first = true ∧
        (gport t p).copying = x.copy) ∧
  (∀ (s : State) (p : Nat), p < 2 → (gport s p).copying = true → ∃ t, exec (.swapCopyComplete p) s = .next t ∧
    (gport t p).copying = false ∧ (gport t p).front = (gport s p).front ∧
    ((poolQ s (214 + p)).entries = [] → ∀ k, k < 6 * signPixels (gpar s p) →
      memRead t (regionBase s p (1 - (gport s p).front) + k) = memRead s (regionBase s p (gport s p).front + k))))

/-! ## Power feeds, pilot and tender (chapter 17) -/

/-- The commands of the redundancy service (R552, R557, R558, R560 to R562, R646): the role, the partner's report, the
checkpoints and the temperature; a switchover that waits and starts its checkpoint, a lowered term that waits for its
edge, a rehearsal that is asked for. -/
def Obligations.RedundancyCommands : Prop :=
  ∀ (s : State) (w : Nat) (c : Cmd), Waits s w c → let p := c.payload
  (c.code = 0x0E01 → Answers (.prStatus w) s w c (fun b => b.length = 48 ∧ Holds b 0 1 (roleCode s) ∧
    Holds b 1 1 (unitNo s) ∧ Holds b 2 2 (claim s) ∧ Holds b 4 2 s.pr.partner ∧ Holds b 32 8 s.pr.roleTide ∧
    Holds b 44 4 s.pr.rejected.toNat)) ∧
  (c.code = 0x0E02 → Answers (.prHealth w) s w c (fun b => b = s.pr.report)) ∧
  (c.code = 0x0E03 → let l := if s.sys.tender = true then s.pr.stored else s.pr.own
    Answers (.prCheckpoints w) s w c (fun b => b.length = 4 + 24 * l.length ∧ Holds b 0 1 l.length ∧
      ∀ k x, l[k]? = some x → Holds b (4 + 24 * k) 4 x.seq ∧ Holds b (8 + 24 * k) 8 x.tide)) ∧
  (c.code = 0x0E04 → Answers (.prThermalStatus w) s w c (fun b => b.length = 4 ∧ Holds b 0 1 s.pr.level)) ∧
  (c.code = 0x0E40 → s.sys.tender = false → pairMode s = true → s.pr.handover = none → s.clk.tide + 200 ≤ u64 p 0 →
    ∃ t h, exec (.prSwitchover w) s = .next t ∧ Answered s t w c stACCEPTED (le 8 (u64 p 0)) ∧
      t.pr.handover = some h ∧ h.tide = u64 p 0 ∧ h.job = jobOf w s ∧ h.checked = false ∧
      (s.cluster.st = 2 → h.seq = some t.pr.ckptSeq ∧ t.pr.ckptSeq = (s.pr.ckptSeq + 1) % 2 ^ 32 ∧
        ∃ k, t.pr.sending = some k ∧ k.seq = t.pr.ckptSeq ∧ k.tide = s.clk.tide) ∧ t.sys = s.sys) ∧
  (c.code = 0x0E41 → u16 p 0 ≠ 0 → u16 p 0 ≤ 16383 → s.sys.tender = false → pairMode s = true → s.fleet.on = false →
    s.clk.tide + 100 ≤ u64 p 4 →
    ∃ t, exec (.prTermSet w) s = .next t ∧ Answered s t w c stOK (le 8 (u64 p 4)) ∧
      t.pr = { s.pr with termSet := some (u16 p 0, u64 p 4) }) ∧
  (c.code = 0x0E42 → s.sys.tender = true → s.pr.rehearsal = none → s.pr.rehearseAsk = none →
    ∃ t, exec (.prRehearse w) s = .next t ∧ Answered s t w c stACCEPTED [] ∧
      t.pr = { s.pr with rehearseAsk := some (jobOf w s) })

/-- Feeds, claims, the twin link, checkpoints and health reports (R535, R545, R546, R549, R550, R552, R553, R557, R558): a
feed's state follows its voltage with hysteresis, and its switch stays open until 100 ms below 61.0 V; a frame without
UNIT or below the highest claim of 8 tides is not acted on; frames without a valid tag are counted alone; a checkpoint is
kept when it is whole; the report, the rehearsal, the check of a switchover and the lowered term. -/
def Obligations.FeedsAndPartner : Prop :=
  (∀ (s : State) (f volt cur : Nat), f ≤ 1 → let mv := volt / 100 * 100; ∃ t, exec (.feedSample f volt cur) s = .next t ∧
    (feedOf t f).mv = mv ∧ (feedOf t f).ma = cur / 10 * 10 ∧ (∀ g, g ≠ f → feedOf t g = feedOf s g) ∧
    (feedOf t f).below = (if mv < 61000 then (feedOf s f).below + 1 else 0) ∧
    ((feedOf s f).st = 3 ∨ 63000 < mv → (feedOf t f).st = 3) ∧
    ((feedOf s f).st ≠ 3 → (mv < 18000 → (feedOf t f).st = 4) ∧ (18000 ≤ mv → mv < 35000 → (feedOf t f).st = 1) ∧
      (36000 ≤ mv → mv ≤ 60000 → (feedOf t f).st = 0) ∧ (61000 < mv → mv ≤ 63000 → (feedOf t f).st = 2) ∧
      ((feedOf s f).st ≤ 2 → (35000 ≤ mv ∧ mv < 36000 ∧ (feedOf s f).st ≠ 2 ∨ 60000 < mv ∧ mv ≤ 61000 ∧ (feedOf s f).st ≠ 1) →
        (feedOf t f).st = (feedOf s f).st))) ∧
  (∀ (s : State) (f : Nat), f ≤ 1 → (feedOf s f).st = 3 → 1000 ≤ (feedOf s f).below → (feedOf s f).mv < 61000 →
    ∃ t, exec (.feedReclose f) s = .next t ∧ (feedOf t f).st ≠ 3 ∧ (feedOf t f).mv = (feedOf s f).mv) ∧
  (∀ (s : State) (b : Bool), exec (.claimLineSample b) s = .next { s with pr := { s.pr with
    line := b, alive := b != s.pr.line, deadRun := if b = s.pr.line then s.pr.deadRun + 1 else 0 } }) ∧
  (∀ (c n : Nat) (s : State),
    (c % 4 = 0 → hear c n s = (false, s)) ∧
    (c % 4 ≠ 0 → (hear c n s).2.pr.heard = s.pr.heard.filter (fun x => s.clk.tide < x.2 + 8) ++ [(c, n)] ∧
      ((hear c n s).1 = true ↔ ∀ x ∈ (hear c n s).2.pr.heard, x.1 ≤ c))) ∧
  (∀ (s : State) (b : List Byte), u8 b 0 = 6 → ctrlFits 115 (berths b.length) s = true →
    (twinTagOk s 10 b = true → ∃ t, exec (.twinClaimFrameRx b) s = .next t ∧ t.pr.up = true ∧ t.pr.lastTwin = s.clk.ran ∧
      t.pr.partner = u16 b 2 ∧ t.pr.anyNow = true ∧ t.pr.pilotNow = (s.pr.pilotNow || u8 b 11 == 1) ∧
      (s.sys.tender = false → claim s < u16 b 2 → u16 b 2 % 4 ≠ 0 →
        (∀ x ∈ s.pr.heard, s.clk.tide < x.2 + 8 → x.1 ≤ u16 b 2) → t.pr.demote = some (u16 b 2 / 4))) ∧
    (twinTagOk s 10 b = false → ∃ t, exec (.twinClaimFrameRx b) s = .next t ∧
      t.pr = { s.pr with rejected := s.pr.rejected + 1 })) ∧
  (∀ s : State, s.pr.up = true → (∃ t, exec .twinLinkSyncLoss s = .next t ∧ t.pr = { s.pr with up := false }) ∧
    (s.pr.lastTwin + 3 ≤ s.clk.ran → ∃ t, exec .twinLinkTimeout s = .next t ∧ t.pr = { s.pr with up := false })) ∧
  (∀ s : State, s.sys.tender = false → s.cluster.st = 2 → s.clk.tide % 100 = 0 →
    (∀ c, s.pr.sending = some c → c.tide ≠ s.clk.tide) →
    ∃ t c, exec .checkpointStart s = .next t ∧ t.pr = { s.pr with sending := some c, ckptSeq := (s.pr.ckptSeq + 1) % 2 ^ 32 } ∧
      c.seq = (s.pr.ckptSeq + 1) % 2 ^ 32 ∧ c.tide = s.clk.tide ∧ c.body = serviceNow s) ∧
  (∀ s : State, s.sys.tender = true →
    (∀ q n l x v f, ctrlFits 115 1 s = true → ∃ t, exec (.checkpointBlockRx (.header q n l x v f)) s = .next t ∧
      t.pr.rx = some { head := { seq := q, tide := n, len := l, serial := x, image := v, format := f } }) ∧
    (∀ r d x, s.pr.rx = some r → ctrlFits 115 (berths (8 + d.length)) s = true →
      (x ≠ crc32c d → ∃ t, exec (.checkpointBlockRx (.block (r.data.length / 65536) x d)) s = .next t ∧
        t.pr.rx = none ∧ t.pr.stored = s.pr.stored) ∧
      (x = crc32c d → r.data.length % 65536 = 0 →
        ∃ t, exec (.checkpointBlockRx (.block (r.data.length / 65536) x d)) s = .next t ∧
          t.pr.rx = some { r with data := r.data ++ d } ∧ t.pr.stored = s.pr.stored)) ∧
    ∀ r g a, s.pr.rx = some r → ctrlFits 115 (berths (g.length + a.length)) s = true →
      ∃ t, exec (.checkpointBlockRx (.trailer g a)) s = .next t ∧ t.pr.rx = none ∧
      if r.data.length = r.head.len ∧ g = sha256 (ckptHead r.head ++ r.data) ∧ a = ckptTag s r.head g
      then ∃ c, t.pr.stored = (c :: s.pr.stored).take 2 ∧ c.seq = r.head.seq ∧ c.body = Config.serviceOf r.data ∧
        c.usable = (r.head.image == currentVersion s && readsFormat s r.head.format)
      else t.pr.stored = s.pr.stored) ∧
  (∀ s : State, s.sys.tender = true → pairMode s = true → s.clk.tide % 100 = 50 → ctrlFits 114 1 s = true →
    (poolQ s 114).entries = [] → ∃ t, exec .healthReportSend s = .next t ∧
      t.pr = { s.pr with tests := testsOf s, report := reportBytes s } ∧
      Output.twin (reportBytes s ++ twinTag s s.clk.tide (unitNo s) 8 (reportBytes s)) ∈ t.out) ∧
  (∀ (s : State) (b : List Byte), s.sys.tender = false → u8 b 0 = 8 → ctrlFits 115 (berths b.length) s = true →
    (twinTagOk s 1 b = true → ∃ t, exec (.healthReportRx b) s = .next t ∧ t.pr.report = b.take 28 ∧
      t.pr.reportRan = s.clk.ran ∧ t.pr.baseline = some (BitVec.ofNat 16 (u16 b 8)) ∧ t.pr.overdue = false ∧
      t.pr.partnerCkpt = u32 b 12) ∧
    (twinTagOk s 1 b = false → ∃ t, exec (.healthReportRx b) s = .next t ∧
      t.pr = { s.pr with rejected := s.pr.rejected + 1 })) ∧
  (∀ s : State, s.sys.tender = false → pairMode s = true → s.pr.overdue = false →
    max s.pr.reportRan s.pr.roleRan + 300 ≤ s.clk.ran →
    ∃ t, exec .healthReportTimeout s = .next t ∧ t.pr = { s.pr with overdue := true, baseline := none }) ∧
  (∀ s : State, s.sys.tender = true → s.pr.rehearsal = none → (s.clk.tide % 360000 = 0 ∨ s.pr.rehearseAsk ≠ none) →
    exec .rehearsalStart s = .next { s with pr := { s.pr with
      rehearsal := some (s.clk.tide, s.pr.rehearseAsk), rehearseAsk := none } }) ∧
  (∀ (s : State) (b : Bool) (ms : Nat), s.pr.rehearsal ≠ none → ∃ t, exec (.rehearsalComplete b ms) s = .next t ∧
    t.pr = { s.pr with rehearsal := none, rehearsed := some (b, ms, s.clk.ran) }) ∧
  (∀ (s : State) (h : Handover), s.sys.tender = false → s.pr.handover = some h → h.checked = false →
    h.tide ≤ s.clk.tide + 10 → ∃ t, exec .switchoverCheck s = .next t ∧
      t.pr.handover = if handoverOk s h = true then some { h with checked := true } else none) ∧
  (∀ (s : State) (x e : Nat), s.pr.termSet = some (x, e) → e ≤ s.clk.tide → exec .termSetEdge s = .next { s with
    pr := { s.pr with term := x, topTerm := 0, termSet := none, termHalt := some (s.clk.ran + 10) } }) ∧
  (∀ (s : State) (e : Nat), s.pr.termHalt = some e → e ≤ s.clk.ran →
    exec .termHaltExpiry s = .next { s with pr := { s.pr with termHalt := none } })

/-- Changes of role (R539, R540, R547, R554, R555, R557): a tender takes over after five silent tides, or at the edge of a
switchover, with a term above every term it stored or heard, every zone halted until its cluster is restored, and each
radio table entry's last ASN that of the edge less one; a pilot that accepted a higher claim, or hands over, becomes
tender with its relays open and no service; a module in single mode is pilot from the first edge after its start-up. -/
def Obligations.RoleChanges : Prop :=
  (∀ s : State, mayTakeOver s = true →
    let pilot (t : State) : Prop := t.sys.tender = false ∧ t.pr.term = max s.pr.term s.pr.topTerm + 1 ∧
      t.pr.takeover = true ∧ t.pr.silent = 0 ∧ t.pr.roleTide = s.clk.tide ∧ t.pr.rx = none ∧ t.cluster.st = 1 ∧
      t.cluster.restoring = true ∧ t.cluster.refill = true ∧ t.fleet.relays = s.fleet.relays ∧
      t.pr.stored = s.pr.stored ∧ t.radio.links.map (·.1) = s.radio.links.map (·.1) ∧
      ∀ l ∈ t.radio.links, l.2.lastAsn = asnBefore l.2.x s.clk.tide
    (5 ≤ s.pr.silent → ∃ t, exec .takeover s = .next t ∧ pilot t) ∧
    (pairMode s = true → ∃ t, exec .switchoverEdge s = .next t ∧ pilot t)) ∧
  (∀ s : State, mayTakeOver s = false ∨ s.pr.silent < 5 → exec .takeover s = .next s) ∧
  (∀ (s : State) (x : Nat), s.pr.demote = some x → s.sys.tender = false → pairMode s = true →
    ∃ t, exec .demotionEdge s = .next t ∧ t.sys.tender = true ∧ t.pr.term = x ∧ t.fleet.relays = 0 ∧
      t.cluster.st = 0 ∧ t.lantern.nodes = [] ∧ t.radio.links = [] ∧ t.fleet.tasks = [] ∧ t.fleet.held = [] ∧
      t.pr.demote = none ∧ t.pr.roleTide = s.clk.tide ∧ t.fleet.host = s.fleet.host) ∧
  (∀ (s : State) (h : Handover), s.sys.tender = false → s.pr.handover = some h → h.checked = true → h.tide ≤ s.clk.tide →
    ∃ t, exec .switchoverEdge s = .next t ∧ t.sys.tender = true ∧ t.pr.term = s.pr.term ∧ t.fleet.relays = 0 ∧
      t.cluster.st = 0 ∧ t.pr.handover = none ∧ t.lantern.nodes = []) ∧
  (∀ s : State, s.sys.tender = true → s.sys.modState = 4 → s.par.pr.pair = false → s.cfg.defaultedBit = false →
    s.sys.roleDue = true → ∃ t, exec .roleStart s = .next t ∧ t.sys.tender = false ∧ t.sys.roleDue = false ∧
      t.pr.term = s.pr.term ∧ t.pr.takeover = s.pr.takeover ∧ t.cluster = s.cluster)

/-! ## Firmware and package update (chapter 18) -/

/-- The commands of the update service (R572 to R576, R579, R581, R582, R584, R585, R589 to R592): the service, the
manifests, the images, a campaign and a node of one; a load begun, its bytes checked as they arrive, its end, which asks
for the verification; an activation or a rollback that waits for its tide; an install, a confirmation and a cancel; a
campaign started and stopped; an image deleted. -/
def Obligations.UpdateCommands : Prop :=
  ∀ (s : State) (w : Nat) (c : Cmd), Waits s w c → let p := c.payload
  (c.code = 0x0F01 → Answers (.updStatus w) s w c (fun b => b.length = 52 ∧ Holds b 0 1 s.upd.st ∧
    Holds b 4 8 s.upd.held.length ∧ Holds b 12 8 s.upd.total ∧ Holds b 20 1 s.boot.activeArea ∧
    Holds b 21 1 s.boot.otpEpoch ∧ Holds b 48 2 (keysWord s))) ∧
  (∀ e, c.code = 0x0F02 → u8 p 0 ≤ 2 → (manifestWhich s (u8 p 0)).2[u16 p 2]? = some e →
    Answers (.updManifest w) s w c (fun b => b.length = 144 ∧ b.drop 48 = (e ++ zeros 96).take 96)) ∧
  (c.code = 0x0F03 → u8 p 0 ≤ 63 → let l := (s.upd.images.drop (u8 p 0)).take 32
    Answers (.updImages w) s w c (fun b => b.length = 4 + 16 * l.length ∧ Holds b 0 1 s.upd.images.length ∧
      ∀ k x, l[k]? = some x → Holds b (4 + 16 * k) 2 x.id ∧ Holds b (12 + 16 * k) 4 x.version)) ∧
  (c.code = 0x0F04 → u8 p 0 ≤ 3 → Answers (.updCampaignStatus w) s w c (fun b => b.length = 34 ∧
    Holds b 0 1 (u8 p 0) ∧ Holds b 1 1 (camp s (u8 p 0)).st ∧ Holds b 26 8 (camp s (u8 p 0)).startTide ∧
    ∀ k, k < 9 → Holds b (8 + 2 * k) 2 ((campNodes s (u8 p 0)).filter fun n => (cnode s n).st == k).length)) ∧
  (c.code = 0x0F05 → u16 p 0 ≤ 4095 → Answers (.updCampaignNode w) s w c (fun b => b.length = 16 ∧
    Holds b 2 1 (cnode s (u16 p 0)).campaign ∧ Holds b 3 1 (cnode s (u16 p 0)).st ∧
    Holds b 12 4 (cnode s (u16 p 0)).blocks)) ∧
  (c.code = 0x0F40 → u64 p 0 ≤ packageMax → (s.upd.st = 0 ∨ s.upd.st = 4) →
    ∃ t, exec (.updLoadBegin w) s = .next t ∧ Answered s t w c stOK [] ∧ t.upd = { s.upd with
      st := 1, owner := some (w, (win s w).sid), total := u64 p 0, held := [], verified := false }) ∧
  (c.code = 0x0F41 → 1 ≤ u16 p 8 → u16 p 8 ≤ 3820 → s.upd.st = 1 → ownsPackage w s = true →
    u64 p 0 = s.upd.held.length → s.upd.held.length + u16 p 8 ≤ s.upd.total →
    let r := checkArrived s.upd.total s.upd.held.length (s.upd.held ++ p.drop 12)
    ∃ t, exec (.updLoadData w) s = .next t ∧ t.upd = { s.upd with held := r.1 } ∧
      if r.2 = true then Answered s t w c stOK (le 8 r.1.length) else Answered s t w c stINTEG []) ∧
  (c.code = 0x0F42 → ownsPackage w s = true → s.upd.st = 1 → s.upd.total ≤ s.upd.held.length →
    ∃ t, exec (.updLoadEnd w) s = .next t ∧ Answered s t w c stACCEPTED [] ∧
      t.upd = { s.upd with st := 2, job := some (jobOf w s) }) ∧
  (c.code = 0x0F43 → s.upd.st = 1 → ownsPackage w s = true → ∃ t, exec (.updCancel w) s = .next t ∧
    t.upd.held = [] ∧ t.upd.owner = none ∧ t.upd.verified = false ∧ t.upd.st = if s.upd.ready = true then 4 else 0) ∧
  (∀ a, c.code = 0x0F43 → s.upd.st = 5 → s.upd.sched = some a → nextTide s < a.tide →
    ∃ t, exec (.updCancel w) s = .next t ∧ t.upd.sched = none ∧ t.upd.st = (if s.upd.ready = true then 4 else 0) ∧
      t.upd.held = s.upd.held ∧ t.boot = s.boot) ∧
  (c.code = 0x0F43 → s.upd.st = 6 → s.upd.sched = none → s.boot.trial = true →
    ∃ t, exec (.updCancel w) s = .next t ∧ t.sys.kind = 7 ∧ t.sys.modState = 0 ∧ t.boot.activeArea = s.boot.activeArea) ∧
  (pairPilot s = false → s.cfg.apply = none → s.clk.tide + 100 ≤ u64 p 0 → u64 p 0 ≤ s.clk.tide + 259200000 → u8 p 8 ≤ 1 →
    let waits (roll : Bool) (t : State) : Prop := Answered s t w c stACCEPTED (le 8 (u64 p 0)) ∧ t.upd.st = 5 ∧
      t.upd.sched = some { tide := u64 p 0, mode := u8 p 8, rollback := roll, job := jobOf w s } ∧
      t.upd.held = s.upd.held ∧ t.boot = s.boot
    (c.code = 0x0F44 → s.upd.st = 4 → ∃ t, exec (.updActivate w) s = .next t ∧ waits false t) ∧
    (c.code = 0x0F46 → (s.upd.st = 0 ∨ s.upd.st = 4) → fwSlotOf s (inactiveSlot s) ≠ .empty →
      s.boot.otpEpoch ≤ u8 (fwHeader s (inactiveSlot s)) 40 → ∃ t, exec (.updRollback w) s = .next t ∧ waits true t)) ∧
  (∀ x, c.code = 0x0F45 → s.upd.trial = some x → x.ready = true → x.mode = 1 →
    ∃ t, exec (.updConfirm w) s = .next t ∧ Answered s t w c stOK [] ∧
      t.upd = { s.upd with trial := some { x with asked := true } }) ∧
  (c.code = 0x0F47 → s.upd.verified = true → u8 s.upd.held 16 = 1 → (s.upd.st = 0 ∨ s.upd.st = 4) →
    ∃ t, exec (.updInstall w) s = .next t ∧ Answered s t w c stACCEPTED [] ∧ t.upd.st = 3 ∧
      t.upd.job = some (jobOf w s) ∧ fwSlotOf t (inactiveSlot s) = .empty ∧
      fwSlotOf t s.boot.activeArea = fwSlotOf s s.boot.activeArea ∧ t.boot.activeArea = s.boot.activeArea) ∧
  (c.code = 0x0F48 → campaignBad p = false → s.cluster.st ≠ 1 → campUsed s (u8 p 0) = false →
    (∃ x ∈ s.upd.images, x.id = u16 p 2) → (∀ n ∈ campTargets s p, inCampaign s n = false) →
    (u8 p 5 = 1 ∨ s.clk.tide + 200 ≤ u64 p 12) →
    ∃ t, exec (.updCampaignStart w) s = .next t ∧ Answered s t w c stOK [] ∧ (camp t (u8 p 0)).image = u16 p 2 ∧
      (camp t (u8 p 0)).tag = (s.upd.tag + 1) % 65536 ∧ (camp t (u8 p 0)).startTide = s.clk.tide ∧
      ∀ n ∈ campTargets s p, (cnode t n).campaign = u8 p 0 ∧
        (cnode t n).st = if skipped s (imageOfId s (u16 p 2)) n = true then 7 else 0) ∧
  (c.code = 0x0F49 → u8 p 0 ≤ 3 → s.cluster.st ≠ 1 → 1 ≤ (camp s (u8 p 0)).st → (camp s (u8 p 0)).st ≤ 3 →
    ∃ t, exec (.updCampaignStop w) s = .next t ∧ Answered s t w c stOK [] ∧ (camp t (u8 p 0)).st = 5 ∧
      (∀ n, n ∉ campNodes s (u8 p 0) → cnode t n = cnode s n) ∧
      ∀ n, (cnode s n).st = 3 → cnode t n = cnode s n) ∧
  (c.code = 0x0F4A → (∃ x ∈ s.upd.images, x.id = u16 p 0) →
    (∀ k, k < 4 → campUsed s k = true → (camp s k).image ≠ u16 p 0) →
    ∃ t, exec (.updImageDelete w) s = .next t ∧ Answered s t w c stOK [] ∧
      t.upd = { s.upd with images := s.upd.images.filter fun x => x.id != u16 p 0 })

/-- What the update service does on its own (R572, R574, R575, R577 to R581, R584, R588): a package is verified and then
installed, imported or applied, or discarded; an install writes the slot that does not run; the activation saves the
control record and resets into the trial; the confirmation makes the trial's slot the active one and raises the OTP epoch,
and a trial that is not confirmed in its window ends in the REVERT reset; FW_ACTIVATE is sent again for the
first tide from 200 tides later on that its wave has room for. -/
def Obligations.UpdateRuns : Prop :=
  (∀ s : State, s.upd.st = 2 → ∃ t, exec .packageVerifyComplete s = .next t ∧
    (verifyPackage s s.upd.held ≠ stOK → t.upd.held = [] ∧ t.upd.verified = false ∧ t.upd.owner = none ∧
      t.upd.st = (if s.upd.ready = true then 4 else 0) ∧ t.upd.slots = s.upd.slots ∧ t.upd.keys = s.upd.keys) ∧
    (verifyPackage s s.upd.held = stOK → t.upd.verified = true ∧
      (u8 s.upd.held 16 = 1 → t.upd.st = 3 ∧ fwSlotOf t (inactiveSlot s) = .empty ∧ t.upd.keys = s.upd.keys) ∧
      (u8 s.upd.held 16 = 2 → t.upd.images = s.upd.images ++ (newImages s s.upd.held).map (imageOf s.upd.held) ∧
        t.upd.slots = s.upd.slots) ∧
      (u8 s.upd.held 16 = 3 → t.upd.keys = (applyKeys (keyRecordOf s.upd.held) s).upd.keys ∧ t.upd.slots = s.upd.slots))) ∧
  (∀ (s : State) (good : Bool), s.upd.st = 3 → s.boot.activeArea ≤ 1 → ∃ t, exec (.installComplete good) s = .next t ∧
    t.boot.activeArea = s.boot.activeArea ∧ fwSlotOf t s.boot.activeArea = fwSlotOf s s.boot.activeArea ∧
    if good = true then t.upd.st = 4 ∧ t.upd.ready = true ∧ fwSlotOf t (inactiveSlot s) = setOf s.upd.held ∧
        t.boot.sealOk.getLsbD (inactiveSlot s) = true ∧ tget {} t.boot.seals (inactiveSlot s) = sealOf s.upd.held
      else fwSlotOf t (inactiveSlot s) = fwSlotOf s (inactiveSlot s) ∧ t.boot.sealOk = s.boot.sealOk) ∧
  (∀ (s : State) (a : Activation), s.upd.sched = some a → a.tide ≤ s.clk.tide → ∃ t x, exec .activationEdge s = .next t ∧
    t.sys.kind = 6 ∧ t.sys.modState = 0 ∧ t.boot.trial = true ∧ t.boot.trialArea = inactiveSlot s ∧
    t.boot.activeArea = s.boot.activeArea ∧ t.upd.trial = some x ∧ x.mode = a.mode ∧ x.start = s.clk.tide ∧
    x.record = ctrl s ∧ x.job = a.job ∧ t.upd.st = 6 ∧
    (s.cfg.cur = pickRecord s → slotOf s .pending = none → t.cfg.slots = s.cfg.slots) ∧ t.fleet.host = s.fleet.host) ∧
  (∀ (s : State) (x : Trial), s.upd.trial = some x → confirmReady s = true → (x.mode = 0 ∨ x.asked = true) →
    ∃ t, exec .confirmation s = .next t ∧ t.boot.activeArea = s.boot.trialArea ∧ t.boot.trial = false ∧
      t.boot.otpEpoch = max s.boot.otpEpoch (u8 (fwHeader s s.boot.trialArea) 40) ∧ t.upd.trial = none ∧
      t.upd.st = 0 ∧ t.upd.lastKind = 5) ∧
  (∀ (s : State) (x : Trial), s.upd.trial = some x → s.boot.trial = true → s.sys.hmRuns = true → 30000 ≤ trialGone s x →
    ∃ t, exec .trialWindowExpiry s = .next t ∧ t.sys.kind = 7 ∧ t.sys.modState = 0 ∧ t.boot.trial = false ∧
      t.boot.activeArea = s.boot.activeArea ∧ t.boot.otpEpoch = s.boot.otpEpoch ∧ t.upd.trial = none) ∧
  (∀ (s : State) (n : Nat), (cnode s n).campaign ≠ 0xFF → (cnode s n).st = 2 → (cnode s n).sends ≠ 0 →
    (cnode s n).at_ ≤ s.clk.tide + 50 → ∃ t, exec (.fwActivateResend n) s = .next t ∧
      if 3 ≤ (cnode s n).sends then (cnode t n).st = 5
      else if (camp s (cnode s n).campaign).st = 1
        then (cnode t n).st = 2 ∧ (cnode t n).at_ = waveTide s (cnode s n).campaign ((cnode s n).at_ + 200) ∧
          (cnode s n).at_ + 200 ≤ (cnode t n).at_ ∧ (cnode t n).sends = (cnode s n).sends + 1
        else t.upd = s.upd)

/-! ## Pins and temperature (chapter 21) -/

/-- GPIO pins and thermal derating (R637 to R639, R645, R646): the pins read, outputs set for an edge, an input's edge
counted with the instant of the first one of its tide; the level rises at once to the highest that the mean exceeds, falls
by one at 3 °C below its entry, and at level 4 the application cluster stops until the level falls. -/
def Obligations.PinsAndTemperature : Prop :=
  (∀ (s : State) (w : Nat) (c : Cmd), Waits s w c → let p := c.payload
    (c.code = 0x1103 → Answers (.sysGpio w) s w c (fun b => b.length = 8 ∧ Holds b 2 2 s.gpio.outs.toNat ∧
      ∀ i, i < 16 → (u16 b 0).testBit i = gpioLevel s i ∧
        ((∀ k, k < 16 → gpioMode s k ≤ 3) → u32 b 4 / 4 ^ i % 4 = gpioMode s i))) ∧
    (∀ k, c.code = 0x1141 → (∀ i, i < 16 → (u16 p 0).testBit i = true → gpioMode s i ≠ 0) →
      namedTide s (u64 p 4) = some k → ∃ t, exec (.sysGpioSet w) s = .next t ∧ Answered s t w c stOK (le 8 k) ∧
        t.gpio = s.gpio ∧ t.changes =
          s.changes ++ [{ tide := k, setting := .gpio (BitVec.ofNat 16 (u16 p 0)) (BitVec.ofNat 16 (u16 p 2)) }])) ∧
  (∀ (s : State) (i ns : Nat) (b : Bool), i ≤ 15 → s.gpio.levels.getLsbD i ≠ b →
    ∃ t, exec (.gpioInputEdge i b ns) s = .next t ∧ t.gpio.levels.getLsbD i = b ∧ t.gpio.outs = s.gpio.outs ∧
      (∀ k, k ≠ i → t.gpio.levels.getLsbD k = s.gpio.levels.getLsbD k ∧
        tget ({} : GpioEdge) t.gpio.edges k = tget {} s.gpio.edges k) ∧
      let e := tget ({} : GpioEdge) s.gpio.edges i
      let taken := gpioUp s = true ∧ gpioMode s i = 0 ∧
        (tget ({} : GpioPar) s.par.gpio i).edges.getLsbD (if b = true then 0 else 1) = true
      (taken → (tget ({} : GpioEdge) t.gpio.edges i).count = e.count + 1 ∧
        (e.count = 0 → (tget ({} : GpioEdge) t.gpio.edges i).first = nowNs s ns ∧
          (tget ({} : GpioEdge) t.gpio.edges i).level = b) ∧
        (e.count ≠ 0 → (tget ({} : GpioEdge) t.gpio.edges i).first = e.first ∧
          (tget ({} : GpioEdge) t.gpio.edges i).level = e.level)) ∧
      (¬taken → t.gpio.edges = s.gpio.edges)) ∧
  (∀ (s : State) (m : Int), s.clk.tide % 100 = 0 → s.pr.level ≤ 4 → ∃ t, exec (.thermalEvaluation m) s = .next t ∧
    t.pr.mean = m ∧ t.pr.peak = max s.pr.peak m ∧ t.pr.level ≤ 4 ∧
    (∀ l : Nat, 1 ≤ l → l ≤ 4 → thermalEntry l < m → l ≤ t.pr.level) ∧
    (s.pr.level < t.pr.level → thermalEntry t.pr.level < m) ∧
    (t.pr.level < s.pr.level → t.pr.level + 1 = s.pr.level ∧ m ≤ thermalEntry s.pr.level - 30) ∧
    (t.pr.level = s.pr.level → t.cluster = s.cluster ∧ t.out = s.out) ∧
    (s.pr.level < 4 → t.pr.level = 4 → t.cluster.declare_ = true ∧ t.cluster.deferred = true) ∧
    (s.pr.level = 4 → t.pr.level = 3 → t.cluster.deferred = false)) ∧
  (∀ (s : State) (m : Int), s.clk.tide % 100 ≠ 0 → exec (.thermalEvaluation m) s = .next s)

/-! ## The application cluster, deadlines, intervals and edges (chapters 01 and 02) -/

/-- The application cluster's life and work (R34, R37, R38, R48, R50, R53, R56, R57, R258, R262, R349, R370, R549): its
heartbeat, its declaration as down, with every vehicle held, and its restore; the start of a tide's work; results in time
take effect and later ones are discarded and counted; a deadline judged missed lengthens the run of misses, a met one
ends it, and one without a result as yet leaves it open (log entry 48); a statistic group latches at its edge. -/
def Obligations.ClusterAndDeadlines : Prop :=
  (∀ s : State, s.cluster.st = 2 → exec .clusterHeartbeat s = .next { s with cluster := { s.cluster with beat := true } }) ∧
  (∀ s : State, s.cluster.st = 1 → s.cluster.restoring = false → s.cluster.deferred = false → s.cluster.declare_ = false →
    ∃ t, exec .clusterHeartbeat s = .next t ∧ t.cluster.st = 2 ∧ t.cluster.beat = true ∧ t.cluster.missing = 0) ∧
  (∀ s : State, s.cluster.st ≠ 0 → exec .clusterFault s = .next { s with cluster := { s.cluster with fault := true } }) ∧
  (∀ s : State, s.cluster.st ≠ 0 → (s.cluster.declare_ = true ∨ s.cluster.fault = true ∨ 3 ≤ s.cluster.missing) →
    ∃ t, exec .clusterDownDeclare s = .next t ∧ t.cluster.st = 1 ∧ t.cluster.restoring = true ∧
      t.cluster.deferred = s.cluster.deferred ∧ clusterDown t = true ∧ t.fleet.batch = [] ∧ t.fleet.shadow = none ∧
      ∀ v ∈ fleetVehicles s, (veh t v).held = true ∧ (veh t v).causes.getLsbD 5 = true) ∧
  (∀ s : State, (s.cluster.st = 0 ∨ (s.cluster.declare_ = false ∧ s.cluster.fault = false ∧ s.cluster.missing < 3)) →
    exec .clusterDownDeclare s = .next s) ∧
  (∀ s : State, s.cluster.st = 1 → s.cluster.restoring = true → s.cluster.deferred = false → s.cluster.declare_ = false →
    s.cfg.waiting = [] → (s.cluster.refill = true → 3 ≤ s.sys.modState) → ∃ t, exec .clusterRestoreComplete s = .next t ∧ t.cluster.restoring = false ∧
      t.cluster.refill = false ∧ t.cluster.st = 1 ∧
      (∀ k, restoreFrom s = some k → t.lantern.nodes = k.body.nodes ∧ t.fleet.tasks = k.body.tasks ∧
        t.lantern.generation = k.body.generation) ∧
      (restoreFrom s = none → t.lantern.nodes = s.lantern.nodes ∧ t.fleet.tasks = s.fleet.tasks) ∧
      (s.cluster.refill = true → ∀ v ∈ fleetVehicles s, (veh t v).held = true)) ∧
  (∀ s : State, s.cluster.st = 2 → ∃ t, exec .clusterTideWorkStart s = .next t ∧ t.fleet.returned = [] ∧
    t.radio.returned = [] ∧ t.gnss.returned = [] ∧ t.lantern.steps = s.lantern.steps ∧
    t.lantern.inputs = s.lantern.inputs.filter (fun d => !decide (d.ran < s.clk.ran)) ∧
    (∀ r ∈ s.lantern.raised, s.clk.tide < r.stop → r ∈ t.lantern.raised) ∧
    ∀ n, (∀ y ∈ s.fleet.tasks, y.1 = n → y.2.st ≠ 0) → task t n = task s n) ∧
  (∀ (s : State) (prio len us : Nat), s.cluster.st = 2 → ctrlFits 116 (berths len) s = true →
    let ans (r : ClusterResult) (t : State) : Prop := exec (.clusterResult r prio len us) s = .next t
    let missed (f : Nat) (t : State) : Prop := (missOf t f).total = (missOf s f).total + 1
    (∀ fs ls, us ≤ 7000 → ∃ t b, ans (.lantern fs ls) t ∧
      t.radio.next = s.radio.next ++ fs ∧ t.lampSign.ruleNext = ls ∧
      t.lantern.nextSteps = some (s.lantern.formed, b) ∧ t.lantern.steps = s.lantern.steps) ∧
    (∀ fs ls, 7000 < us → ∃ t, ans (.lantern fs ls) t ∧ t.radio = s.radio ∧ t.lampSign = s.lampSign ∧ missed 1 t) ∧
    (∀ rs cs, us ≤ 7000 → s.fleet.on = true → ∃ t, ans (.reservations rs cs) t ∧
      t.fleet = { s.fleet with batch := s.fleet.batch ++ rs } ∧ t.lantern.cond = s.lantern.cond ++ cs) ∧
    (∀ rs cs, 7000 < us → ∃ t, ans (.reservations rs cs) t ∧ t.fleet = s.fleet ∧ t.lantern = s.lantern ∧ missed 2 t) ∧
    (∀ z, us ≤ 9000 → s.fleet.on = true → ∃ t, ans (.release z) t ∧
      t.fleet = { s.fleet with request := s.fleet.request ||| (z &&& mayRequest s (claim s)) }) ∧
    (∀ z, 9000 < us → ∃ t, ans (.release z) t ∧ t.fleet = s.fleet ∧ missed 3 t) ∧
    ∀ d c, s.pr.sending = some c → d.length ≤ 67108864 → ∃ t, ans (.checkpoint d) t ∧ t.pr.sending = none ∧
      t.pr.last = some { c with len := d.length } ∧
      t.pr.own = if c.tide % 6000 = 0 then ({ c with len := d.length } :: s.pr.own).take 2 else s.pr.own) ∧
  (∀ (s : State) (r : ClusterResult) (prio len us : Nat), s.cluster.st ≠ 2 →
    exec (.clusterResult r prio len us) s = .next s) ∧
  (∀ (s : State) (f : Nat), (f = 1 ∨ f = 2 ∨ f = 3 ∨ f = 5) → judgeDue f s = true →
    ∃ t, exec (.deadlineJudge f) s = .next t ∧ (missOf t f).total = (missOf s f).total ∧ (missOf t f).late = 0 ∧
      (missOf t f).judged = some s.clk.ran ∧
      (missOf t f).run = if (missOf s f).late ≠ 0 then (missOf s f).run + 1
        else if (missOf s f).came = false then (missOf s f).run else 0) ∧
  (∀ s : State, judgeDue 4 s = true → ∃ t, exec (.deadlineJudge 4) s = .next t ∧
    (missOf t 4).run = if (missOf s 4).late ≠ 0 ∨ s.cluster.missing ≠ 0 then (missOf s 4).run + 1 else 0) ∧
  (∀ s : State, judgeDue 6 s = true → ∃ t, exec (.deadlineJudge 6) s = .next t ∧ t.ref.solving = [] ∧
    (missOf t 6).total = (missOf s 6).total + BitVec.ofNat 32 s.ref.solving.length) ∧
  (∀ s : State, judgeDue 7 s = true → ∃ t, exec (.deadlineJudge 7) s = .next t ∧ t.pr.sending = none ∧
    (missOf t 7).run = if (missOf s 7).late ≠ 0 ∨ s.pr.sending ≠ none then (missOf s 7).run + 1 else 0) ∧
  (∀ (s : State) (f : Nat), judgeDue f s = false → exec (.deadlineJudge f) s = .next s) ∧
  (∀ (s : State) (g : Nat), g ≤ 36 → statDue s g = true → ∃ t, exec (.statsLatch g) s = .next t ∧
    (stat t g).endTide = s.clk.tide ∧ (stat t g).tides = s.clk.ran - (stat s g).startRan ∧
    (stat t g).snapCtr = (stat s g).ctr ∧ (stat t g).snapTotal = (stat s g).total ∧ (stat t g).ctr = [] ∧
    (stat t g).total = (stat s g).total ∧ (stat t g).startRan = s.clk.ran ∧
    (g ≠ 36 → (stat t g).snapFlags = (stat s g).flags ∧ (stat t g).flags = (stat s g).nextFlags) ∧
    ∀ h, h ≠ g → stat t h = stat s h) ∧
  (∀ (s : State) (g : Nat), g ≤ 35 → statDue s g = false → exec (.statsLatch g) s = .next s)

/-- What takes effect at an edge (R60, R62 to R65, R102, R215, R254, R301, R363): a stop and a start that were accepted
for it; the changes whose edge has come, while the others wait; and the moves of a node, of a signal and of a task, each
under its next placement epoch. -/
def Obligations.EdgeActions : Prop :=
  (∀ (s : State) (f : Fn) (x : Switch), switchAt s f false = some x → ∃ t, exec (.functionStopEdge f) s = .next t ∧
    t.switches = s.switches.erase x ∧
    (∀ k, f = .radio k → k < 12 → t.radio.disabled.getLsbD k = true ∧ ∀ y ∈ t.radio.next, y.x ≠ k) ∧
    (f = .fleet → t.fleet.on = false ∧ t.fleet.shadow = none ∧ t.fleet.accepted = [] ∧ t.fleet.relays = 0) ∧
    (f = .reference → t.ref.on = false) ∧ (f = .positioning → t.ref.posOn = false ∧ t.ref.solving = []) ∧
    (f = .bowWave → t.lantern.bowOff = true ∧ t.lantern.steps = []) ∧
    (∀ p, f = .port p → (portOf t p).enabled = false) ∧ (∀ c, f = .quay c → (qch t c).st = 0 ∧ (qch t c).rx = []) ∧
    (∀ q, f = .queueWindow q → qwinOf t q = {}) ∧ (∀ n, f = .lighter n → ltOf t n = {}) ∧
    (∀ p, f = .meterPoint p → billing s p = false → pointOn t p = false) ∧
    (∀ p, f = .lamp p → (lport t p).off = true) ∧
    ∀ p, f = .sign p → (gport t p).off = true ∧ (gport t p).swap = none) ∧
  (∀ (s : State) (f : Fn) (x : Switch), switchAt s f true = some x → ∃ t, exec (.functionStartEdge f) s = .next t ∧
    t.switches = s.switches.erase x ∧
    (∀ k, f = .radio k → k < 12 → t.radio.disabled.getLsbD k = false) ∧
    (f = .fleet → s.cfg.defaultedBit = false → t.fleet.on = true) ∧ (f = .reference → t.ref.on = true) ∧ (f = .positioning → t.ref.posOn = true) ∧
    (f = .bowWave → t.lantern.bowOff = false) ∧ (∀ p, f = .port p → (portOf t p).enabled = true) ∧
    (∀ c, f = .quay c → (qch t c).st = 4 ∧ (qch t c).tec = 0 ∧ (qch t c).rxc = 0) ∧
    (∀ p, f = .meterPoint p → pointOn t p = true) ∧ (∀ p, f = .lamp p → (lport t p).off = false) ∧
    ∀ p, f = .sign p → (gport t p).off = false) ∧
  (∀ (s : State) (f : Fn), (switchAt s f false = none → exec (.functionStopEdge f) s = .next s) ∧
    (switchAt s f true = none → exec (.functionStartEdge f) s = .next s)) ∧
  (∀ s : State, ∃ t, exec .changeApplyEdge s = .next t ∧
    t.changes = s.changes.filter (fun c => !decide (c.tide ≤ s.clk.tide)) ∧
    ∀ x, s.changes.filter (fun c => decide (c.tide ≤ s.clk.tide)) = [x] →
      (∀ p v, x.setting = .signBright p v → (gport t p).brightness = some v) ∧
      (∀ i v, x.setting = .radioPower i v → tget none t.radio.power i = some v) ∧
      (∀ r b, x.setting = .ruleEnable r b → tget none t.lantern.ruleSet r = some b) ∧
      (∀ m v, x.setting = .gpio m v → t.gpio.outs = (s.gpio.outs &&& ~~~m) ||| (v &&& m)) ∧
      (∀ o v, x.setting = .pulse o v → (pout t o).set = some v) ∧
      (∀ p m l, x.setting = .lampLevel p m l → ∀ i, i < 32 → (lampOf t p i).cmd =
        if m.getLsbD i = true then some (startRun (lampOf s p i).cmd l s.clk.ran) else (lampOf s p i).cmd)) ∧
  (∀ (s : State) (n : Nat) (m : NodeMove), (lnode s n).move = some m → m.fromTide ≤ s.clk.tide →
    ∃ t, exec (.placementMoveEdge (.node n)) s = .next t ∧
    (m.acked = true → (lnode t n).move = none ∧ (lnode t n).placed = s.clk.tide ∧ ((link s n).st ≠ 0 →
      (link t n).x = m.x ∧ (link t n).epoch = (link s n).epoch + 1 ∧
      (link t n).lastAsn = max (link s n).shAsn (asnBefore m.x s.clk.tide) ∧ (link t n).lastDsn = (link s n).shDsn)) ∧
    (m.acked = false → t.radio.links = s.radio.links ∧ (lnode t n).move =
      if 3 ≤ m.tries then none else some { m with fromTide := s.clk.tide + 4, tries := m.tries + 1 })) ∧
  (∀ (s : State) (ch : Nat) (m : SignalMove), (s.gnss.moves.find? fun m => m.src == ch && decide (m.tide ≤ s.clk.tide)) = some m →
    ∃ t, exec (.placementMoveEdge (.signal ch)) s = .next t ∧ t.gnss.moves = s.gnss.moves.erase m ∧
      if 1 ≤ (chanOf s ch).st ∧ (chanOf s ch).st ≤ 3 ∧ (chanOf s m.dst).st = 0
      then (chanOf t m.dst).st = (chanOf s ch).st ∧ (chanOf t m.dst).epoch = (chanOf s ch).epoch + 1 ∧
        (chanOf t ch).st = 0 ∧ (chanOf t ch).movedTo = some m.dst
      else t.gnss.chans = s.gnss.chans) ∧
  (∀ (s : State) (n : Nat) (m : TaskMove), (task s n).move = some m → m.tide ≤ s.clk.tide →
    ∃ t, exec (.placementMoveEdge (.task n)) s = .next t ∧ (task t n).move = none ∧
      if m.custody = none ∧ 2 < (task s n).st
      then (task t n).vehicle = (task s n).vehicle ∧ (task t n).epoch = (task s n).epoch
      else (task t n).vehicle = m.vehicle ∧ (task t n).epoch = (task s n).epoch + 1 ∧ (task t n).placed = s.clk.tide)

/-! ## Refusals, and what every step keeps -/

/-- When a mailbox command does not act (R102, R103, R618, R650; log entry 13): out of its turn nothing changes; a service that
has not started refuses it with STATE, or with BAD_FIELD where a value is out of range; a command of the application
cluster is refused while the cluster is down. A refusal changes nothing but its window and what leaves. -/
def Obligations.CommandsRefused : Prop :=
  ∀ (i : Instr) (s : State) (w code : Nat), mailbox i = some (w, code) →
  ((∀ c, HasTurn s w c → c.code ≠ code) → exec i s = .next s) ∧
  ∀ c, (win s w).inflight = some c → c.code = code → (win s w).st ≠ 4 → (win s w).caller = none →
    s.host.turns.head? = some { w, sid := (win s w).sid } →
    (served (code / 256) s = false → Refused i s w c stSTATE ∨ Refused i s w c stFIELD) ∧
    (onCluster i = true → s.cluster.st = 1 →
      Refused i s w c stDOWN ∨ Refused i s w c stSTATE ∨ Refused i s w c stFIELD)

/-- The state right after reset (R369, R542, R559, R569, R571, R610, R614, R633): the module is in the boot ROM as a tender,
no session is open, no tide edge runs, the relays and the claim are off, every zone is HALTED, package slot 0 holds the
only programmed key, the OTP epoch is 0, no command waits, and the state is sound. -/
def Obligations.ResetState : Prop :=
  let s := State.reset
  s.sys.modState = 0 ∧ s.sys.tender = true ∧ s.sys.hmRuns = false ∧ s.sys.kind = 1 ∧ s.clk.running = false ∧
  (∀ w, win s w = {}) ∧ s.fleet.relays = 0 ∧ s.pr.claimOut = false ∧ s.time.timeQ = false ∧ s.cluster.st = 0 ∧
  s.fleet.released = 0 ∧ s.fleet.host = 0 ∧ s.boot.otpEpoch = 0 ∧ s.boot.failedStarts = 0 ∧ s.boot.trial = false ∧
  (∀ k, (keySlot s k).programmed = decide (k = 4) ∧ (keySlot s k).revoked = false) ∧ s.rtc = {} ∧ s.cfg.slots = [] ∧
  s.lampSign.mem = [] ∧ s.changes = [] ∧ s.switches = [] ∧ s.pending = [] ∧ Sound s

/-- Every step keeps the state sound: the RTC in 48 bits, at most three failed starts, sign memory and the held intervals in
canonical form, the pilot role only in RUNNING or STOPPING, and the halt relays energised only while every condition of
R374 holds. -/
def Obligations.EveryStepStaysSound : Prop :=
  ∀ s t : State, Sound s → step s = .next t → Sound t

/-- A programmed slot cannot be reprogrammed, and a revoked slot cannot be restored (R569). -/
def Obligations.KeysAreFinal : Prop :=
  ∀ (s t : State) (k : Nat), step s = .next t →
    ((keySlot s k).programmed = true → (keySlot t k).programmed = true ∧ (keySlot t k).key = (keySlot s k).key) ∧
    ((keySlot s k).revoked = true → (keySlot t k).revoked = true)

/-- What no command but the named one undoes (R369, R571): the OTP epoch never falls, and a zone that a host halted stays in
the host's halts until a FLEET_RELEASE that names the host's halts and that zone. -/
def Obligations.EpochAndHostHaltsStay : Prop :=
  ∀ (i : Instr) (s t : State), exec i s = .next t → s.boot.otpEpoch ≤ t.boot.otpEpoch ∧
    ∀ z, z < 64 → s.fleet.host.getLsbD z = true → t.fleet.host.getLsbD z = true ∨
      ∃ w us c, i = .fleetRelease w us ∧ HasTurn s w c ∧ c.code = 0x0842 ∧ u8 c.payload 8 % 2 = 1 ∧
        (u64 c.payload 0).testBit z = true

/-! ## Rules of the spec, each stated whole -/

/-- R49: a sign swap request that arrives after its deadline, T+9,000 µs, takes effect at the tide edge after the next one. -/
def Obligations.LateSwapRequests : Prop :=
  (∀ (s : State) (w us : Nat) (c : Cmd), Waits s w c → let p := c.payload
    c.code = 0x0D44 → u8 p 0 ≠ 0 → u8 p 0 ≤ 3 → u8 p 1 ≤ 1 → u64 p 4 = 0 → 9000 < us →
    (∀ q, q < 2 → (u8 p 0).testBit q = true →
      (gpar s q).width ≠ 0 ∧ (gport s q).off = false ∧ (gport s q).swap = none) →
    ∃ t, exec (.signSwap w us) s = .next t ∧ Answered s t w c stACCEPTED (le 8 (nextTide s + 1)) ∧
      ∀ q, q < 2 → (u8 p 0).testBit q = true → ∃ x, (gport t q).swap = some x ∧ x.tide = nextTide s + 1 ∧
        x.notBefore = s.clk.ran + 2) ∧
  ∀ (s : State) (q : Nat) (x : SignSwap), q < 2 → (gport s q).swap = some x → x.armed = false →
    (s.clk.tide < x.tide ∨ s.clk.ran < x.notBefore → exec (.signSwapEdge q) s = .next s) ∧
    (x.tide ≤ s.clk.tide → x.notBefore ≤ s.clk.ran → syncLocked s q = false → ∃ t, exec (.signSwapEdge q) s = .next t ∧
      (gport t q).front = 1 - (gport s q).front ∧ (gport t q).swap = none)

/-- R150: an entry that arrives at a timestamp queue that is full for its owner class is dropped, displaces none, and counts
one TXQ_DROPPED of the port; nothing of the frame changes. -/
def Obligations.FullTimestampQueueDrops : Prop :=
  ∀ (s : State) (port id : Nat) (owner : Option Nat) (x : Stamp), port ≤ 13 →
    (if owner.isSome = true then 24 else 8) ≤
      ((ptpOf s port).txq.filter fun e => e.owner.isSome == owner.isSome).length →
    (∃ e ∈ (ptpOf s port).asked, e.owner = owner ∧ e.id = id) →
    ∃ t, exec (.txTimestampCapture port owner id x) s = .next t ∧ (ptpOf t port).txq = (ptpOf s port).txq ∧
      (ptpOf t port).dropped = (ptpOf s port).dropped + 1 ∧ t.out = s.out ∧ t.ports = s.ports ∧
      ∀ q, q ≠ port → ptpOf t q = ptpOf s q

/-- R464: on a channel set for claims the express slot belongs to claim frames, and a claim frame that replaces an unsent one
counts CLAIMS_REPLACED; on another channel a host may place one frame there, and is refused while the slot is occupied. -/
def Obligations.ExpressSlot : Prop :=
  (∀ (s : State) (c : Nat), s.sys.hmRuns = true → 3 ≤ s.sys.modState → s.pr.powerFail = false → c ∈ claimChannels s →
    (qch s c).st ≠ 0 → (poolQ s 118).entries = [] → ctrlFits 118 1 s = true →
    ∃ t, exec .claimFrameSend s = .next t ∧ (qch t c).express = some (quayClaimFrame s c) ∧
      ((stat s (31 + c)).on = true → tget 0 (stat t (31 + c)).total 5 = if (qch s c).express = none
        then tget 0 (stat s (31 + c)).total 5 else (tget 0 (stat s (31 + c)).total 5 + 1) % 2 ^ 32)) ∧
  ∀ (s : State) (w : Nat) (c : Cmd) (e : List Byte), Waits s w c → let p := c.payload
    let q := u8 p 0
    c.code = 0x0B40 → q ≤ 3 → u8 p 1 = 1 → sendEntries 1 (p.drop 4) = some [e] →
    entryBad (qpar s q).formatSet q e = false → 2 ≤ u8 e 16 → (qch s q).queue.length ≤ 64 →
    ((qpar s q).claims = true → Refused (.qbusSend w) s w c stSTATE) ∧
    ((qpar s q).claims = false → (qch s q).st ≠ 0 → (qpar s q).listenOnly = false → s.sys.tender = false →
      ((qch s q).express ≠ none → Refused (.qbusSend w) s w c stBUSY) ∧
      ((qch s q).express = none → ∃ t, exec (.qbusSend w) s = .next t ∧
        Answered s t w c stOK (le 2 (qch s q).seq ++ le 2 0) ∧
        qch t q = { qch s q with express := some (entryOfBytes w s e), seq := (qch s q).seq % 65536 }))

/-- R613: failed_starts returns to 0 when the module reaches RUNNING, trial starts never count, each other start counts, and
after three that did not reach RUNNING the next start enters recovery mode. -/
def Obligations.FailedStarts : Prop :=
  (∀ s : State, s.sys.modState = 3 → s.sys.hmRuns = true → ∃ t, exec .servicesStarted s = .next t ∧
    t.sys.modState = 4 ∧ t.boot.failedStarts = 0) ∧
  (∀ s : State, inRom s = true → s.sys.kind ≠ 9 → s.boot.failedStarts < 3 → areaOk s (runSlot s) = true →
    (s.boot.trial = true → s.sys.kind = 6 → ∃ t, exec (.romStart false) s = .next t ∧ t.sys.romDone = true ∧
      t.boot.failedStarts = s.boot.failedStarts) ∧
    (s.boot.trial = false → ∃ t, exec (.romStart false) s = .next t ∧ t.sys.romDone = true ∧
      t.boot.failedStarts = s.boot.failedStarts + 1)) ∧
  (∀ s : State, inRom s = true → s.sys.kind ≠ 9 → 3 ≤ s.boot.failedStarts → ∃ t, exec (.romStart false) s = .next t ∧
    t.sys.modState = 6 ∧ t.sys.romDone = false ∧ t.boot.failedStarts = s.boot.failedStarts) ∧
  ∀ s t : State, step s = .next t → s.boot.failedStarts ≤ t.boot.failedStarts ∨ t.boot.failedStarts = 0
end

