-- ==== Sys2Proof/Laws/State.lean ====
section
/-! SUPPORT. Sys2Proof/Laws/State.lean: one lemma per field for each update of the State: the updates of one part, an
output, and the merge that ends a command's meaning. -/

namespace Sys2Proof.Machine

section
variable (f : Gpio → Gpio) (s : State)

@[simp] theorem updGpio_clk : (updGpio f s).clk = s.clk := rfl
@[simp] theorem updGpio_sys : (updGpio f s).sys = s.sys := rfl
@[simp] theorem updGpio_boot : (updGpio f s).boot = s.boot := rfl
@[simp] theorem updGpio_cluster : (updGpio f s).cluster = s.cluster := rfl
@[simp] theorem updGpio_host : (updGpio f s).host = s.host := rfl
@[simp] theorem updGpio_cfg : (updGpio f s).cfg = s.cfg := rfl
@[simp] theorem updGpio_par : (updGpio f s).par = s.par := rfl
@[simp] theorem updGpio_stats : (updGpio f s).stats = s.stats := rfl
@[simp] theorem updGpio_time : (updGpio f s).time = s.time := rfl
@[simp] theorem updGpio_rtc : (updGpio f s).rtc = s.rtc := rfl
@[simp] theorem updGpio_radio : (updGpio f s).radio = s.radio := rfl
@[simp] theorem updGpio_lantern : (updGpio f s).lantern = s.lantern := rfl
@[simp] theorem updGpio_pool : (updGpio f s).pool = s.pool := rfl
@[simp] theorem updGpio_ports : (updGpio f s).ports = s.ports := rfl
@[simp] theorem updGpio_gnss : (updGpio f s).gnss = s.gnss := rfl
@[simp] theorem updGpio_ref : (updGpio f s).ref = s.ref := rfl
@[simp] theorem updGpio_fleet : (updGpio f s).fleet = s.fleet := rfl
@[simp] theorem updGpio_pr : (updGpio f s).pr = s.pr := rfl
@[simp] theorem updGpio_upd : (updGpio f s).upd = s.upd := rfl
@[simp] theorem updGpio_quay : (updGpio f s).quay = s.quay := rfl
@[simp] theorem updGpio_meter : (updGpio f s).meter = s.meter := rfl
@[simp] theorem updGpio_lampSign : (updGpio f s).lampSign = s.lampSign := rfl
@[simp] theorem updGpio_gpio : (updGpio f s).gpio = f s.gpio := rfl
@[simp] theorem updGpio_changes : (updGpio f s).changes = s.changes := rfl
@[simp] theorem updGpio_switches : (updGpio f s).switches = s.switches := rfl
@[simp] theorem updGpio_log : (updGpio f s).log = s.log := rfl
@[simp] theorem updGpio_out : (updGpio f s).out = s.out := rfl
@[simp] theorem updGpio_free : (updGpio f s).free = s.free := rfl
@[simp] theorem updGpio_pending : (updGpio f s).pending = s.pending := rfl

end

section
variable (f : Fleet → Fleet) (s : State)

@[simp] theorem updFleet_clk : (updFleet f s).clk = s.clk := rfl
@[simp] theorem updFleet_sys : (updFleet f s).sys = s.sys := rfl
@[simp] theorem updFleet_boot : (updFleet f s).boot = s.boot := rfl
@[simp] theorem updFleet_cluster : (updFleet f s).cluster = s.cluster := rfl
@[simp] theorem updFleet_host : (updFleet f s).host = s.host := rfl
@[simp] theorem updFleet_cfg : (updFleet f s).cfg = s.cfg := rfl
@[simp] theorem updFleet_par : (updFleet f s).par = s.par := rfl
@[simp] theorem updFleet_stats : (updFleet f s).stats = s.stats := rfl
@[simp] theorem updFleet_time : (updFleet f s).time = s.time := rfl
@[simp] theorem updFleet_rtc : (updFleet f s).rtc = s.rtc := rfl
@[simp] theorem updFleet_radio : (updFleet f s).radio = s.radio := rfl
@[simp] theorem updFleet_lantern : (updFleet f s).lantern = s.lantern := rfl
@[simp] theorem updFleet_pool : (updFleet f s).pool = s.pool := rfl
@[simp] theorem updFleet_ports : (updFleet f s).ports = s.ports := rfl
@[simp] theorem updFleet_gnss : (updFleet f s).gnss = s.gnss := rfl
@[simp] theorem updFleet_ref : (updFleet f s).ref = s.ref := rfl
@[simp] theorem updFleet_fleet : (updFleet f s).fleet = f s.fleet := rfl
@[simp] theorem updFleet_pr : (updFleet f s).pr = s.pr := rfl
@[simp] theorem updFleet_upd : (updFleet f s).upd = s.upd := rfl
@[simp] theorem updFleet_quay : (updFleet f s).quay = s.quay := rfl
@[simp] theorem updFleet_meter : (updFleet f s).meter = s.meter := rfl
@[simp] theorem updFleet_lampSign : (updFleet f s).lampSign = s.lampSign := rfl
@[simp] theorem updFleet_gpio : (updFleet f s).gpio = s.gpio := rfl
@[simp] theorem updFleet_changes : (updFleet f s).changes = s.changes := rfl
@[simp] theorem updFleet_switches : (updFleet f s).switches = s.switches := rfl
@[simp] theorem updFleet_log : (updFleet f s).log = s.log := rfl
@[simp] theorem updFleet_out : (updFleet f s).out = s.out := rfl
@[simp] theorem updFleet_free : (updFleet f s).free = s.free := rfl
@[simp] theorem updFleet_pending : (updFleet f s).pending = s.pending := rfl

end

section
variable (f : Gnss → Gnss) (s : State)

@[simp] theorem updGnss_clk : (updGnss f s).clk = s.clk := rfl
@[simp] theorem updGnss_sys : (updGnss f s).sys = s.sys := rfl
@[simp] theorem updGnss_boot : (updGnss f s).boot = s.boot := rfl
@[simp] theorem updGnss_cluster : (updGnss f s).cluster = s.cluster := rfl
@[simp] theorem updGnss_host : (updGnss f s).host = s.host := rfl
@[simp] theorem updGnss_cfg : (updGnss f s).cfg = s.cfg := rfl
@[simp] theorem updGnss_par : (updGnss f s).par = s.par := rfl
@[simp] theorem updGnss_stats : (updGnss f s).stats = s.stats := rfl
@[simp] theorem updGnss_time : (updGnss f s).time = s.time := rfl
@[simp] theorem updGnss_rtc : (updGnss f s).rtc = s.rtc := rfl
@[simp] theorem updGnss_radio : (updGnss f s).radio = s.radio := rfl
@[simp] theorem updGnss_lantern : (updGnss f s).lantern = s.lantern := rfl
@[simp] theorem updGnss_pool : (updGnss f s).pool = s.pool := rfl
@[simp] theorem updGnss_ports : (updGnss f s).ports = s.ports := rfl
@[simp] theorem updGnss_gnss : (updGnss f s).gnss = f s.gnss := rfl
@[simp] theorem updGnss_ref : (updGnss f s).ref = s.ref := rfl
@[simp] theorem updGnss_fleet : (updGnss f s).fleet = s.fleet := rfl
@[simp] theorem updGnss_pr : (updGnss f s).pr = s.pr := rfl
@[simp] theorem updGnss_upd : (updGnss f s).upd = s.upd := rfl
@[simp] theorem updGnss_quay : (updGnss f s).quay = s.quay := rfl
@[simp] theorem updGnss_meter : (updGnss f s).meter = s.meter := rfl
@[simp] theorem updGnss_lampSign : (updGnss f s).lampSign = s.lampSign := rfl
@[simp] theorem updGnss_gpio : (updGnss f s).gpio = s.gpio := rfl
@[simp] theorem updGnss_changes : (updGnss f s).changes = s.changes := rfl
@[simp] theorem updGnss_switches : (updGnss f s).switches = s.switches := rfl
@[simp] theorem updGnss_log : (updGnss f s).log = s.log := rfl
@[simp] theorem updGnss_out : (updGnss f s).out = s.out := rfl
@[simp] theorem updGnss_free : (updGnss f s).free = s.free := rfl
@[simp] theorem updGnss_pending : (updGnss f s).pending = s.pending := rfl

end

section
variable (f : LampSign → LampSign) (s : State)

@[simp] theorem updLs_clk : (updLs f s).clk = s.clk := rfl
@[simp] theorem updLs_sys : (updLs f s).sys = s.sys := rfl
@[simp] theorem updLs_boot : (updLs f s).boot = s.boot := rfl
@[simp] theorem updLs_cluster : (updLs f s).cluster = s.cluster := rfl
@[simp] theorem updLs_host : (updLs f s).host = s.host := rfl
@[simp] theorem updLs_cfg : (updLs f s).cfg = s.cfg := rfl
@[simp] theorem updLs_par : (updLs f s).par = s.par := rfl
@[simp] theorem updLs_stats : (updLs f s).stats = s.stats := rfl
@[simp] theorem updLs_time : (updLs f s).time = s.time := rfl
@[simp] theorem updLs_rtc : (updLs f s).rtc = s.rtc := rfl
@[simp] theorem updLs_radio : (updLs f s).radio = s.radio := rfl
@[simp] theorem updLs_lantern : (updLs f s).lantern = s.lantern := rfl
@[simp] theorem updLs_pool : (updLs f s).pool = s.pool := rfl
@[simp] theorem updLs_ports : (updLs f s).ports = s.ports := rfl
@[simp] theorem updLs_gnss : (updLs f s).gnss = s.gnss := rfl
@[simp] theorem updLs_ref : (updLs f s).ref = s.ref := rfl
@[simp] theorem updLs_fleet : (updLs f s).fleet = s.fleet := rfl
@[simp] theorem updLs_pr : (updLs f s).pr = s.pr := rfl
@[simp] theorem updLs_upd : (updLs f s).upd = s.upd := rfl
@[simp] theorem updLs_quay : (updLs f s).quay = s.quay := rfl
@[simp] theorem updLs_meter : (updLs f s).meter = s.meter := rfl
@[simp] theorem updLs_lampSign : (updLs f s).lampSign = f s.lampSign := rfl
@[simp] theorem updLs_gpio : (updLs f s).gpio = s.gpio := rfl
@[simp] theorem updLs_changes : (updLs f s).changes = s.changes := rfl
@[simp] theorem updLs_switches : (updLs f s).switches = s.switches := rfl
@[simp] theorem updLs_log : (updLs f s).log = s.log := rfl
@[simp] theorem updLs_out : (updLs f s).out = s.out := rfl
@[simp] theorem updLs_free : (updLs f s).free = s.free := rfl
@[simp] theorem updLs_pending : (updLs f s).pending = s.pending := rfl

end

section
variable (f : Lantern → Lantern) (s : State)

@[simp] theorem updLant_clk : (updLant f s).clk = s.clk := rfl
@[simp] theorem updLant_sys : (updLant f s).sys = s.sys := rfl
@[simp] theorem updLant_boot : (updLant f s).boot = s.boot := rfl
@[simp] theorem updLant_cluster : (updLant f s).cluster = s.cluster := rfl
@[simp] theorem updLant_host : (updLant f s).host = s.host := rfl
@[simp] theorem updLant_cfg : (updLant f s).cfg = s.cfg := rfl
@[simp] theorem updLant_par : (updLant f s).par = s.par := rfl
@[simp] theorem updLant_stats : (updLant f s).stats = s.stats := rfl
@[simp] theorem updLant_time : (updLant f s).time = s.time := rfl
@[simp] theorem updLant_rtc : (updLant f s).rtc = s.rtc := rfl
@[simp] theorem updLant_radio : (updLant f s).radio = s.radio := rfl
@[simp] theorem updLant_lantern : (updLant f s).lantern = f s.lantern := rfl
@[simp] theorem updLant_pool : (updLant f s).pool = s.pool := rfl
@[simp] theorem updLant_ports : (updLant f s).ports = s.ports := rfl
@[simp] theorem updLant_gnss : (updLant f s).gnss = s.gnss := rfl
@[simp] theorem updLant_ref : (updLant f s).ref = s.ref := rfl
@[simp] theorem updLant_fleet : (updLant f s).fleet = s.fleet := rfl
@[simp] theorem updLant_pr : (updLant f s).pr = s.pr := rfl
@[simp] theorem updLant_upd : (updLant f s).upd = s.upd := rfl
@[simp] theorem updLant_quay : (updLant f s).quay = s.quay := rfl
@[simp] theorem updLant_meter : (updLant f s).meter = s.meter := rfl
@[simp] theorem updLant_lampSign : (updLant f s).lampSign = s.lampSign := rfl
@[simp] theorem updLant_gpio : (updLant f s).gpio = s.gpio := rfl
@[simp] theorem updLant_changes : (updLant f s).changes = s.changes := rfl
@[simp] theorem updLant_switches : (updLant f s).switches = s.switches := rfl
@[simp] theorem updLant_log : (updLant f s).log = s.log := rfl
@[simp] theorem updLant_out : (updLant f s).out = s.out := rfl
@[simp] theorem updLant_free : (updLant f s).free = s.free := rfl
@[simp] theorem updLant_pending : (updLant f s).pending = s.pending := rfl

end

section
variable (f : Meter → Meter) (s : State)

@[simp] theorem updMeter_clk : (updMeter f s).clk = s.clk := rfl
@[simp] theorem updMeter_sys : (updMeter f s).sys = s.sys := rfl
@[simp] theorem updMeter_boot : (updMeter f s).boot = s.boot := rfl
@[simp] theorem updMeter_cluster : (updMeter f s).cluster = s.cluster := rfl
@[simp] theorem updMeter_host : (updMeter f s).host = s.host := rfl
@[simp] theorem updMeter_cfg : (updMeter f s).cfg = s.cfg := rfl
@[simp] theorem updMeter_par : (updMeter f s).par = s.par := rfl
@[simp] theorem updMeter_stats : (updMeter f s).stats = s.stats := rfl
@[simp] theorem updMeter_time : (updMeter f s).time = s.time := rfl
@[simp] theorem updMeter_rtc : (updMeter f s).rtc = s.rtc := rfl
@[simp] theorem updMeter_radio : (updMeter f s).radio = s.radio := rfl
@[simp] theorem updMeter_lantern : (updMeter f s).lantern = s.lantern := rfl
@[simp] theorem updMeter_pool : (updMeter f s).pool = s.pool := rfl
@[simp] theorem updMeter_ports : (updMeter f s).ports = s.ports := rfl
@[simp] theorem updMeter_gnss : (updMeter f s).gnss = s.gnss := rfl
@[simp] theorem updMeter_ref : (updMeter f s).ref = s.ref := rfl
@[simp] theorem updMeter_fleet : (updMeter f s).fleet = s.fleet := rfl
@[simp] theorem updMeter_pr : (updMeter f s).pr = s.pr := rfl
@[simp] theorem updMeter_upd : (updMeter f s).upd = s.upd := rfl
@[simp] theorem updMeter_quay : (updMeter f s).quay = s.quay := rfl
@[simp] theorem updMeter_meter : (updMeter f s).meter = f s.meter := rfl
@[simp] theorem updMeter_lampSign : (updMeter f s).lampSign = s.lampSign := rfl
@[simp] theorem updMeter_gpio : (updMeter f s).gpio = s.gpio := rfl
@[simp] theorem updMeter_changes : (updMeter f s).changes = s.changes := rfl
@[simp] theorem updMeter_switches : (updMeter f s).switches = s.switches := rfl
@[simp] theorem updMeter_log : (updMeter f s).log = s.log := rfl
@[simp] theorem updMeter_out : (updMeter f s).out = s.out := rfl
@[simp] theorem updMeter_free : (updMeter f s).free = s.free := rfl
@[simp] theorem updMeter_pending : (updMeter f s).pending = s.pending := rfl

end

section
variable (f : Pool → Pool) (s : State)

@[simp] theorem updPool_clk : (updPool f s).clk = s.clk := rfl
@[simp] theorem updPool_sys : (updPool f s).sys = s.sys := rfl
@[simp] theorem updPool_boot : (updPool f s).boot = s.boot := rfl
@[simp] theorem updPool_cluster : (updPool f s).cluster = s.cluster := rfl
@[simp] theorem updPool_host : (updPool f s).host = s.host := rfl
@[simp] theorem updPool_cfg : (updPool f s).cfg = s.cfg := rfl
@[simp] theorem updPool_par : (updPool f s).par = s.par := rfl
@[simp] theorem updPool_stats : (updPool f s).stats = s.stats := rfl
@[simp] theorem updPool_time : (updPool f s).time = s.time := rfl
@[simp] theorem updPool_rtc : (updPool f s).rtc = s.rtc := rfl
@[simp] theorem updPool_radio : (updPool f s).radio = s.radio := rfl
@[simp] theorem updPool_lantern : (updPool f s).lantern = s.lantern := rfl
@[simp] theorem updPool_pool : (updPool f s).pool = f s.pool := rfl
@[simp] theorem updPool_ports : (updPool f s).ports = s.ports := rfl
@[simp] theorem updPool_gnss : (updPool f s).gnss = s.gnss := rfl
@[simp] theorem updPool_ref : (updPool f s).ref = s.ref := rfl
@[simp] theorem updPool_fleet : (updPool f s).fleet = s.fleet := rfl
@[simp] theorem updPool_pr : (updPool f s).pr = s.pr := rfl
@[simp] theorem updPool_upd : (updPool f s).upd = s.upd := rfl
@[simp] theorem updPool_quay : (updPool f s).quay = s.quay := rfl
@[simp] theorem updPool_meter : (updPool f s).meter = s.meter := rfl
@[simp] theorem updPool_lampSign : (updPool f s).lampSign = s.lampSign := rfl
@[simp] theorem updPool_gpio : (updPool f s).gpio = s.gpio := rfl
@[simp] theorem updPool_changes : (updPool f s).changes = s.changes := rfl
@[simp] theorem updPool_switches : (updPool f s).switches = s.switches := rfl
@[simp] theorem updPool_log : (updPool f s).log = s.log := rfl
@[simp] theorem updPool_out : (updPool f s).out = s.out := rfl
@[simp] theorem updPool_free : (updPool f s).free = s.free := rfl
@[simp] theorem updPool_pending : (updPool f s).pending = s.pending := rfl

end

section
variable (f : Ports → Ports) (s : State)

@[simp] theorem updPorts_clk : (updPorts f s).clk = s.clk := rfl
@[simp] theorem updPorts_sys : (updPorts f s).sys = s.sys := rfl
@[simp] theorem updPorts_boot : (updPorts f s).boot = s.boot := rfl
@[simp] theorem updPorts_cluster : (updPorts f s).cluster = s.cluster := rfl
@[simp] theorem updPorts_host : (updPorts f s).host = s.host := rfl
@[simp] theorem updPorts_cfg : (updPorts f s).cfg = s.cfg := rfl
@[simp] theorem updPorts_par : (updPorts f s).par = s.par := rfl
@[simp] theorem updPorts_stats : (updPorts f s).stats = s.stats := rfl
@[simp] theorem updPorts_time : (updPorts f s).time = s.time := rfl
@[simp] theorem updPorts_rtc : (updPorts f s).rtc = s.rtc := rfl
@[simp] theorem updPorts_radio : (updPorts f s).radio = s.radio := rfl
@[simp] theorem updPorts_lantern : (updPorts f s).lantern = s.lantern := rfl
@[simp] theorem updPorts_pool : (updPorts f s).pool = s.pool := rfl
@[simp] theorem updPorts_ports : (updPorts f s).ports = f s.ports := rfl
@[simp] theorem updPorts_gnss : (updPorts f s).gnss = s.gnss := rfl
@[simp] theorem updPorts_ref : (updPorts f s).ref = s.ref := rfl
@[simp] theorem updPorts_fleet : (updPorts f s).fleet = s.fleet := rfl
@[simp] theorem updPorts_pr : (updPorts f s).pr = s.pr := rfl
@[simp] theorem updPorts_upd : (updPorts f s).upd = s.upd := rfl
@[simp] theorem updPorts_quay : (updPorts f s).quay = s.quay := rfl
@[simp] theorem updPorts_meter : (updPorts f s).meter = s.meter := rfl
@[simp] theorem updPorts_lampSign : (updPorts f s).lampSign = s.lampSign := rfl
@[simp] theorem updPorts_gpio : (updPorts f s).gpio = s.gpio := rfl
@[simp] theorem updPorts_changes : (updPorts f s).changes = s.changes := rfl
@[simp] theorem updPorts_switches : (updPorts f s).switches = s.switches := rfl
@[simp] theorem updPorts_log : (updPorts f s).log = s.log := rfl
@[simp] theorem updPorts_out : (updPorts f s).out = s.out := rfl
@[simp] theorem updPorts_free : (updPorts f s).free = s.free := rfl
@[simp] theorem updPorts_pending : (updPorts f s).pending = s.pending := rfl

end

section
variable (f : Quay → Quay) (s : State)

@[simp] theorem updQuay_clk : (updQuay f s).clk = s.clk := rfl
@[simp] theorem updQuay_sys : (updQuay f s).sys = s.sys := rfl
@[simp] theorem updQuay_boot : (updQuay f s).boot = s.boot := rfl
@[simp] theorem updQuay_cluster : (updQuay f s).cluster = s.cluster := rfl
@[simp] theorem updQuay_host : (updQuay f s).host = s.host := rfl
@[simp] theorem updQuay_cfg : (updQuay f s).cfg = s.cfg := rfl
@[simp] theorem updQuay_par : (updQuay f s).par = s.par := rfl
@[simp] theorem updQuay_stats : (updQuay f s).stats = s.stats := rfl
@[simp] theorem updQuay_time : (updQuay f s).time = s.time := rfl
@[simp] theorem updQuay_rtc : (updQuay f s).rtc = s.rtc := rfl
@[simp] theorem updQuay_radio : (updQuay f s).radio = s.radio := rfl
@[simp] theorem updQuay_lantern : (updQuay f s).lantern = s.lantern := rfl
@[simp] theorem updQuay_pool : (updQuay f s).pool = s.pool := rfl
@[simp] theorem updQuay_ports : (updQuay f s).ports = s.ports := rfl
@[simp] theorem updQuay_gnss : (updQuay f s).gnss = s.gnss := rfl
@[simp] theorem updQuay_ref : (updQuay f s).ref = s.ref := rfl
@[simp] theorem updQuay_fleet : (updQuay f s).fleet = s.fleet := rfl
@[simp] theorem updQuay_pr : (updQuay f s).pr = s.pr := rfl
@[simp] theorem updQuay_upd : (updQuay f s).upd = s.upd := rfl
@[simp] theorem updQuay_quay : (updQuay f s).quay = f s.quay := rfl
@[simp] theorem updQuay_meter : (updQuay f s).meter = s.meter := rfl
@[simp] theorem updQuay_lampSign : (updQuay f s).lampSign = s.lampSign := rfl
@[simp] theorem updQuay_gpio : (updQuay f s).gpio = s.gpio := rfl
@[simp] theorem updQuay_changes : (updQuay f s).changes = s.changes := rfl
@[simp] theorem updQuay_switches : (updQuay f s).switches = s.switches := rfl
@[simp] theorem updQuay_log : (updQuay f s).log = s.log := rfl
@[simp] theorem updQuay_out : (updQuay f s).out = s.out := rfl
@[simp] theorem updQuay_free : (updQuay f s).free = s.free := rfl
@[simp] theorem updQuay_pending : (updQuay f s).pending = s.pending := rfl

end

section
variable (f : Pr → Pr) (s : State)

@[simp] theorem updPr_clk : (updPr f s).clk = s.clk := rfl
@[simp] theorem updPr_sys : (updPr f s).sys = s.sys := rfl
@[simp] theorem updPr_boot : (updPr f s).boot = s.boot := rfl
@[simp] theorem updPr_cluster : (updPr f s).cluster = s.cluster := rfl
@[simp] theorem updPr_host : (updPr f s).host = s.host := rfl
@[simp] theorem updPr_cfg : (updPr f s).cfg = s.cfg := rfl
@[simp] theorem updPr_par : (updPr f s).par = s.par := rfl
@[simp] theorem updPr_stats : (updPr f s).stats = s.stats := rfl
@[simp] theorem updPr_time : (updPr f s).time = s.time := rfl
@[simp] theorem updPr_rtc : (updPr f s).rtc = s.rtc := rfl
@[simp] theorem updPr_radio : (updPr f s).radio = s.radio := rfl
@[simp] theorem updPr_lantern : (updPr f s).lantern = s.lantern := rfl
@[simp] theorem updPr_pool : (updPr f s).pool = s.pool := rfl
@[simp] theorem updPr_ports : (updPr f s).ports = s.ports := rfl
@[simp] theorem updPr_gnss : (updPr f s).gnss = s.gnss := rfl
@[simp] theorem updPr_ref : (updPr f s).ref = s.ref := rfl
@[simp] theorem updPr_fleet : (updPr f s).fleet = s.fleet := rfl
@[simp] theorem updPr_pr : (updPr f s).pr = f s.pr := rfl
@[simp] theorem updPr_upd : (updPr f s).upd = s.upd := rfl
@[simp] theorem updPr_quay : (updPr f s).quay = s.quay := rfl
@[simp] theorem updPr_meter : (updPr f s).meter = s.meter := rfl
@[simp] theorem updPr_lampSign : (updPr f s).lampSign = s.lampSign := rfl
@[simp] theorem updPr_gpio : (updPr f s).gpio = s.gpio := rfl
@[simp] theorem updPr_changes : (updPr f s).changes = s.changes := rfl
@[simp] theorem updPr_switches : (updPr f s).switches = s.switches := rfl
@[simp] theorem updPr_log : (updPr f s).log = s.log := rfl
@[simp] theorem updPr_out : (updPr f s).out = s.out := rfl
@[simp] theorem updPr_free : (updPr f s).free = s.free := rfl
@[simp] theorem updPr_pending : (updPr f s).pending = s.pending := rfl

end

section
variable (f : Ref → Ref) (s : State)

@[simp] theorem updRef_clk : (updRef f s).clk = s.clk := rfl
@[simp] theorem updRef_sys : (updRef f s).sys = s.sys := rfl
@[simp] theorem updRef_boot : (updRef f s).boot = s.boot := rfl
@[simp] theorem updRef_cluster : (updRef f s).cluster = s.cluster := rfl
@[simp] theorem updRef_host : (updRef f s).host = s.host := rfl
@[simp] theorem updRef_cfg : (updRef f s).cfg = s.cfg := rfl
@[simp] theorem updRef_par : (updRef f s).par = s.par := rfl
@[simp] theorem updRef_stats : (updRef f s).stats = s.stats := rfl
@[simp] theorem updRef_time : (updRef f s).time = s.time := rfl
@[simp] theorem updRef_rtc : (updRef f s).rtc = s.rtc := rfl
@[simp] theorem updRef_radio : (updRef f s).radio = s.radio := rfl
@[simp] theorem updRef_lantern : (updRef f s).lantern = s.lantern := rfl
@[simp] theorem updRef_pool : (updRef f s).pool = s.pool := rfl
@[simp] theorem updRef_ports : (updRef f s).ports = s.ports := rfl
@[simp] theorem updRef_gnss : (updRef f s).gnss = s.gnss := rfl
@[simp] theorem updRef_ref : (updRef f s).ref = f s.ref := rfl
@[simp] theorem updRef_fleet : (updRef f s).fleet = s.fleet := rfl
@[simp] theorem updRef_pr : (updRef f s).pr = s.pr := rfl
@[simp] theorem updRef_upd : (updRef f s).upd = s.upd := rfl
@[simp] theorem updRef_quay : (updRef f s).quay = s.quay := rfl
@[simp] theorem updRef_meter : (updRef f s).meter = s.meter := rfl
@[simp] theorem updRef_lampSign : (updRef f s).lampSign = s.lampSign := rfl
@[simp] theorem updRef_gpio : (updRef f s).gpio = s.gpio := rfl
@[simp] theorem updRef_changes : (updRef f s).changes = s.changes := rfl
@[simp] theorem updRef_switches : (updRef f s).switches = s.switches := rfl
@[simp] theorem updRef_log : (updRef f s).log = s.log := rfl
@[simp] theorem updRef_out : (updRef f s).out = s.out := rfl
@[simp] theorem updRef_free : (updRef f s).free = s.free := rfl
@[simp] theorem updRef_pending : (updRef f s).pending = s.pending := rfl

end

section
variable (f : SiteConfig → SiteConfig) (s : State)

@[simp] theorem updPar_clk : (updPar f s).clk = s.clk := rfl
@[simp] theorem updPar_sys : (updPar f s).sys = s.sys := rfl
@[simp] theorem updPar_boot : (updPar f s).boot = s.boot := rfl
@[simp] theorem updPar_cluster : (updPar f s).cluster = s.cluster := rfl
@[simp] theorem updPar_host : (updPar f s).host = s.host := rfl
@[simp] theorem updPar_cfg : (updPar f s).cfg = s.cfg := rfl
@[simp] theorem updPar_par : (updPar f s).par = f s.par := rfl
@[simp] theorem updPar_stats : (updPar f s).stats = s.stats := rfl
@[simp] theorem updPar_time : (updPar f s).time = s.time := rfl
@[simp] theorem updPar_rtc : (updPar f s).rtc = s.rtc := rfl
@[simp] theorem updPar_radio : (updPar f s).radio = s.radio := rfl
@[simp] theorem updPar_lantern : (updPar f s).lantern = s.lantern := rfl
@[simp] theorem updPar_pool : (updPar f s).pool = s.pool := rfl
@[simp] theorem updPar_ports : (updPar f s).ports = s.ports := rfl
@[simp] theorem updPar_gnss : (updPar f s).gnss = s.gnss := rfl
@[simp] theorem updPar_ref : (updPar f s).ref = s.ref := rfl
@[simp] theorem updPar_fleet : (updPar f s).fleet = s.fleet := rfl
@[simp] theorem updPar_pr : (updPar f s).pr = s.pr := rfl
@[simp] theorem updPar_upd : (updPar f s).upd = s.upd := rfl
@[simp] theorem updPar_quay : (updPar f s).quay = s.quay := rfl
@[simp] theorem updPar_meter : (updPar f s).meter = s.meter := rfl
@[simp] theorem updPar_lampSign : (updPar f s).lampSign = s.lampSign := rfl
@[simp] theorem updPar_gpio : (updPar f s).gpio = s.gpio := rfl
@[simp] theorem updPar_changes : (updPar f s).changes = s.changes := rfl
@[simp] theorem updPar_switches : (updPar f s).switches = s.switches := rfl
@[simp] theorem updPar_log : (updPar f s).log = s.log := rfl
@[simp] theorem updPar_out : (updPar f s).out = s.out := rfl
@[simp] theorem updPar_free : (updPar f s).free = s.free := rfl
@[simp] theorem updPar_pending : (updPar f s).pending = s.pending := rfl

end

section
variable (f : Upd → Upd) (s : State)

@[simp] theorem updUpd_clk : (updUpd f s).clk = s.clk := rfl
@[simp] theorem updUpd_sys : (updUpd f s).sys = s.sys := rfl
@[simp] theorem updUpd_boot : (updUpd f s).boot = s.boot := rfl
@[simp] theorem updUpd_cluster : (updUpd f s).cluster = s.cluster := rfl
@[simp] theorem updUpd_host : (updUpd f s).host = s.host := rfl
@[simp] theorem updUpd_cfg : (updUpd f s).cfg = s.cfg := rfl
@[simp] theorem updUpd_par : (updUpd f s).par = s.par := rfl
@[simp] theorem updUpd_stats : (updUpd f s).stats = s.stats := rfl
@[simp] theorem updUpd_time : (updUpd f s).time = s.time := rfl
@[simp] theorem updUpd_rtc : (updUpd f s).rtc = s.rtc := rfl
@[simp] theorem updUpd_radio : (updUpd f s).radio = s.radio := rfl
@[simp] theorem updUpd_lantern : (updUpd f s).lantern = s.lantern := rfl
@[simp] theorem updUpd_pool : (updUpd f s).pool = s.pool := rfl
@[simp] theorem updUpd_ports : (updUpd f s).ports = s.ports := rfl
@[simp] theorem updUpd_gnss : (updUpd f s).gnss = s.gnss := rfl
@[simp] theorem updUpd_ref : (updUpd f s).ref = s.ref := rfl
@[simp] theorem updUpd_fleet : (updUpd f s).fleet = s.fleet := rfl
@[simp] theorem updUpd_pr : (updUpd f s).pr = s.pr := rfl
@[simp] theorem updUpd_upd : (updUpd f s).upd = f s.upd := rfl
@[simp] theorem updUpd_quay : (updUpd f s).quay = s.quay := rfl
@[simp] theorem updUpd_meter : (updUpd f s).meter = s.meter := rfl
@[simp] theorem updUpd_lampSign : (updUpd f s).lampSign = s.lampSign := rfl
@[simp] theorem updUpd_gpio : (updUpd f s).gpio = s.gpio := rfl
@[simp] theorem updUpd_changes : (updUpd f s).changes = s.changes := rfl
@[simp] theorem updUpd_switches : (updUpd f s).switches = s.switches := rfl
@[simp] theorem updUpd_log : (updUpd f s).log = s.log := rfl
@[simp] theorem updUpd_out : (updUpd f s).out = s.out := rfl
@[simp] theorem updUpd_free : (updUpd f s).free = s.free := rfl
@[simp] theorem updUpd_pending : (updUpd f s).pending = s.pending := rfl

end

section
variable (o : Output) (s : State)

@[simp] theorem emit_clk : (emit o s).clk = s.clk := rfl
@[simp] theorem emit_sys : (emit o s).sys = s.sys := rfl
@[simp] theorem emit_boot : (emit o s).boot = s.boot := rfl
@[simp] theorem emit_cluster : (emit o s).cluster = s.cluster := rfl
@[simp] theorem emit_host : (emit o s).host = s.host := rfl
@[simp] theorem emit_cfg : (emit o s).cfg = s.cfg := rfl
@[simp] theorem emit_par : (emit o s).par = s.par := rfl
@[simp] theorem emit_stats : (emit o s).stats = s.stats := rfl
@[simp] theorem emit_time : (emit o s).time = s.time := rfl
@[simp] theorem emit_rtc : (emit o s).rtc = s.rtc := rfl
@[simp] theorem emit_radio : (emit o s).radio = s.radio := rfl
@[simp] theorem emit_lantern : (emit o s).lantern = s.lantern := rfl
@[simp] theorem emit_pool : (emit o s).pool = s.pool := rfl
@[simp] theorem emit_ports : (emit o s).ports = s.ports := rfl
@[simp] theorem emit_gnss : (emit o s).gnss = s.gnss := rfl
@[simp] theorem emit_ref : (emit o s).ref = s.ref := rfl
@[simp] theorem emit_fleet : (emit o s).fleet = s.fleet := rfl
@[simp] theorem emit_pr : (emit o s).pr = s.pr := rfl
@[simp] theorem emit_upd : (emit o s).upd = s.upd := rfl
@[simp] theorem emit_quay : (emit o s).quay = s.quay := rfl
@[simp] theorem emit_meter : (emit o s).meter = s.meter := rfl
@[simp] theorem emit_lampSign : (emit o s).lampSign = s.lampSign := rfl
@[simp] theorem emit_gpio : (emit o s).gpio = s.gpio := rfl
@[simp] theorem emit_changes : (emit o s).changes = s.changes := rfl
@[simp] theorem emit_switches : (emit o s).switches = s.switches := rfl
@[simp] theorem emit_log : (emit o s).log = s.log := rfl
@[simp] theorem emit_out : (emit o s).out = o :: s.out := rfl
@[simp] theorem emit_free : (emit o s).free = s.free := rfl
@[simp] theorem emit_pending : (emit o s).pending = s.pending := rfl

end

section
variable (f : Fn) (b : Bool) (s : State)

@[simp] theorem switch_clk : (switch f b s).clk = s.clk := rfl
@[simp] theorem switch_sys : (switch f b s).sys = s.sys := rfl
@[simp] theorem switch_boot : (switch f b s).boot = s.boot := rfl
@[simp] theorem switch_cluster : (switch f b s).cluster = s.cluster := rfl
@[simp] theorem switch_host : (switch f b s).host = s.host := rfl
@[simp] theorem switch_cfg : (switch f b s).cfg = s.cfg := rfl
@[simp] theorem switch_par : (switch f b s).par = s.par := rfl
@[simp] theorem switch_stats : (switch f b s).stats = s.stats := rfl
@[simp] theorem switch_time : (switch f b s).time = s.time := rfl
@[simp] theorem switch_rtc : (switch f b s).rtc = s.rtc := rfl
@[simp] theorem switch_radio : (switch f b s).radio = s.radio := rfl
@[simp] theorem switch_lantern : (switch f b s).lantern = s.lantern := rfl
@[simp] theorem switch_pool : (switch f b s).pool = s.pool := rfl
@[simp] theorem switch_ports : (switch f b s).ports = s.ports := rfl
@[simp] theorem switch_gnss : (switch f b s).gnss = s.gnss := rfl
@[simp] theorem switch_ref : (switch f b s).ref = s.ref := rfl
@[simp] theorem switch_fleet : (switch f b s).fleet = s.fleet := rfl
@[simp] theorem switch_pr : (switch f b s).pr = s.pr := rfl
@[simp] theorem switch_upd : (switch f b s).upd = s.upd := rfl
@[simp] theorem switch_quay : (switch f b s).quay = s.quay := rfl
@[simp] theorem switch_meter : (switch f b s).meter = s.meter := rfl
@[simp] theorem switch_lampSign : (switch f b s).lampSign = s.lampSign := rfl
@[simp] theorem switch_gpio : (switch f b s).gpio = s.gpio := rfl
@[simp] theorem switch_changes : (switch f b s).changes = s.changes := rfl
@[simp] theorem switch_log : (switch f b s).log = s.log := rfl
@[simp] theorem switch_out : (switch f b s).out = s.out := rfl
@[simp] theorem switch_free : (switch f b s).free = s.free := rfl
@[simp] theorem switch_pending : (switch f b s).pending = s.pending := rfl

end

section
variable (s : State)

@[simp] theorem draw_clk : (draw s).clk = s.clk := rfl
@[simp] theorem draw_sys : (draw s).sys = s.sys := rfl
@[simp] theorem draw_boot : (draw s).boot = s.boot := rfl
@[simp] theorem draw_cluster : (draw s).cluster = s.cluster := rfl
@[simp] theorem draw_host : (draw s).host = s.host := rfl
@[simp] theorem draw_cfg : (draw s).cfg = s.cfg := rfl
@[simp] theorem draw_par : (draw s).par = s.par := rfl
@[simp] theorem draw_stats : (draw s).stats = s.stats := rfl
@[simp] theorem draw_time : (draw s).time = s.time := rfl
@[simp] theorem draw_rtc : (draw s).rtc = s.rtc := rfl
@[simp] theorem draw_radio : (draw s).radio = s.radio := rfl
@[simp] theorem draw_lantern : (draw s).lantern = s.lantern := rfl
@[simp] theorem draw_pool : (draw s).pool = s.pool := rfl
@[simp] theorem draw_ports : (draw s).ports = s.ports := rfl
@[simp] theorem draw_gnss : (draw s).gnss = s.gnss := rfl
@[simp] theorem draw_ref : (draw s).ref = s.ref := rfl
@[simp] theorem draw_fleet : (draw s).fleet = s.fleet := rfl
@[simp] theorem draw_pr : (draw s).pr = s.pr := rfl
@[simp] theorem draw_upd : (draw s).upd = s.upd := rfl
@[simp] theorem draw_quay : (draw s).quay = s.quay := rfl
@[simp] theorem draw_meter : (draw s).meter = s.meter := rfl
@[simp] theorem draw_lampSign : (draw s).lampSign = s.lampSign := rfl
@[simp] theorem draw_gpio : (draw s).gpio = s.gpio := rfl
@[simp] theorem draw_changes : (draw s).changes = s.changes := rfl
@[simp] theorem draw_switches : (draw s).switches = s.switches := rfl
@[simp] theorem draw_log : (draw s).log = s.log := rfl
@[simp] theorem draw_out : (draw s).out = s.out := rfl
@[simp] theorem draw_free : (draw s).free = s.free + 1 := rfl
@[simp] theorem draw_pending : (draw s).pending = s.pending := rfl

end

section
variable (ws : List Part) (s t : State)

@[simp] theorem merge_clk : (State.merge ws s t).clk = if ws.contains .clk then { t.clk with tide := s.clk.tide } else s.clk := rfl
@[simp] theorem merge_sys : (State.merge ws s t).sys = if ws.contains .sys then t.sys else s.sys := rfl
@[simp] theorem merge_boot : (State.merge ws s t).boot = if ws.contains .boot then t.boot else s.boot := rfl
@[simp] theorem merge_cluster : (State.merge ws s t).cluster = if ws.contains .cluster then t.cluster else s.cluster := rfl
@[simp] theorem merge_host : (State.merge ws s t).host = if ws.contains .host then t.host else s.host := rfl
@[simp] theorem merge_cfg : (State.merge ws s t).cfg = if ws.contains .cfg then t.cfg else s.cfg := rfl
@[simp] theorem merge_par : (State.merge ws s t).par = if ws.contains .par then t.par else s.par := rfl
@[simp] theorem merge_stats : (State.merge ws s t).stats = if ws.contains .stats then t.stats else s.stats := rfl
@[simp] theorem merge_time : (State.merge ws s t).time = if ws.contains .time then t.time else s.time := rfl
@[simp] theorem merge_rtc : (State.merge ws s t).rtc = if ws.contains .rtc then t.rtc else s.rtc := rfl
@[simp] theorem merge_radio : (State.merge ws s t).radio = if ws.contains .radio then t.radio else s.radio := rfl
@[simp] theorem merge_lantern : (State.merge ws s t).lantern = if ws.contains .lantern then t.lantern else s.lantern := rfl
@[simp] theorem merge_pool : (State.merge ws s t).pool = if ws.contains .pool then t.pool else s.pool := rfl
@[simp] theorem merge_ports : (State.merge ws s t).ports = if ws.contains .ports then t.ports else s.ports := rfl
@[simp] theorem merge_gnss : (State.merge ws s t).gnss = if ws.contains .gnss then t.gnss else s.gnss := rfl
@[simp] theorem merge_ref : (State.merge ws s t).ref = if ws.contains .ref then t.ref else s.ref := rfl
@[simp] theorem merge_fleet : (State.merge ws s t).fleet = if ws.contains .fleet then t.fleet else s.fleet := rfl
@[simp] theorem merge_pr : (State.merge ws s t).pr = if ws.contains .pr then t.pr else s.pr := rfl
@[simp] theorem merge_upd : (State.merge ws s t).upd = if ws.contains .upd then t.upd else s.upd := rfl
@[simp] theorem merge_quay : (State.merge ws s t).quay = if ws.contains .quay then t.quay else s.quay := rfl
@[simp] theorem merge_meter : (State.merge ws s t).meter = if ws.contains .meter then t.meter else s.meter := rfl
@[simp] theorem merge_lampSign : (State.merge ws s t).lampSign = if ws.contains .lampSign then t.lampSign else s.lampSign := rfl
@[simp] theorem merge_gpio : (State.merge ws s t).gpio = if ws.contains .gpio then t.gpio else s.gpio := rfl
@[simp] theorem merge_changes : (State.merge ws s t).changes = if ws.contains .changes then t.changes else s.changes := rfl
@[simp] theorem merge_switches : (State.merge ws s t).switches = if ws.contains .switches then t.switches else s.switches := rfl
@[simp] theorem merge_log : (State.merge ws s t).log = if ws.contains .log then t.log else s.log := rfl
@[simp] theorem merge_out : (State.merge ws s t).out = if ws.contains .out then t.out else s.out := rfl
@[simp] theorem merge_free : (State.merge ws s t).free = if ws.contains .free then t.free else s.free := rfl
@[simp] theorem merge_pending : (State.merge ws s t).pending = s.pending := rfl

end

end Sys2Proof.Machine
end

