-- ==== Sys2Proof/Laws/Table.lean ====
section
/-! SUPPORT. Sys2Proof/Laws/Table.lean: a read after a write of a sparse table, at the key written and at every other
one, and the canonical form that every write keeps. -/

namespace Sys2Proof.Machine

variable {α : Type}

theorem tget_tinsert_same (d : α) (t : Tbl α) (k : Nat) (v : α) : tget d (tinsert t k v) k = v := by
  induction t with
  | nil => simp [tinsert, tget]
  | cons x t ih =>
    unfold tinsert
    split
    · simp [tget]
    · split
      · simp [tget]
      · simp [tget, *]

theorem tget_tinsert_other (d : α) (t : Tbl α) {k j : Nat} (v : α) (h : j ≠ k) :
    tget d (tinsert t k v) j = tget d t j := by
  induction t with
  | nil => simp [tinsert, tget, h]
  | cons x t ih =>
    obtain ⟨m, a⟩ := x
    unfold tinsert
    split
    · subst_vars; simp [tget, h]
    · split
      · simp [tget, h]
      · simp only [tget]; split <;> simp [ih]

theorem tget_terase_same (d : α) (t : Tbl α) (k : Nat) : tget d (terase t k) k = d := by
  induction t with
  | nil => simp [terase, tget]
  | cons x t ih =>
    obtain ⟨m, a⟩ := x
    unfold terase
    split
    · exact ih
    · simp [tget, *]

theorem tget_terase_other (d : α) (t : Tbl α) {k j : Nat} (h : j ≠ k) : tget d (terase t k) j = tget d t j := by
  induction t with
  | nil => simp [terase, tget]
  | cons x t ih =>
    obtain ⟨m, a⟩ := x
    unfold terase
    split
    · subst_vars; simp [tget, h, ih]
    · simp only [tget]; split <;> simp [ih]

/-- Every key of a table lies above a bound. -/
def Above (b : Nat) (t : Tbl α) : Prop := ∀ x ∈ t, b < x.1

theorem above_terase {b : Nat} {t : Tbl α} (k : Nat) (h : Above b t) : Above b (terase t k) := by
  induction t with
  | nil => simpa [terase] using h
  | cons x t ih =>
    obtain ⟨m, a⟩ := x
    have ht : Above b t := fun y hy => h y (List.mem_cons_of_mem _ hy)
    unfold terase
    split
    · exact ih ht
    · intro y hy
      rcases List.mem_cons.1 hy with rfl | hy
      · exact h _ (by simp)
      · exact ih ht y hy

theorem above_tinsert {b : Nat} {t : Tbl α} {k : Nat} (v : α) (hk : b < k) (h : Above b t) :
    Above b (tinsert t k v) := by
  induction t with
  | nil => intro y hy; simp [tinsert] at hy; simp [hy, hk]
  | cons x t ih =>
    obtain ⟨m, a⟩ := x
    have ht : Above b t := fun y hy => h y (List.mem_cons_of_mem _ hy)
    have hm : b < m := h (m, a) (by simp)
    unfold tinsert
    split
    · intro y hy
      rcases List.mem_cons.1 hy with rfl | hy
      · exact hk
      · exact ht y hy
    · split
      · intro y hy
        rcases List.mem_cons.1 hy with rfl | hy
        · exact hk
        · exact h y hy
      · intro y hy
        rcases List.mem_cons.1 hy with rfl | hy
        · exact hm
        · exact ih ht y hy

variable [DecidableEq α]

@[simp] theorem tget_tput_same (d : α) (t : Tbl α) (k : Nat) (v : α) : tget d (tput d t k v) k = v := by
  unfold tput
  split
  · subst_vars; exact tget_terase_same ..
  · exact tget_tinsert_same ..

theorem tget_tput_other (d : α) (t : Tbl α) {k j : Nat} (v : α) (h : j ≠ k) :
    tget d (tput d t k v) j = tget d t j := by
  unfold tput
  split
  · exact tget_terase_other _ _ h
  · exact tget_tinsert_other _ _ _ h

theorem tget_tput (d : α) (t : Tbl α) (k j : Nat) (v : α) :
    tget d (tput d t k v) j = if j = k then v else tget d t j := by
  split
  · subst_vars; simp
  · exact tget_tput_other _ _ _ ‹_›

/-! ## The canonical form -/

theorem twf_cons (d : α) (k : Nat) (v : α) (t : Tbl α) :
    twf d ((k, v) :: t) = true ↔ v ≠ d ∧ Above k t ∧ twf d t = true := by
  induction t generalizing k v with
  | nil => simp [twf, Above]
  | cons x t ih =>
    obtain ⟨m, a⟩ := x
    constructor
    · intro h
      have h2 : v ≠ d ∧ k < m ∧ twf d ((m, a) :: t) = true := by
        simpa [twf, and_assoc] using h
      obtain ⟨h1, hk, ht⟩ := h2
      refine ⟨h1, ?_, ht⟩
      intro y hy
      rcases List.mem_cons.1 hy with rfl | hy
      · exact hk
      · exact Nat.lt_trans hk (((ih m a).1 ht).2.1 y hy)
    · rintro ⟨h1, hk, ht⟩
      have hk' : k < m := hk (m, a) (by simp)
      have := ht
      simp [twf, h1, hk'] at this ⊢
      exact this

theorem twf_terase (d : α) {t : Tbl α} (k : Nat) (h : twf d t = true) : twf d (terase t k) = true := by
  induction t with
  | nil => simp [terase, twf]
  | cons x t ih =>
    obtain ⟨m, a⟩ := x
    obtain ⟨h1, h2, h3⟩ := (twf_cons ..).1 h
    unfold terase
    split
    · exact ih h3
    · exact (twf_cons ..).2 ⟨h1, above_terase _ h2, ih h3⟩

theorem twf_tinsert (d : α) {t : Tbl α} (k : Nat) {v : α} (hv : v ≠ d) (h : twf d t = true) :
    twf d (tinsert t k v) = true := by
  induction t with
  | nil => exact (twf_cons ..).2 ⟨hv, by simp [Above], rfl⟩
  | cons x t ih =>
    obtain ⟨m, a⟩ := x
    obtain ⟨h1, h2, h3⟩ := (twf_cons ..).1 h
    unfold tinsert
    split
    · subst_vars; exact (twf_cons ..).2 ⟨hv, h2, h3⟩
    · split
      · refine (twf_cons ..).2 ⟨hv, ?_, h⟩
        intro y hy
        rcases List.mem_cons.1 hy with rfl | hy
        · assumption
        · exact Nat.lt_trans ‹_› (h2 y hy)
      · exact (twf_cons ..).2 ⟨h1, above_tinsert _ (by omega) h2, ih h3⟩

/-- A write keeps the canonical form. -/
theorem twf_tput (d : α) {t : Tbl α} (k : Nat) (v : α) (h : twf d t = true) : twf d (tput d t k v) = true := by
  unfold tput
  split
  · exact twf_terase _ _ h
  · exact twf_tinsert _ _ ‹_› h

end Sys2Proof.Machine
end

