-- ==== Sys2Proof/Laws/Ops.lean ====
section
/-! SUPPORT. Sys2Proof/Laws/Ops.lean: what each shared operation does, said once: the parts of the State it may change,
the windows it leaves alone, and the response it puts into one. -/

namespace Sys2Proof.Machine

/-! ## Lengths of words and frames -/

@[simp] theorem le_length (n v : Nat) : (le n v).length = n := by
  induction n generalizing v with
  | zero => rfl
  | succ n ih => simp [le, ih]

@[simp] theorem be_length (n v : Nat) : (be n v).length = n := by simp [be]

/-- A secured frame of level 1 adds at most 16 bytes of a MIC and its FCS (R210). -/
theorem micFrame_short (k : List Byte) (e a : Nat) (b : List Byte) : (micFrame k e a b).length ≤ b.length + 18 := by
  simp [micFrame, withFcs, ccm, xorBytes, ccmMac]

/-- A frame of up to 224 bytes takes one berth (R419). -/
theorem berths_one {n : Nat} (h : n ≤ 224) : berths n = 1 := by unfold berths; omega

/-! ## Frames compose -/

theorem Only.refl (ws : List Part) (s : State) : Only ws s s := ⟨rfl, fun p _ => by cases p <;> rfl⟩

theorem Part.same_trans {p : Part} {s t u : State} (h : p.same s t) (g : p.same t u) : p.same s u := by
  cases p <;> simp only [Part.same] at * <;> exact g.trans h

theorem Only.trans {ws vs : List Part} {s t u : State} (h : Only ws s t) (g : Only vs t u) : Only (ws ++ vs) s u :=
  ⟨g.1.trans h.1, fun p hp => Part.same_trans (h.2 p (fun m => hp (List.mem_append_left _ m)))
    (g.2 p (fun m => hp (List.mem_append_right _ m)))⟩

theorem Only.mono {ws vs : List Part} {s t : State} (h : Only ws s t) (hs : ∀ p ∈ ws, p ∈ vs) : Only vs s t :=
  ⟨h.1, fun p hp => h.2 p (fun m => hp (hs p m))⟩

/-- Two changes within the same parts. -/
theorem Only.after {ws : List Part} {s t u : State} (h : Only ws s t) (g : Only ws t u) : Only ws s u :=
  (h.trans g).mono (by simp)

/-- A loop of changes within some parts stays within them. -/
theorem each_only {ws : List Part} {f : Nat → State → State} (hf : ∀ k s, Only ws s (f k s)) (ks : List Nat) (s : State) :
    Only ws s (each ks f s) := by
  induction ks generalizing s with
  | nil => exact Only.refl _ _
  | cons k ks ih => exact (hf k s).after (ih (f k s))

/-! ## How a command ends -/

theorem merge_only (ws : List Part) (s t : State) : Only ws s (State.merge ws s t) := by
  refine ⟨rfl, fun p hp => ?_⟩
  have h : ws.contains p = false := by simpa using hp
  cases p <;> simp only [Part.same, merge_clk, merge_sys, merge_boot, merge_cluster, merge_host, merge_cfg, merge_par,
    merge_stats, merge_time, merge_rtc, merge_radio, merge_lantern, merge_pool, merge_ports, merge_gnss, merge_ref,
    merge_fleet, merge_pr, merge_upd, merge_quay, merge_meter, merge_lampSign, merge_gpio, merge_changes, merge_switches,
    merge_log, merge_out, merge_free, h] <;> rfl

/-- A command that ends with doneIn answers a next state, changes the named parts alone, and keeps the tide number. -/
theorem doneIn_next {ws : List Part} {s t u : State} (h : doneIn ws s t = .next u) : u = State.merge ws s t := by
  cases h; rfl

theorem merge_tide (ws : List Part) (s t : State) : (State.merge ws s t).clk.tide = s.clk.tide := by
  rw [merge_clk]; split <;> rfl

/-- The merge gives back what a change within the named parts reached, when the change kept the tide number. -/
theorem merge_eq {ws : List Part} {s t : State} (h : Only ws s t) (k : t.clk.tide = s.clk.tide) :
    State.merge ws s t = t := by
  obtain ⟨hp, h⟩ := h
  have hc : ({ t.clk with tide := s.clk.tide } : Clk) = t.clk := by rw [← k]
  have key : ∀ p : Part, ws.contains p = false → p.same s t := fun p hp => h p (by simpa using hp)
  unfold State.merge
  have e {α : Type} (p : Part) (x y : α) (g : p.same s t → x = y) : (if ws.contains p then x else y) = x := by
    cases hw : ws.contains p with
    | true => rfl
    | false => exact (g (key p hw)).symm
  rw [hc, e .clk _ _ id, e .sys _ _ id, e .boot _ _ id, e .cluster _ _ id, e .host _ _ id, e .cfg _ _ id, e .par _ _ id,
    e .stats _ _ id, e .time _ _ id, e .rtc _ _ id, e .radio _ _ id, e .lantern _ _ id, e .pool _ _ id, e .ports _ _ id,
    e .gnss _ _ id, e .ref _ _ id, e .fleet _ _ id, e .pr _ _ id, e .upd _ _ id, e .quay _ _ id, e .meter _ _ id,
    e .lampSign _ _ id, e .gpio _ _ id, e .changes _ _ id, e .switches _ _ id, e .log _ _ id, e .out _ _ id,
    e .free _ _ id, ← hp]

/-- A meaning that changes the named parts alone and keeps the tide number answers exactly the state it reached. -/
theorem doneIn_eq {ws : List Part} {s t : State} (h : Only ws s t) (k : t.clk.tide = s.clk.tide) :
    doneIn ws s t = .next t := by rw [doneIn, merge_eq h k]

/-! ## Windows -/

@[simp] theorem win_setWin_same (w : Nat) (v : Window) (s : State) : win (setWin w v s) w = v := by
  simp [win, setWin]

theorem win_setWin_other {w x : Nat} (v : Window) (s : State) (h : x ≠ w) : win (setWin w v s) x = win s x := by
  simp [win, setWin, tget_tput_other _ _ _ h]

@[simp] theorem win_emit (o : Output) (s : State) (w : Nat) : win (emit o s) w = win s w := rfl

@[simp] theorem win_toStream (p : Nat) (o : Output) (s : State) (w : Nat) : win (toStream p o s) w = win s w := rfl

@[simp] theorem win_msix (v : Nat) (s : State) (w : Nat) : win (msix v s) w = win s w := by
  unfold msix; split <;> rfl

theorem out_setWin (w : Nat) (v : Window) (s : State) : ∃ l, (setWin w v s).out = l ++ s.out :=
  ⟨_, rfl⟩

theorem setWin_only (w : Nat) (v : Window) (s : State) : Only [.host, .out] s (setWin w v s) :=
  ⟨rfl, fun p hp => by cases p <;> first | rfl | simp at hp⟩

theorem emit_only (o : Output) (s : State) : Only [.host, .out] s (emit o s) :=
  ⟨rfl, fun p hp => by cases p <;> first | rfl | simp at hp⟩

theorem toStream_only (p : Nat) (o : Output) (s : State) : Only [.host, .out] s (toStream p o s) :=
  ⟨rfl, fun p hp => by cases p <;> first | rfl | simp at hp⟩

theorem msix_only (v : Nat) (s : State) : Only [.host, .out] s (msix v s) := by
  unfold msix
  split
  · exact ⟨rfl, fun p hp => by cases p <;> first | rfl | simp at hp⟩
  · exact emit_only _ _

theorem updWin_only (w : Nat) (f : Window → Window) (s : State) : Only [.host, .out] s (updWin w f s) := setWin_only ..

/-! ## Responses -/

theorem respond_only (w status : Nat) (p : List Byte) (s : State) : Only [.host, .out] s (respond w status p s) := by
  unfold respond; dsimp only
  split
  · exact Only.refl _ _
  · split
    · exact setWin_only ..
    · split
      · exact (setWin_only ..).after (toStream_only ..)
      · split
        · exact (setWin_only ..).after (msix_only ..)
        · exact setWin_only ..

theorem win_respond_other {w x : Nat} (status : Nat) (p : List Byte) (s : State) (h : x ≠ w) :
    win (respond w status p s) x = win s x := by
  unfold respond; dsimp only
  split
  · rfl
  · split
    · exact win_setWin_other _ _ h
    · split
      · exact win_setWin_other _ _ h
      · split
        · exact (win_msix ..).trans (win_setWin_other _ _ h)
        · exact win_setWin_other _ _ h

/-- A response stands in the window of the command it answers (R86, R96, R99, R111). -/
theorem respond_answers {s : State} {w : Nat} {c : Cmd} (h : (win s w).inflight = some c) (k : (win s w).st ≠ 4)
    (l : (win s w).caller = none) (status : Nat) (p : List Byte) : Answered s (respond w status p s) w c status p := by
  have k' : ¬ ((win s w).st == 4 || (win s w).caller.isSome) = true := by simp [k, l]
  unfold respond; dsimp only; rw [h]; dsimp only; rw [if_neg k']
  split
  · rename_i ho
    refine ⟨?_, ?_⟩
    · rw [win_toStream, win_setWin_same]
    · rw [if_pos (by simpa using ho)]; exact List.mem_append_right _ List.mem_cons_self
  · rename_i ho
    generalize hv : ({ win s w with inflight := none, rspReady := true, rspSeq := c.seq, rspLen := _, rspBuf := _ } : Window) = v
    have e : ∀ t : State, t = (if ((win s w).rspIe && (win s w).origin == 1) = true then msix (8 * w) (setWin w v s)
        else setWin w v s) → win t w = v := by
      rintro t rfl; split
      · rw [win_msix, win_setWin_same]
      · rw [win_setWin_same]
    refine ⟨?_, ?_⟩
    · rw [e _ rfl, ← hv]
    · rw [if_neg (by simpa using ho), e _ rfl, ← hv]
      exact ⟨rfl, rfl, rfl, List.take_left' rfl⟩

/-- A window without its event records: what the delivery of events leaves alone. -/
def Window.base (v : Window) : Window :=
  { v with queue := [], evtReady := false, lost := false, lostNext := false, evtSeq := 0, evtRecord := [], evtDropped := 0 }

theorem Window.base_events (v : Window) (q : List EvtRec) (a b c : Bool) (n : Nat) (r : List Byte) (d : BitVec 32) :
    Window.base { v with queue := q, evtReady := a, lost := b, lostNext := c, evtSeq := n, evtRecord := r, evtDropped := d } =
      v.base := rfl

/-- Every window keeps all but its event records, and what left the module or waits to leave it stays; only outputs are added. -/
def Grows (s t : State) : Prop :=
  s.out <:+ t.out ∧ s.host.outbox <+: t.host.outbox ∧ ∀ w, (win t w).base = (win s w).base

theorem Grows.refl (s : State) : Grows s s := ⟨List.suffix_refl _, List.prefix_refl _, fun _ => rfl⟩

theorem Grows.trans {s t u : State} (h : Grows s t) (g : Grows t u) : Grows s u :=
  ⟨h.1.trans g.1, h.2.1.trans g.2.1, fun w => (g.2.2 w).trans (h.2.2 w)⟩

/-- A field that the delivery of events leaves alone. -/
theorem Grows.field {α : Type} {s t : State} (g : Grows s t) (w : Nat) (f : Window → α)
    (h : ∀ v : Window, f v.base = f v) : f (win t w) = f (win s w) := by
  rw [← h, ← h (win s w), g.2.2 w]

theorem each_grows {f : Nat → State → State} (hf : ∀ k s, Grows s (f k s)) (ks : List Nat) (s : State) :
    Grows s (each ks f s) := by
  induction ks generalizing s with
  | nil => exact Grows.refl _
  | cons k ks ih => exact (hf k s).trans (ih (f k s))

/-- An answer stays through what only adds outputs. -/
theorem Answered.grows {s t u : State} {w : Nat} {c : Cmd} {status : Nat} {p : List Byte}
    (h : Answered s t w c status p) (g : Grows t u) : Answered s u w c status p := by
  have a := g.field w (·.inflight) (fun _ => rfl)
  have b := g.field w (·.rspReady) (fun _ => rfl)
  have d := g.field w (·.rspSeq) (fun _ => rfl)
  have e := g.field w (·.rspLen) (fun _ => rfl)
  have f := g.field w (·.rspBuf) (fun _ => rfl)
  refine ⟨a.trans h.1, ?_⟩
  have h2 := h.2
  by_cases ho : (win s w).origin = 4
  · rw [if_pos ho] at h2 ⊢; exact g.2.1.subset h2
  · rw [if_neg ho] at h2 ⊢; rw [b, d, e, f]; exact h2

/-- A state that differs in other parts than the windows and the outputs holds the same answers. -/
theorem grows_of_eq {s t : State} (h : t.host = s.host) (g : t.out = s.out) : Grows s t :=
  ⟨g ▸ List.suffix_refl _, h ▸ List.prefix_refl _, fun w => by
    have e : win t w = win s w := by rw [win, win, h]
    rw [e]⟩

theorem Answered.of_start {s s' t : State} {w : Nat} {c : Cmd} {status : Nat} {p : List Byte}
    (h : Answered s' t w c status p) (g : s'.host = s.host) : Answered s t w c status p := by
  have e : win s' w = win s w := by rw [win, win, g]
  unfold Answered at *; rw [e] at h; exact h

theorem Answered.merge {s t : State} {w : Nat} {c : Cmd} {status : Nat} {p : List Byte} {ws : List Part}
    (h : Answered s t w c status p) (a : Part.host ∈ ws) :
    Answered s (State.merge ws s t) w c status p := by
  have a' : ws.contains Part.host = true := by simpa using a
  have e : win (State.merge ws s t) w = win t w := by rw [win, win, merge_host, if_pos a']
  unfold Answered at *; rw [e, merge_host, if_pos a']; exact h

/-! ## Events -/

theorem setWin_grows {w : Nat} {v : Window} {s : State} (h : v.base = (win s w).base) : Grows s (setWin w v s) := by
  refine ⟨?_, List.prefix_refl _, fun x => ?_⟩
  · obtain ⟨l, hl⟩ := out_setWin w v s
    exact hl ▸ List.suffix_append ..
  · by_cases hx : x = w
    · subst hx; rw [win_setWin_same, h]
    · rw [win_setWin_other _ _ hx]

theorem emit_grows (o : Output) (s : State) : Grows s (emit o s) :=
  ⟨List.suffix_cons .., List.prefix_refl _, fun _ => rfl⟩

theorem toStream_grows (p : Nat) (o : Output) (s : State) : Grows s (toStream p o s) :=
  ⟨List.suffix_refl _, List.prefix_append .., fun _ => rfl⟩

theorem msix_grows (v : Nat) (s : State) : Grows s (msix v s) := by
  unfold msix; split
  · exact ⟨List.suffix_refl _, List.prefix_refl _, fun _ => rfl⟩
  · exact emit_grows ..

theorem loadEvt_only (w : Nat) (s : State) : Only [.host, .out] s (loadEvt w s) := by
  unfold loadEvt; dsimp only
  split
  · exact Only.refl _ _
  · split
    · split
      · exact Only.refl _ _
      · exact (setWin_only ..).after (toStream_only ..)
    · split
      · exact Only.refl _ _
      · split
        · exact (setWin_only ..).after (msix_only ..)
        · exact setWin_only ..

theorem loadEvt_grows (w : Nat) (s : State) : Grows s (loadEvt w s) := by
  unfold loadEvt; dsimp only
  split
  · exact Grows.refl _
  · split
    · split
      · exact Grows.refl _
      · exact Grows.trans (setWin_grows (Window.base_events ..)) (toStream_grows ..)
    · split
      · exact Grows.refl _
      · split
        · exact Grows.trans (setWin_grows (Window.base_events ..)) (msix_grows ..)
        · exact setWin_grows (Window.base_events ..)

theorem enqueue_only (w : Nat) (e : EvtRec) (s : State) : Only [.host, .out] s (enqueue w e s) := by
  unfold enqueue; dsimp only; split
  · exact setWin_only ..
  · exact (setWin_only ..).after (loadEvt_only ..)

theorem enqueue_grows (w : Nat) (e : EvtRec) (s : State) : Grows s (enqueue w e s) := by
  unfold enqueue; dsimp only; split
  · exact setWin_grows (Window.base_events ..)
  · exact Grows.trans (setWin_grows (Window.base_events ..)) (loadEvt_grows ..)

theorem deliverTo_only (e : EvtRec) (w : Nat) (s : State) : Only [.host, .out] s (deliverTo e w s) := by
  unfold deliverTo; dsimp only; split
  · split
    · exact enqueue_only ..
    · exact Only.refl _ _
  · exact Only.refl _ _

theorem deliverTo_grows (e : EvtRec) (w : Nat) (s : State) : Grows s (deliverTo e w s) := by
  unfold deliverTo; dsimp only; split
  · split
    · exact enqueue_grows ..
    · exact Grows.refl _
  · exact Grows.refl _

/-- A change of the host part that leaves every window alone. -/
theorem hosts_only (h : Hosts) (s : State) : Only [.host, .out] s { s with host := h } :=
  ⟨rfl, fun p hp => by cases p <;> first | rfl | simp at hp⟩

theorem hosts_grows {h : Hosts} {s : State} (e : h.win = s.host.win) (o : h.outbox = s.host.outbox) :
    Grows s { s with host := h } :=
  ⟨List.suffix_refl _, o ▸ List.prefix_refl _, fun w => by
    have k : win { s with host := h } w = win s w := by rw [win, win]; exact congrArg (tget {} · w) e
    rw [k]⟩

theorem enterAll_only (left : Option Nat) (e : EvtRec) (s : State) : Only [.host, .out] s (enterAll left e s) := by
  unfold enterAll; dsimp only; split
  · exact (each_only (deliverTo_only e) _ _).after (hosts_only ..)
  · exact each_only (deliverTo_only e) _ _

theorem enterAll_grows (left : Option Nat) (e : EvtRec) (s : State) : Grows s (enterAll left e s) := by
  unfold enterAll; dsimp only; split
  · exact (each_grows (deliverTo_grows e) _ _).trans (hosts_grows rfl rfl)
  · exact each_grows (deliverTo_grows e) _ _

theorem enter_only (e : EvtRec) (x : Option Nat) (s : State) : Only [.host, .out] s (enter e x s) := by
  unfold enter; split
  · split
    · split
      · exact enqueue_only ..
      · exact Only.refl _ _
    · exact Only.refl _ _
  · exact enterAll_only ..

theorem enter_grows (e : EvtRec) (x : Option Nat) (s : State) : Grows s (enter e x s) := by
  unfold enter; split
  · split
    · split
      · exact enqueue_grows ..
      · exact Grows.refl _
    · exact Grows.refl _
  · exact enterAll_grows ..

/-- Posting an event changes the host part and the outputs alone (R108). -/
theorem post_only (e : EvtRec) (x : Option Nat) (s : State) : Only [.host, .out] s (post e x s) := by
  unfold post; split
  · exact hosts_only ..
  · exact enter_only ..

theorem post_grows (e : EvtRec) (x : Option Nat) (s : State) : Grows s (post e x s) := by
  unfold post; split
  · exact hosts_grows rfl rfl
  · exact enter_grows ..

/-- Raising an event changes windows and outputs alone (R108). -/
theorem raiseBut_only (left : Option Nat) (code : Nat) (p : List Byte) (s : State) :
    Only [.host, .out] s (raiseBut left code p s) := post_only ..

theorem raiseBut_grows (left : Option Nat) (code : Nat) (p : List Byte) (s : State) :
    Grows s (raiseBut left code p s) := post_grows ..

/-- Putting the events of one clock cycle in order changes no more than the work of that cycle and the host part. -/
theorem inOneCycle_only {ws : List Part} {f : State → State} (hf : ∀ s, Only ws s (f s)) (s : State) :
    Only (.host :: .out :: ws) s (inOneCycle f s) := by
  have loop (l : List (EvtRec × Option Nat)) (t : State) :
      Only [.host, .out] t (l.foldl (fun t x => post x.1 x.2 t) t) := by
    induction l generalizing t with
    | nil => exact Only.refl _ _
    | cons x l ih => exact (post_only x.1 x.2 t).after (ih _)
  unfold inOneCycle; dsimp only
  exact ((((hosts_only ..).trans (hf _)).trans (hosts_only ..)).trans (loop _ _)).mono (by simp; tauto)

theorem raise_only (code : Nat) (p : List Byte) (s : State) : Only [.host, .out] s (raise code p s) := raiseBut_only ..

theorem raise_grows (code : Nat) (p : List Byte) (s : State) : Grows s (raise code p s) := raiseBut_grows ..

/-! ## Logbook records -/

theorem floodCount_only (a b : Nat) (s : State) : Only [.log] s (floodCount a b s) :=
  ⟨rfl, fun p hp => by cases p <;> first | rfl | simp at hp⟩

theorem log_only (l : Logb) (s : State) : Only [.log] s { s with log := l } :=
  ⟨rfl, fun p hp => by cases p <;> first | rfl | simp at hp⟩

theorem stage_only (r : LogRec) (s : State) : Only [.log] s (stage r s) := by
  unfold stage; dsimp only
  split
  · exact log_only ..
  · split
    · exact floodCount_only ..
    · split
      · exact floodCount_only ..
      · exact (log_only ..).after (floodCount_only ..)

theorem limited_only (r : LogRec) (s : State) : Only [.log] s (limited r s).2 := by
  unfold limited; dsimp only
  split
  · exact Only.refl _ _
  · split <;> exact log_only ..

theorem logCodeRec_only (code sev source : Nat) (p : List Byte) (s : State) :
    Only [.log] s (logCodeRec code sev source p s) := by
  unfold logCodeRec; dsimp only
  split
  · exact limited_only ..
  · exact (limited_only ..).after (stage_only ..)

/-- A logbook record changes the logbook alone (R597, R601). -/
theorem logIt_only (svc occ sev source : Nat) (d : List Nat) (s : State) : Only [.log] s (logIt svc occ sev source d s) :=
  logCodeRec_only ..

theorem logOwn_only (code sev : Nat) (p : List Byte) (s : State) : Only [.log] s (logOwn code sev p s) := by
  unfold logOwn; dsimp only; split <;> exact log_only ..

theorem Only.grows {ws : List Part} {s t : State} (h : Only ws s t) (a : Part.host ∉ ws) (b : Part.out ∉ ws) :
    Grows s t := grows_of_eq (h.2 _ a) (h.2 _ b)

/-! ## Ends of jobs -/

/-- The end of a job is an event of its session or a logbook record (R93, R101). -/
theorem finish_only (j : Job) (status : Nat) (s : State) : Only [.host, .out, .log] s (finish j status s) := by
  unfold finish; dsimp only; split
  · exact (post_only ..).mono (by simp)
  · exact (logIt_only ..).mono (by simp)

theorem finish_grows (j : Job) (status : Nat) (s : State) : Grows s (finish j status s) := by
  unfold finish; dsimp only; split
  · exact post_grows ..
  · exact (logIt_only ..).grows (by simp) (by simp)

theorem finishOpt_only (j : Option Job) (status : Nat) (s : State) : Only [.host, .out, .log] s (finishOpt j status s) := by
  unfold finishOpt; split
  · exact finish_only ..
  · exact Only.refl _ _

theorem finishOpt_grows (j : Option Job) (status : Nat) (s : State) : Grows s (finishOpt j status s) := by
  unfold finishOpt; split
  · exact finish_grows ..
  · exact Grows.refl _

/-! ## Commands in flight -/

@[simp] theorem win_takeTurn (s : State) (w : Nat) : win (takeTurn s) w = win s w := rfl

@[simp] theorem win_putWin_same (w : Nat) (v : Window) (s : State) : win (putWin w v s) w = v := by
  simp [win, putWin]

theorem win_putWin_other {w x : Nat} (v : Window) (s : State) (h : x ≠ w) : win (putWin w v s) x = win s x := by
  simp [win, putWin, tget_tput_other _ _ _ h]

theorem takeTurn_only (s : State) : Only [.host, .out] s (takeTurn s) := hosts_only ..

theorem putWin_only (w : Nat) (v : Window) (s : State) : Only [.host, .out] s (putWin w v s) := hosts_only ..

theorem takeTurn_grows (s : State) : Grows s (takeTurn s) := hosts_grows rfl rfl

/-- Services are served by the start-up state alone. -/
@[simp] theorem served_takeTurn (svc : Nat) (s : State) : served svc (takeTurn s) = served svc s := rfl

/-- The next command, which waits in its window, runs where its values are in range (R100, R102, R618). -/
theorem onCmd_runs {s : State} {w : Nat} {c : Cmd} (h : Waits s w c) {bad : List Byte → Bool} (k : bad c.payload = false)
    (f : List Byte → State → State) : onCmd w c.code bad f s = f c.payload (takeTurn s) := by
  obtain ⟨hi, -, -, ht, hs⟩ := h
  unfold onCmd
  cases hl : s.host.turns with
  | nil => simp [hl] at ht
  | cons x l =>
    have e : x = { w, sid := (win s w).sid } := by simpa [hl] using ht
    subst e
    simp [hi, perform, k, hs]

/-- The next command, with a value out of range, is refused (R100). -/
theorem onCmd_field {s : State} {w : Nat} {c : Cmd} (h : Waits s w c) {bad : List Byte → Bool} (k : bad c.payload = true)
    (f : List Byte → State → State) : onCmd w c.code bad f s = refuse w stFIELD (takeTurn s) := by
  obtain ⟨hi, -, -, ht, -⟩ := h
  unfold onCmd
  cases hl : s.host.turns with
  | nil => simp [hl] at ht
  | cons x l =>
    have e : x = { w, sid := (win s w).sid } := by simpa [hl] using ht
    subst e
    simp [hi, perform, k]

theorem perform_only {ws : List Part} {w code : Nat} {bad : List Byte → Bool} {f : List Byte → State → State} {c : Cmd}
    (hf : ∀ p s, Only ws s (f p s)) (s : State) : Only (.host :: .out :: ws) s (perform w code bad f c s) := by
  unfold perform; split
  · exact (respond_only ..).mono (by simp)
  · split
    · exact (respond_only ..).mono (by simp)
    · exact (hf _ _).mono fun p hp => List.mem_cons_of_mem _ (List.mem_cons_of_mem _ hp)

theorem performLeft_only {ws : List Part} {w code : Nat} {bad : List Byte → Bool} {f : List Byte → State → State}
    {sid : Nat} {c : Cmd} {o : Nat} (hf : ∀ p s, Only ws s (f p s)) (s : State) :
    Only (.host :: .out :: ws) s (performLeft w code bad f sid c o s) := by
  unfold performLeft; split
  · exact Only.refl _ _
  · dsimp only
    exact ((((putWin_only ..).trans (perform_only hf _)).trans (putWin_only ..)).trans (hosts_only ..)).mono (by simp; tauto)

/-- What a Tamwyn command may change: what its own meaning changes, and its window. -/
theorem onCmd_only {ws : List Part} {w code : Nat} {bad : List Byte → Bool} {f : List Byte → State → State}
    (hf : ∀ p s, Only ws s (f p s)) (s : State) : Only (.host :: .out :: ws) s (onCmd w code bad f s) := by
  have t := takeTurn_only s
  unfold onCmd; split
  · exact Only.refl _ _
  · split
    · exact Only.refl _ _
    · split
      · split
        · exact Only.refl _ _
        · exact (t.trans (performLeft_only hf _)).mono (by simp)
      · split
        · exact Only.refl _ _
        · split
          · exact Only.refl _ _
          · exact (t.trans (perform_only hf _)).mono (by simp)

theorem needCluster_runs {s : State} (h : s.cluster.st ≠ 1) (w : Nat) (f : State → State) : needCluster w f s = f s := by
  simp [needCluster, h]

/-- A query's meaning that answers by a response alone ends with that response. -/
theorem done_ok {s : State} (w : Nat) (p : List Byte) {ws : List Part} (h : ∀ q ∈ [Part.host, Part.out], q ∈ ws) :
    doneIn ws s (ok w p s) = .next (ok w p s) :=
  doneIn_eq ((respond_only ..).mono h) (congrArg Clk.tide ((respond_only w stOK p s).2 .clk (by simp)))

/-! ## Statistics and deadlines -/

theorem updStat_only (g : Nat) (f : StatGroup → StatGroup) (s : State) : Only [.stats] s (updStat g f s) :=
  ⟨rfl, fun p hp => by cases p <;> first | rfl | simp at hp⟩

theorem count_only (g i : Nat) (s : State) : Only [.stats] s (count g i s) := updStat_only ..

theorem updMiss_only (fn : Nat) (f : Miss → Miss) (s : State) : Only [.clk] s (updMiss fn f s) :=
  ⟨rfl, fun p hp => by cases p <;> first | rfl | simp at hp⟩

@[simp] theorem updMiss_tide (fn : Nat) (f : Miss → Miss) (s : State) : (updMiss fn f s).clk.tide = s.clk.tide := rfl

theorem noteState_only (s : State) : Only [.sys, .host, .out] s (noteState s) := by
  unfold noteState; dsimp only
  split
  · exact Only.refl _ _
  · have h : Only [.sys, .host, .out] s { s with sys := { s.sys with shown := BitVec.ofNat 32 (modState s) } } :=
      ⟨rfl, fun p hp => by cases p <;> first | rfl | simp at hp⟩
    split
    · exact h
    · exact h.after ((raise_only ..).mono (by simp))

end Sys2Proof.Machine
end

