-- ==== Sys2Proof/Laws/Parts.lean ====
section
/-! SUPPORT. Sys2Proof/Laws/Parts.lean: what each accessor of a part of the State reads after its update, and that an update
leaves every other part alone. -/

namespace Sys2Proof.Machine

/-! ## fleet -/

theorem updFleet_only (f : Fleet → Fleet) (s : State) : Only [.fleet] s (updFleet f s) :=
  ⟨rfl, fun p hp => by cases p <;> first | rfl | simp at hp⟩

theorem updVeh_only (k : Nat) (f : Vehicle → Vehicle) (s : State) : Only [.fleet] s (updVeh k f s) := updFleet_only ..

@[simp] theorem veh_updVeh (k j : Nat) (f : Vehicle → Vehicle) (s : State) :
    veh (updVeh k f s) j = if j = k then f (veh s k) else veh s j := tget_tput ..

theorem updTask_only (k : Nat) (f : Task → Task) (s : State) : Only [.fleet] s (updTask k f s) := updFleet_only ..

@[simp] theorem task_updTask (k j : Nat) (f : Task → Task) (s : State) :
    task (updTask k f s) j = if j = k then f (task s k) else task s j := tget_tput ..

/-! ## gnss -/

theorem updGnss_only (f : Gnss → Gnss) (s : State) : Only [.gnss] s (updGnss f s) :=
  ⟨rfl, fun p hp => by cases p <;> first | rfl | simp at hp⟩

theorem updChan_only (k : Nat) (f : Chan → Chan) (s : State) : Only [.gnss] s (updChan k f s) := updGnss_only ..

@[simp] theorem chanOf_updChan (k j : Nat) (f : Chan → Chan) (s : State) :
    chanOf (updChan k f s) j = if j = k then f (chanOf s k) else chanOf s j := tget_tput ..

theorem updRf_only (k : Nat) (f : RfChan → RfChan) (s : State) : Only [.gnss] s (updRf k f s) := updGnss_only ..

@[simp] theorem rfOf_updRf (k j : Nat) (f : RfChan → RfChan) (s : State) :
    rfOf (updRf k f s) j = if j = k then f (rfOf s k) else rfOf s j := tget_tput ..

theorem updAnt_only (k : Nat) (f : Antenna → Antenna) (s : State) : Only [.gnss] s (updAnt k f s) := updGnss_only ..

@[simp] theorem antenna_updAnt (k j : Nat) (f : Antenna → Antenna) (s : State) :
    antenna (updAnt k f s) j = if j = k then f (antenna s k) else antenna s j := tget_tput ..

theorem updBand_only (k : Nat) (f : FsBand → FsBand) (s : State) : Only [.gnss] s (updBand k f s) := updGnss_only ..

@[simp] theorem fsBand_updBand (k j : Nat) (f : FsBand → FsBand) (s : State) :
    fsBand (updBand k f s) j = if j = k then f (fsBand s k) else fsBand s j := tget_tput ..

/-! ## lampSign -/

theorem updLs_only (f : LampSign → LampSign) (s : State) : Only [.lampSign] s (updLs f s) :=
  ⟨rfl, fun p hp => by cases p <;> first | rfl | simp at hp⟩

theorem updLport_only (k : Nat) (f : LampPort → LampPort) (s : State) : Only [.lampSign] s (updLport k f s) := updLs_only ..

@[simp] theorem lport_updLport (k j : Nat) (f : LampPort → LampPort) (s : State) :
    lport (updLport k f s) j = if j = k then f (lport s k) else lport s j := tget_tput ..

theorem updSign_only (k : Nat) (f : SignPort → SignPort) (s : State) : Only [.lampSign] s (updSign k f s) := updLs_only ..

@[simp] theorem gport_updSign (k j : Nat) (f : SignPort → SignPort) (s : State) :
    gport (updSign k f s) j = if j = k then f (gport s k) else gport s j := tget_tput ..

/-! ## lantern -/

theorem updLant_only (f : Lantern → Lantern) (s : State) : Only [.lantern] s (updLant f s) :=
  ⟨rfl, fun p hp => by cases p <;> first | rfl | simp at hp⟩

theorem updNode_only (k : Nat) (f : LNode → LNode) (s : State) : Only [.lantern] s (updNode k f s) := updLant_only ..

@[simp] theorem lnode_updNode (k j : Nat) (f : LNode → LNode) (s : State) :
    lnode (updNode k f s) j = if j = k then f (lnode s k) else lnode s j := tget_tput ..

/-! ## meter -/

theorem updMeter_only (f : Meter → Meter) (s : State) : Only [.meter] s (updMeter f s) :=
  ⟨rfl, fun p hp => by cases p <;> first | rfl | simp at hp⟩

theorem updV_only (k : Nat) (f : VChan → VChan) (s : State) : Only [.meter] s (updV k f s) := updMeter_only ..

@[simp] theorem vchan_updV (k j : Nat) (f : VChan → VChan) (s : State) :
    vchan (updV k f s) j = if j = k then f (vchan s k) else vchan s j := tget_tput ..

theorem updI_only (k : Nat) (f : IChan → IChan) (s : State) : Only [.meter] s (updI k f s) := updMeter_only ..

@[simp] theorem ichan_updI (k j : Nat) (f : IChan → IChan) (s : State) :
    ichan (updI k f s) j = if j = k then f (ichan s k) else ichan s j := tget_tput ..

theorem updMPoint_only (k : Nat) (f : MPoint → MPoint) (s : State) : Only [.meter] s (updMPoint k f s) := updMeter_only ..

@[simp] theorem mpoint_updMPoint (k j : Nat) (f : MPoint → MPoint) (s : State) :
    mpoint (updMPoint k f s) j = if j = k then f (mpoint s k) else mpoint s j := tget_tput ..

theorem updPout_only (k : Nat) (f : POut → POut) (s : State) : Only [.meter] s (updPout k f s) := updMeter_only ..

@[simp] theorem pout_updPout (k j : Nat) (f : POut → POut) (s : State) :
    pout (updPout k f s) j = if j = k then f (pout s k) else pout s j := tget_tput ..

/-! ## pool -/

theorem updPool_only (f : Pool → Pool) (s : State) : Only [.pool] s (updPool f s) :=
  ⟨rfl, fun p hp => by cases p <;> first | rfl | simp at hp⟩

theorem updQ_only (k : Nat) (f : PoolQueue → PoolQueue) (s : State) : Only [.pool] s (updQ k f s) := updPool_only ..

@[simp] theorem poolQ_updQ (k j : Nat) (f : PoolQueue → PoolQueue) (s : State) :
    poolQ (updQ k f s) j = if j = k then f (poolQ s k) else poolQ s j := tget_tput ..

theorem updQwin_only (k : Nat) (f : QWin → QWin) (s : State) : Only [.pool] s (updQwin k f s) := updPool_only ..

@[simp] theorem qwinOf_updQwin (k j : Nat) (f : QWin → QWin) (s : State) :
    qwinOf (updQwin k f s) j = if j = k then f (qwinOf s k) else qwinOf s j := tget_tput ..

theorem updLt_only (k : Nat) (f : Lighter → Lighter) (s : State) : Only [.pool] s (updLt k f s) := updPool_only ..

@[simp] theorem ltOf_updLt (k j : Nat) (f : Lighter → Lighter) (s : State) :
    ltOf (updLt k f s) j = if j = k then f (ltOf s k) else ltOf s j := tget_tput ..

/-! ## ports -/

theorem updPorts_only (f : Ports → Ports) (s : State) : Only [.ports] s (updPorts f s) :=
  ⟨rfl, fun p hp => by cases p <;> first | rfl | simp at hp⟩

theorem updPort_only (k : Nat) (f : Port → Port) (s : State) : Only [.ports] s (updPort k f s) := updPorts_only ..

@[simp] theorem portOf_updPort (k j : Nat) (f : Port → Port) (s : State) :
    portOf (updPort k f s) j = if j = k then f (portOf s k) else portOf s j := tget_tput ..

/-! ## quay -/

theorem updQuay_only (f : Quay → Quay) (s : State) : Only [.quay] s (updQuay f s) :=
  ⟨rfl, fun p hp => by cases p <;> first | rfl | simp at hp⟩

/-! ## radio -/

theorem updDie_only (k : Nat) (f : Die → Die) (s : State) : Only [.radio] s (updDie k f s) :=
  ⟨rfl, fun p hp => by cases p <;> first | rfl | simp at hp⟩

@[simp] theorem die_updDie (k j : Nat) (f : Die → Die) (s : State) :
    die (updDie k f s) j = if j = k then f (die s k) else die s j := tget_tput ..

/-! ## pr -/

theorem updPr_only (f : Pr → Pr) (s : State) : Only [.pr] s (updPr f s) :=
  ⟨rfl, fun p hp => by cases p <;> first | rfl | simp at hp⟩

/-! ## ref -/

theorem updRef_only (f : Ref → Ref) (s : State) : Only [.ref] s (updRef f s) :=
  ⟨rfl, fun p hp => by cases p <;> first | rfl | simp at hp⟩

theorem updPos_only (k : Nat) (f : PosVehicle → PosVehicle) (s : State) : Only [.ref] s (updPos k f s) := updRef_only ..

@[simp] theorem posVehicle_updPos (k j : Nat) (f : PosVehicle → PosVehicle) (s : State) :
    posVehicle (updPos k f s) j = if j = k then f (posVehicle s k) else posVehicle s j := tget_tput ..

/-! ## rtc -/

theorem updStage_only (k : Nat) (f : RtcStage → RtcStage) (s : State) : Only [.rtc] s (updStage k f s) :=
  ⟨rfl, fun p hp => by cases p <;> first | rfl | simp at hp⟩

@[simp] theorem stageOf_updStage (k j : Nat) (f : RtcStage → RtcStage) (s : State) :
    stageOf (updStage k f s) j = if j = k then f (stageOf s k) else stageOf s j := tget_tput ..

/-! ## par -/

theorem updPar_only (f : SiteConfig → SiteConfig) (s : State) : Only [.par] s (updPar f s) :=
  ⟨rfl, fun p hp => by cases p <;> first | rfl | simp at hp⟩

/-! ## time -/

theorem updSrc_only (k : Nat) (f : Source → Source) (s : State) : Only [.time] s (updSrc k f s) :=
  ⟨rfl, fun p hp => by cases p <;> first | rfl | simp at hp⟩

@[simp] theorem srcOf_updSrc (k j : Nat) (f : Source → Source) (s : State) :
    srcOf (updSrc k f s) j = if j = k then f (srcOf s k) else srcOf s j := tget_tput ..

theorem updPtp_only (k : Nat) (f : PtpPort → PtpPort) (s : State) : Only [.time] s (updPtp k f s) :=
  ⟨rfl, fun p hp => by cases p <;> first | rfl | simp at hp⟩

@[simp] theorem ptpOf_updPtp (k j : Nat) (f : PtpPort → PtpPort) (s : State) :
    ptpOf (updPtp k f s) j = if j = k then f (ptpOf s k) else ptpOf s j := tget_tput ..

/-! ## upd -/

theorem updUpd_only (f : Upd → Upd) (s : State) : Only [.upd] s (updUpd f s) :=
  ⟨rfl, fun p hp => by cases p <;> first | rfl | simp at hp⟩

theorem updCamp_only (k : Nat) (f : Campaign → Campaign) (s : State) : Only [.upd] s (updCamp k f s) := updUpd_only ..

@[simp] theorem camp_updCamp (k j : Nat) (f : Campaign → Campaign) (s : State) :
    camp (updCamp k f s) j = if j = k then f (camp s k) else camp s j := tget_tput ..

theorem updCnode_only (k : Nat) (f : CampNode → CampNode) (s : State) : Only [.upd] s (updCnode k f s) := updUpd_only ..

@[simp] theorem cnode_updCnode (k j : Nat) (f : CampNode → CampNode) (s : State) :
    cnode (updCnode k f s) j = if j = k then f (cnode s k) else cnode s j := tget_tput ..

/-! ## gpio -/

theorem updGpio_only (f : Gpio → Gpio) (s : State) : Only [.gpio] s (updGpio f s) :=
  ⟨rfl, fun p hp => by cases p <;> first | rfl | simp at hp⟩

/-! ## Radio tables -/

theorem setLink_only (a : Nat) (l : Link) (s : State) : Only [.radio] s (setLink a l s) :=
  ⟨rfl, fun p hp => by cases p <;> first | rfl | simp at hp⟩

@[simp] theorem link_setLink (a b : Nat) (l : Link) (s : State) : link (setLink a l s) b = if b = a then l else link s b :=
  tget_tput ..

theorem setLedger_only (e : Nat) (l : Ledger) (s : State) : Only [.radio] s (setLedger e l s) :=
  ⟨rfl, fun p hp => by cases p <;> first | rfl | simp at hp⟩

@[simp] theorem ledger_setLedger (e g : Nat) (l : Ledger) (s : State) :
    ledger (setLedger e l s) g = if g = e then l else ledger s g := tget_tput ..

/-! ## Firmware slots and free values -/

@[simp] theorem fwSlotOf_setSlot_same (k : Nat) (v : FwSlot) (s : State) : fwSlotOf (setSlot k v s) k = v := by
  simp [fwSlotOf, setSlot]

theorem draw_only (s : State) : Only [.free] s (draw s) :=
  ⟨rfl, fun p hp => by cases p <;> first | rfl | simp at hp⟩

end Sys2Proof.Machine
end

