-- ==== Sys2Proof/Laws/Sessions.lean ====
section
/-! SUPPORT. Sys2Proof/Laws/Sessions.lean: what opening, closing and taking a command do to the windows, and the parts of
the State they leave alone. -/

namespace Sys2Proof.Machine

theorem ok_only (w : Nat) (p : List Byte) (s : State) : Only [.host, .out] s (ok w p s) := respond_only ..

theorem refuse_only (w status : Nat) (s : State) : Only [.host, .out] s (refuse w status s) := respond_only ..

theorem sessionChange_only (w kind reason : Nat) (s : State) : Only [.host, .out] s (sessionChange w kind reason s) :=
  raiseBut_only ..

theorem sessionChange_grows (w kind reason : Nat) (s : State) : Grows s (sessionChange w kind reason s) :=
  raiseBut_grows ..

theorem openSession_only (w o cert port : Nat) (s : State) : Only [.host, .out] s (openSession w o cert port s) :=
  ((hosts_only ..).after (setWin_only ..)).after (sessionChange_only ..)

theorem closeSession_only (w reason : Nat) (s : State) : Only [.host, .out] s (closeSession w reason s) := by
  unfold closeSession; dsimp only; split
  · exact setWin_only ..
  · exact Only.refl _ _

/-- A close leaves every other window alone. -/
theorem win_closeSession_other {w x : Nat} (reason : Nat) (s : State) (h : x ≠ w) :
    win (closeSession w reason s) x = win s x := by
  unfold closeSession; dsimp only; split
  · exact win_setWin_other _ _ h
  · rfl

/-- A close of a live session: CLOSING, with its reason, and without subscriptions and queued events (R93). -/
theorem win_closeSession {w : Nat} (reason : Nat) {s : State} (h : live (win s w) = true) :
    win (closeSession w reason s) w = { win s w with st := 4, reason, subs := [], queue := [], closeRan := s.clk.ran } := by
  unfold closeSession; dsimp only; rw [if_pos h, win_setWin_same]

theorem win_closeSession_dead {w : Nat} (reason : Nat) {s : State} (h : live (win s w) = false) :
    closeSession w reason s = s := by
  unfold closeSession; dsimp only; rw [if_neg (by simp [h])]

theorem takeCommand_only (w d : Nat) (hdr p : List Byte) (s : State) : Only [.host, .out] s (takeCommand w d hdr p s) := by
  unfold takeCommand; dsimp only
  split
  · exact (setWin_only ..).after (refuse_only ..)
  · split
    · exact (setWin_only ..).after (hosts_only ..)
    · exact (setWin_only ..).after (refuse_only ..)

theorem doorbell_only (o : Origin) (w : Nat) (v : Word) (s : State) : Only [.host, .out] s (doorbell o w v s) := by
  unfold doorbell; dsimp only
  split
  · exact Only.refl _ _
  · split
    · exact setWin_only ..
    · split
      · exact Only.refl _ _
      · exact takeCommand_only ..

theorem rspClear_only (o : Origin) (w : Nat) (s : State) : Only [.host, .out] s (rspClear o w s) := by
  unfold rspClear; split
  · exact setWin_only ..
  · exact Only.refl _ _

theorem deliverHeld_only (w : Nat) (s : State) : Only [.host, .out] s (deliverHeld w s) := by
  have loop (l : List EvtRec) (t : State) : Only [.host, .out] t (l.foldl (fun s e =>
      if delivers e w s && hasRoom (win s w) then
        deliverTo e w { s with host := { s.host with held := s.host.held.erase e } }
      else s) t) := by
    induction l generalizing t with
    | nil => exact Only.refl _ _
    | cons e l ih =>
      refine Only.after ?_ (ih _)
      beta_reduce; split
      · exact (hosts_only ..).after (deliverTo_only ..)
      · exact Only.refl _ _
  exact loop _ _

theorem evtClear_only (o : Origin) (w : Nat) (s : State) : Only [.host, .out] s (evtClear o w s) := by
  unfold evtClear; split
  · exact ((setWin_only ..).after (loadEvt_only ..)).after (deliverHeld_only ..)
  · exact Only.refl _ _

theorem closeWrite_only (o : Origin) (w : Nat) (s : State) : Only [.host, .out] s (closeWrite o w s) := by
  unfold closeWrite; split
  · exact closeSession_only ..
  · exact Only.refl _ _

theorem openWrite_only (o : Origin) (w : Nat) (s : State) : Only [.host, .out] s (openWrite o w s) := by
  unfold openWrite; split
  · exact openSession_only ..
  · exact Only.refl _ _

/-- A loop over windows that leaves the other windows alone: a window outside the list keeps its record. -/
theorem win_each_other {f : Nat → State → State} (hf : ∀ k x s, x ≠ k → win (f k s) x = win s x) (ks : List Nat) {x : Nat}
    (h : x ∉ ks) (s : State) : win (each ks f s) x = win s x := by
  induction ks generalizing s with
  | nil => rfl
  | cons k ks ih =>
    show win (each ks f (f k s)) x = _
    rw [ih (fun m => h (List.mem_cons_of_mem _ m)), hf]
    exact fun e => h (e ▸ List.mem_cons_self)

end Sys2Proof.Machine
end

