-- ==== Sys2Proof/Tests/Slice0.lean ====
section
/-! SUPPORT. Sys2Proof/Tests/Slice0.lean: small tests, each one step on a small state: the hypotheses of the statements
met by a concrete state and operands, boundary values where clauses meet, and an ill-formed command for each check of
WellFormed. Expected values come from the rules the statements cite and from the worked examples of spec/. -/

namespace Sys2Proof.Tests
open Sys2Proof Sys2Proof.Machine

set_option Elab.async false

/-- A running module: every service is up, the cluster sends heartbeats, the tide is 1000. -/
def up : State :=
  { State.reset with
    sys := { modState := 4, hmRuns := true, tender := false }, cluster := { st := 2 }, clk := { running := true, tide := 1000, ran := 7 } }

/-- A command in flight in window 2 of a negotiated PCIe session that holds every change right. -/
def cmd (s : State) (code : Nat) (payload : List Byte) : State :=
  let t := setWin 2 { st := 3, origin := 1, major := 2, minor := 2, rights := 0x3FFFE, sid := 5, busy := true,
                      inflight := some { code, seq := 9, payload } } s
  { t with host := { t.host with turns := [{ w := 2, sid := 5 }] } }

/-- A key of 16 bytes. -/
def aKey : List Byte := [9, 8, 7, 6, 5, 4, 3, 2, 1, 2, 3, 4, 5, 6, 7, 8]

/-- The state that a command reaches; the state itself where it stops. -/
def nextOf (r : Host.Outcome State Fault Refusal) (s : State) : State :=
  match r with | .next t => t | _ => s

/-- A check holds of the state a command reaches from s. -/
def after (c : Instr) (s : State) (f : State → Bool) : Bool := f (nextOf (exec c s) s)

/-- The response in window 2 has a status and a payload of a length. -/
def answered2 (status len : Nat) (t : State) : Bool :=
  let v := win t 2
  v.inflight == none && v.rspReady && u16 v.rspBuf 4 == status && v.rspLen == 8 + len

/-! ## Sessions, mailboxes and the register map -/

/-- Writes bytes into the command buffer of window 2. -/
def buffer (b : List Byte) (s : State) : State :=
  setWin 2 { win s 2 with cmdBuf := (List.range b.length).foldl (fun t i => tput 0 t i (b.getD i 0)) [] } s

/-- The HELLO of chapter 03's worked example. -/
def helloBytes : List Byte := [1, 1, 1, 0, 8, 0, 0, 0, 2, 0, 0x64, 0, 2, 3, 1, 4]

/-- Window 2 open over PCIe, with the worked example's command in its buffer. -/
def opened : State := buffer helloBytes (nextOf (exec (.sessOpen .pcie 2) up) up)

/-- A client that offers one suite, one group and one signature algorithm of the module's. -/
def tlsOffer : TlsOffer := { suites := [0x1301], groups := [23], sigs := [0x0403], psk := false, early := false, anchor := 7 }

theorem test_sessions_open_and_close :
    (hostUp up && (win up 2).st == 1 && (win up 7).st == 1 && (freeWindow (setWin 0 { st := 2 } up) == some 1)) = true ∧
    after (.sessOpen .pcie 2) up (fun t => (win t 2).st == 2 && (win t 2).origin == 1 && (win t 2).openTide == 1000 &&
      (win t 2).rights == 0x3FFFE) = true ∧
    after (.sessOpen .spi 7) up (fun t => (win t 7).st == 1) = true ∧
    after (.sessOpen .usb 7) up (fun t => (win t 7).st == 2) = true ∧
    after (.tlsConnectionAccept 3 4956 tlsOffer (some 1) true) { setWin 0 { st := 2, origin := 1 } up with par := { host := { tlsPorts := 8, tlsTcp := 4956, certRights := [(1, 6)], anchors := [7] } } }
      (fun t => (win t 1).st == 2 && (win t 1).origin == 4 && (win t 1).rights == 6) = true ∧
    after (.sessCloseWrite .pcie 2) opened (fun t => (win t 2).st == 4 && (win t 2).reason == 0) = true ∧
    after (.keepaliveExpiry 2) (setWin 2 { win opened 2 with keepPeriod := 10 } opened) (fun t => (win t 2).st == 4 && (win t 2).reason == 1) = true ∧
    after .pcieLinkLoss opened (fun t => (win t 2).st == 4 && (win t 2).reason == 2) = true ∧
    after .usbDetach (nextOf (exec (.sessOpen .usb 3) opened) up) (fun t => (win t 3).st == 4 && (win t 2).st == 2) = true ∧
    after (.tlsConnectionLoss 2 true) (setWin 2 { win opened 2 with origin := 4 } up) (fun t => (win t 2).st == 4 && (win t 2).reason == 3) = true ∧
    after (.sessionReleaseEdge 2) (setWin 2 { win opened 2 with st := 4 } opened) (fun t => win t 2 == {}) = true := by
  decide +kernel

theorem test_mailbox_registers :
    (owns .pcie 2 opened && live (win opened 2) && checkStatus (win opened 2) 0x0101 8 0 (cmdBytes (win opened 2) 8 8) == stOK) = true ∧
    after (.doorbellWrite .pcie 2 1) opened (fun t => (win t 2).inflight ==
      some { code := 0x0101, seq := 1, payload := helloBytes.drop 8 } && (win t 2).busy) = true ∧
    after (.doorbellWrite .pcie 2 1) (nextOf (exec (.doorbellWrite .pcie 2 1) opened) up) (fun t => (win t 2).dbIgnored == 1) = true ∧
    after (.rspReadyClear .pcie 2) (setWin 2 { win opened 2 with rspReady := true, busy := true } opened)
      (fun t => !(win t 2).rspReady && !(win t 2).busy) = true ∧
    after (.evtRelease .pcie 2) (setWin 2 { win opened 2 with evtReady := true, queue := [{ code := 0x0181, tide := 3, payload := [] }] } opened)
      (fun t => (win t 2).evtReady && (win t 2).queue == [] && (win t 2).evtSeq == 1) = true ∧
    after (.tlsRecord 2 (le 1 1 ++ le 1 0 ++ le 2 16 ++ helloBytes)) (setWin 2 { win opened 2 with origin := 4 } opened)
      (fun t => ((win t 2).inflight.map (·.seq)) == some 1) = true := by
  decide +kernel

/-- HELLO's response is that of chapter 03's worked example, but for the open tide. -/
theorem test_session_commands :
    after (.hello 2) (nextOf (exec (.doorbellWrite .pcie 2 1) opened) up) (fun t =>
      (win t 2).rspBuf.take 28 == [1, 1, 1, 0, 0, 0, 0x14, 0, 2, 2, 2, 0, 1, 0, 0, 0, 0xFE, 0xFF, 3, 0, 0xE8, 3, 0, 0, 0, 0, 0, 0]
      && (win t 2).st == 3 && (win t 2).keepPeriod == 100) = true ∧
    after (.sessionInfo 2) (cmd up 0x0102 []) (fun t => answered2 0 64 t && u8 (win t 2).rspBuf 24 == 3) = true ∧
    after (.keepalive 2) (cmd up 0x0103 []) (answered2 0 0) = true ∧
    after (.subscribe 2) (cmd up 0x0104 [1, 0, 0, 0, 0x81, 1, 0, 3]) (fun t => answered2 0 4 t && (win t 2).subs == [{ code := 0x0181, wide := false, vector := 3 }]) = true ∧
    after (.unsubscribe 2) (cmd up 0x0105 [1, 0, 0, 0, 0x81, 1, 0, 3]) (answered2 0 4) = true ∧
    after (.sessClose 2) (cmd up 0x0140 []) (fun t => answered2 0 0 t && (win t 2).st == 4) = true := by
  decide +kernel

theorem test_register_map :
    nextOf (exec (.registerWrite .pcie 0x10008 1 15) opened) up = nextOf (exec (.doorbellWrite .pcie 2 1) opened) up ∧
    after (.registerWrite .pcie 0x4104 0x0A0B0C0D 15) opened (fun t => cmdBytes (win t 2) 3 6 == [0, 0x0D, 0x0C, 0x0B, 0x0A, 2]) = true ∧
    reachable .spi 0x4104 opened = false ∧
    after (.rcRegisterRead .pcie 0x4018) (setWin 2 { win opened 2 with dbIgnored := 4 } opened)
      (fun t => (win t 2).dbIgnored == 0 && t.out.head? == some (.read .pcie 0x4018 4)) = true ∧
    after (.rfGroupFreeze .pcie 0x12000 5000) opened (fun t => (tget {} t.time.freeze 1).words == some (snapGroup 5000 opened)) = true ∧
    after (.rfFreezeExpire .pcie .snapshot) (nextOf (exec (.rfGroupFreeze .pcie 0x12000 5000) opened) up) (fun t => t.time.freeze == []) = true ∧
    after (.spiTransaction 0x0B 0x10104 [] 1 0) up (fun t => t.out.head? == some (.read .spi 0x10104 (word (modState up)))) = true ∧
    after (.usbRequest (le 1 1 ++ zeros 3 ++ le 2 4 ++ le 2 0 ++ le 4 0x10108) [] 0) up (fun t => t.out.head? == some (.read .usb 0x10108 3)) = true ∧
    after (.improperAccess .spi 0x20004 none) up (fun t => t.out.head? == some (.read .spi 0x20004 0)) = true := by
  decide +kernel

/-! ## The system, start-up, resets and recovery -/

/-- What every full reset leaves, as a check. -/
def fullReset? (kind : Nat) (s t : State) : Bool :=
  t.sys.kind == kind && t.sys.modState == 0 && !t.sys.hmRuns && t.sys.tender && !t.clk.running && t.clk.tide == s.clk.tide &&
  t.cluster.st == 0 && t.host.win == [] && t.fleet.relays == 0 && !t.pr.claimOut && !t.time.timeQ && t.rtc == s.rtc &&
  t.cfg.slots == s.cfg.slots && t.cfg.recs == s.cfg.recs && t.pr.term == s.pr.term && t.fleet.host == s.fleet.host &&
  t.meter.copyA == s.meter.copyA && t.boot.otpEpoch == s.boot.otpEpoch && t.boot.sealOk == s.boot.sealOk

/-- A running module that holds things a reset keeps and things it does not. -/
def busy : State :=
  { opened with
    sys := { up.sys with kind := 1, resetWait := some (4, 7) }, rtc := { up.rtc with sec := 77 }
    fleet := { up.fleet with relays := 3, host := 5 }, pr := { up.pr with term := 9, claimOut := true }, boot := { up.boot with otpEpoch := 2 } }

theorem test_system_commands :
    after (.sysInfo 2) (cmd up 0x1101 []) (fun t => (win t 2).rspReady && u16 (win t 2).rspBuf 4 == 0) = true ∧
    after (.sysState 2) (cmd up 0x1102 []) (fun t => answered2 0 20 t && leAt (win t 2).rspBuf 12 8 == 1000) = true ∧
    after (.sysReset 2) (cmd up 0x1140 [4, 0, 0xDE, 0xC0]) (fun t => answered2 0 0 t && t.sys.modState == 5 &&
      t.sys.resetWait == some (4, 10)) = true := by
  decide +kernel

theorem test_full_reset_keeps :
    after .resetEdge busy (fullReset? 4 busy) = true ∧
    after .coldStart { busy with sys := { busy.sys with kind := 0 } } (fullReset? 1 busy) = true ∧
    after (.externalReset 10000 true) busy (fullReset? 3 busy) = true ∧
    after .startTimeout { busy with sys := { busy.sys with modState := 2 } } (fullReset? 8 busy) = true ∧
    after .powerFailClear { busy with pr := { busy.pr with powerFail := true } } (fullReset? 2 busy) = true ∧
    after (.recRestart 1) { busy with sys := { busy.sys with modState := 6 } } (fun t => fullReset? 4 busy t && t.boot.failedStarts == 0) = true ∧
    after (.mainDomainLoss 0) busy (fun t => t.sys.kind == 0 && t.meter.loss == some 77000000000 && t.rtc == busy.rtc) = true := by
  decide +kernel

/-- What a restart of the harbourmaster leaves, as a check. -/
def restarted? (s t : State) : Bool :=
  t.sys.kind == 5 && t.sys.modState == 0 && !t.sys.hmRuns && t.sys.warm && t.sys.tender && t.sys.resetWait == none &&
  t.host.win == [] && t.fleet.relays == 0 && !t.pr.claimOut && !t.time.timeQ && t.clk.running == s.clk.running &&
  t.clk.tide == s.clk.tide && t.meter == s.meter && t.rtc == s.rtc && t.boot == s.boot && t.changes == [] && t.switches == []

theorem test_harbourmaster_restarts :
    after .resetEdge { busy with sys := { busy.sys with resetWait := some (5, 7) } } (restarted? busy) = true ∧
    after .lockstepMismatch busy (restarted? busy) = true := by
  decide +kernel

theorem test_power_fail_signal :
    after .powerFailSignal busy (fun t => t.pr.powerFail && t.fleet.relays == 0 && t.cluster.st == 1 && t.log.staging == []) = true := by
  decide +kernel

def inRom1 : State := { State.reset with rtc := { State.reset.rtc with sec := 77 } }
def rom : State := nextOf (execRomStart false inRom1) inRom1
/-- The module in a start-up state. -/
def starting (m : Nat) : State := { up with sys := { up.sys with modState := m } }

theorem test_start_up_sequence :
    (inRom inRom1 && areaOk inRom1 (runSlot inRom1)) = true ∧
    (rom.sys.romDone && rom.boot.failedStarts == 1 && mayRun rom && !rom.sys.warm) = true ∧
    after (.romStart true) inRom1 (fun t => t.sys.modState == 6 && t.sys.recov.cause == 1) = true ∧
    after .diesLoaded (starting 2) (fun t => t.sys.modState == 3 && (tget {} t.radio.dies 1).loaded) = true ∧
    after .servicesStarted (starting 3) (fun t => t.sys.modState == 4 && t.boot.failedStarts == 0) = true := by
  decide +kernel

/-- The module in recovery mode, with a load of 4 bytes owned by the USB client. -/
def recLoad (st : Nat) (held : List Byte) : State :=
  { up with sys := { up.sys with modState := 6, hmRuns := false, recov := { st, owner := 1, total := 4, held } } }

theorem test_recovery_mode :
    after (.recInfo 1) (recLoad 0 []) (fun t => t.out.length == 1) = true ∧
    after (.recBegin 2 4) (recLoad 0 []) (fun t => t.sys.recov.owner == 1) = true ∧
    after (.recBegin 1 4) (recLoad 0 []) (fun t => t.sys.recov.st == 1 && t.sys.recov.total == 4) = true ∧
    after (.recEnd 1) (recLoad 1 [1, 2, 3, 4]) (fun t => t.sys.recov.st == 2) = true ∧
    after .recoveryOwnerTimeout (recLoad 1 [1]) (fun t => t.sys.recov.owner == 0 && t.sys.recov.held == []) = true := by
  decide +kernel

/-! ## Configuration store, logbook, RTC -/

/-- Window 2's session loads an image of 4 bytes into slot 0, of which 2 are held. -/
def loading (held : List Byte) (st : Nat) : State :=
  { up with cfg := { slots := if held = [] then [] else [(0, held)], recs := [(0, { roles := [(0, .pending), (1, .current), (2, .previous)], highest := 6, crcOk := true })]
                     owner := 5, loadTotal := 4, pendingState := st } }

theorem test_config_commands :
    after (.cfgStatus 2) (cmd up 0x0201 []) (answered2 0 40) = true ∧
    after (.cfgLoadBegin 2) (cmd up 0x0240 (le 4 300 ++ le 4 7)) (fun t => answered2 0 0 t && slotOf t .pending == some 0 &&
      t.cfg.loadTotal == 300 && t.cfg.owner == 5) = true ∧
    after (.cfgLoadData 2) (cmd (loading [1, 2] 1) 0x0241 (le 4 2 ++ le 2 2 ++ le 2 0 ++ [3, 4])) (fun t =>
      answered2 0 4 t && slotBytes t 0 == [1, 2, 3, 4]) = true ∧
    after (.cfgLoadEnd 2) (cmd (loading [1, 2, 3, 4] 1) 0x0242 []) (fun t => answered2 1 0 t && t.cfg.pendingState == 2) = true ∧
    after (.cfgApply 2) (cmd (loading [1, 2, 3, 4] 3) 0x0243 (le 8 1100)) (fun t => answered2 1 8 t &&
      (t.cfg.apply.map fun a => (a.slot, a.tide, a.kind)) == some (0, 1100, 0)) = true ∧
    after (.cfgApply 2) (cmd (loading [1, 2, 3, 4] 3) 0x0243 (le 8 1099)) (answered2 0x50 0) = true ∧
    after (.cfgCancel 2) (cmd (loading [1, 2] 1) 0x0244 []) (fun t => answered2 0 0 t && slotOf t .pending == none && slotBytes t 0 == []) = true := by
  decide +kernel

/-- A pending image of 12 bytes with version 9, whose change has passed its apply tide. -/
def applied : State :=
  let s := loading [0, 0, 0, 0, 0, 0, 0, 0, 9, 0, 0, 0] 3
  { s with cfg := { s.cfg with apply := some { slot := 0, tide := 990, passed := true }, checkJob := some {} } }

theorem test_config_edges :
    (applied.cfg.checkJob.isSome && slotOf applied .pending == some 0 && slotOf applied .current == some 1) = true ∧
    u32 (slotBytes applied 0) 8 = 9 ∧ (applied.cfg.apply.map (·.passed)) = some true ∧
    (putRecord { ctrl applied with highest := 9 } applied).cfg.cur = 1 ∧
    ctrl (putRecord { ctrl applied with highest := 9 } applied) = { ctrl applied with highest := 9, seq := 1 } := by
  decide +kernel

/-- A record of the logbook. -/
def aRec : LogRec := { code := 0x0801, sev := 5, tide := 9, payload := [1, 2] }

/-- A logbook with one export of everything by window 2. -/
def exporting : State :=
  { up with log := { seq := 1, half0 := [{ aRec with seq := 0 }], filling := 0, exports := [{ job := { win := 2, sid := 5 }, window := 3, next := 1, to_ := 0 }] }
            pool := { up.pool with qwins := [(3, { owner := some (2, 5) })] } }

theorem test_logbook_commands :
    after (.logStatus 2) (cmd exporting 0x1001 []) (fun t => answered2 0 68 t && u8 (win t 2).rspBuf 65 == 1) = true ∧
    after (.logRead 2) (cmd exporting 0x1002 (le 8 0 ++ [0, 0, 0, 0])) (answered2 0 (12 + 30)) = true ∧
    after (.logNote 2) (cmd up 0x1042 [2, 0, 0, 0, 65]) (fun t => (win t 2).inflight.isSome && t.log.notes.length == 1) = true ∧
    after (.logLimitSet 2) (cmd up 0x1043 (le 2 0x0801 ++ le 2 10 ++ le 2 20)) (fun t => answered2 0 8 t &&
      t.changes == [{ tide := 1001, setting := .logLimit 0x0801 10 20 }]) = true ∧
    after (.logExport 2) (cmd { exporting with log := { exporting.log with exports := [] } } 0x1040 (le 1 3 ++ le 3 0 ++ le 8 0 ++ le 8 0))
      (fun t => answered2 1 0 t && t.log.exports.length == 1) = true ∧
    after (.logExportStop 2) (cmd exporting 0x1041 []) (fun t => answered2 0 0 t && t.log.exports == []) = true := by
  decide +kernel

theorem test_logbook_store :
    after .logStagingFlush { up with log := { seq := 7, staging := [aRec] } } (fun t => t.log.half0 == [{ aRec with seq := 7 }] && t.log.seq == 8) = true ∧
    after .logHalfClose { up with clk := { up.clk with ran := 6009 }, log := { half0 := [aRec], firstRan := 9 } }
      (fun t => t.log.closed == [0] && t.log.filling == 1) = true ∧
    after .logSegmentCopy { up with log := { half0 := [aRec], closed := [0], filling := 1 } }
      (fun t => t.log.store == [[aRec]] && t.log.half0 == [] && t.log.closed == []) = true ∧
    after .logSuppressedWrite up (fun t => t.log.supp == []) = true ∧
    after (.logExportWrite 2) (cmd exporting 0x1001 []) (fun t => t.log.exports == []) = true := by
  decide +kernel

theorem test_real_time_clock :
    after (.rtcSecondRollover 0) { up with rtc := { sec := 2 ^ 48 - 1, armed := true, at_ := 0, next := 37 } } (fun t => t.rtc.sec == 0 && t.rtc.ofs == 37) = true ∧
    after (.rtcSecondRollover 1) { up with rtc := { commits := [{ origin := 1, cal := false, value := 2 ^ 48 - 1 }, { origin := 2, cal := false, value := 7 }] } } (fun t => t.rtc.sec == 2 ^ 48 - 1 && t.rtc.commits.map (·.origin) == [2]) = true ∧
    after (.rtcDisciplineLoad 0) { up with clk := { up.clk with tide := 94668490000 }, time := { up.time with st := 2 } } (fun t => t.rtc.sec == 100) = true ∧
    after (.commitSec .spi) { up with rtc := { stage := [(2, { secHi := 1, secLo := 2 })] } } (fun t =>
      (t.rtc.commits.getLast?.map (·.value)) == some (2 ^ 32 + 2)) = true ∧
    after (.commitCal .spi) { up with rtc := { stage := [(2, { date := 2000 + 4096 * 3 + 65536 * 1, time := 5 })] } } (fun t =>
      (t.rtc.commits.getLast?.map (·.value)) == some ((31 + 29) * 86400 + 5 * 3600)) = true ∧
    after .batteryDomainPowerUp { up with sys := { up.sys with kind := 0 }, rtc := { sec := 5 } } (fun t => t.rtc == {}) = true ∧
    after (.rtcStatus 2 0) (cmd up 0x0303 []) (answered2 0 40) = true ∧
    after (.rtcSet 2) (cmd up 0x0346 (zeros 4 ++ le 4 1 ++ le 4 2 ++ zeros 8)) (fun t => answered2 1 0 t &&
      (t.rtc.commits.getLast?.map (·.value)) == some (2 ^ 32 + 2)) = true ∧
    after (.rtcUtcSet 2) (cmd up 0x0347 (le 2 37 ++ le 2 38 ++ le 6 99 ++ [1])) (fun t => answered2 0 0 t && t.rtc.ofs == 37 &&
      t.rtc.next == 38 && t.rtc.at_ == 99 && t.rtc.armed) = true := by
  decide +kernel

/-! ## Network time -/

/-- What the ring's grandmaster announces. -/
def master : Announce :=
  { gm := 5, priority1 := 1, clockClass := 6, accuracy := 0, variance := 0, priority2 := 1, source := 8, timeSource := 32, stepsRemoved := 0, utcOfs := 37, utcValid := true, leap61 := false, leap59 := false }

/-- A Sync of the grandmaster that arrives ns after its origin timestamp. -/
def aSync (ns : Nat) : SyncMsg := { source := 8, origin := { sec := 5, ns := 0 }, corr := 0, stamp := { sec := 5, ns } }

/-- Ring port 0 is a PTP slave with a foreign master and a Delay_Req under way; port 2 is a gPTP master, port 3 a PTP one. -/
def ptpUp : State :=
  { up with time := { up.time with ports := [(0, { mode := 1, st := 9, foreign := [{ announce := master, heard := 2 }], reqSeq := 4, reqStamp := some { sec := 6, ns := 0 }, lastSync := some (stamp16 { sec := 5, ns := 0 } 0, stamp16 { sec := 5, ns := 30 } 0) }),
                                              (2, { mode := 2, st := 6 }), (3, { mode := 1, st := 6 })], parent := some master,
                                     jump := some { id := 3, d := -60000000000, src := 1 } }
            ports := { up.ports with port := [(2, { enabled := true, up := true, speed := 3 }), (3, { enabled := true, up := true, speed := 3 })] } }

theorem test_time_commands :
    after (.timeStatus 2 0) (cmd up 0x0301 []) (answered2 0 60) = true ∧
    after (.timePortStatus 2) (cmd ptpUp 0x0302 [13, 0, 0, 0]) (answered2 0 32) = true ∧
    after (.timeJumpAccept 2) (cmd ptpUp 0x0340 (le 4 3)) (fun t => answered2 1 8 t &&
      t.clk.correction == some { d := -60000000000, cause := 2, tide := 1002, src := 1 }) = true ∧
    after (.timeJumpReject 2) (cmd ptpUp 0x0341 (le 4 3)) (fun t => answered2 0 0 t && (srcOf t 1).rejected) = true ∧
    after (.timePortSet 2) (cmd up 0x0342 (le 4 1 ++ zeros 12)) (fun t => answered2 0 8 t && t.changes.length == 1) = true ∧
    after (.timeSourceSet 2) (cmd up 0x0343 ([3, 1, 2, 0] ++ le 4 100)) (fun t => answered2 0 8 t && t.changes.length == 1) = true ∧
    after (.timeThresholdSet 2) (cmd up 0x0344 (le 4 50 ++ le 4 1000000000)) (fun t => answered2 0 8 t && t.changes.length == 1) = true ∧
    after (.timeOutputSet 2) (cmd up 0x0345 (le 2 10 ++ [0, 0] ++ le 4 1000)) (fun t => answered2 0 8 t && t.changes.length == 1) = true := by
  decide +kernel

theorem test_time_sources :
    after (.ptpSyncRx 0 (aSync 40)) ptpUp (fun t => (srcOf t 1).valid && (srcOf t 1).meas == [-40]) = true ∧
    after (.extPpsEdge 250000000 1000001000) up (fun t => (srcOf t 3).valid && !(srcOf t 3).unlabelled) = true ∧
    after (.extPpsEdge 250000001 1000000000) up (fun t => !(srcOf t 3).valid && (srcOf t 3).unlabelled) = true ∧
    after .extPpsLoss (nextOf (exec (.extPpsEdge 0 1000000000) up) up) (fun t => !(srcOf t 3).valid) = true ∧
    after .ringSyncTimeout (nextOf (exec (.ptpSyncRx 0 (aSync 0)) ptpUp) up) (fun t => !(srcOf t 1).valid) = true ∧
    after (.ext10mAccept (-2000)) up (fun t => t.time.ext10m) = true ∧
    after (.ext10mAccept 2001) up (fun t => !t.time.ext10m) = true ∧
    after .ext10mLoss { up with time := { up.time with ext10m := true } } (fun t => !t.time.ext10m) = true ∧
    after .timeStateEdge { up with time := { up.time with next := some (2, 1) } } (fun t => t.time.st == 2 && t.time.src == 1) = true := by
  decide +kernel

theorem test_ptp_and_pps :
    after (.ptpAnnounceRx 0 { master with stepsRemoved := 1 }) ptpUp (fun t => ((ptpOf t 0).foreign.map (·.heard)) == [3]) = true ∧
    after (.announceReceiptTimeout 0) ptpUp (fun t => (ptpOf t 0).foreign == []) = true ∧
    after (.ptpDelayReqRx 3 7 { domain := 0, source := 6, corr := 5, stamp := { sec := 9, ns := 8 } }) ptpUp (fun t => (poolQ t 31).entries.map (·.own) == [some (.ptp 3 9 [0, 0, 7, 0, 4, 9, 8, 6, 5])]) = true ∧
    after (.ptpPdelayRx 2 (.response 0 4 false { sec := 0, ns := 0 } (10 * 65536) { sec := 6, ns := 120 })) { ptpUp with time := { ptpUp.time with ports := [(2, { mode := 2, st := 6, reqSeq := 4, reqStamp := some { sec := 6, ns := 0 } })] } } (fun t => (ptpOf t 2).meanDelay == 55) = true ∧
    after (.ptpDelayRespRx 0 4 { domain := 0, requester := 1, receive := { sec := 6, ns := 50 } } 0) ptpUp (fun t => (ptpOf t 0).meanDelay == 40) = true ∧
    after (.ptpSyncSend 2) ptpUp (fun t => (poolQ t 23).entries.length == 1 && (ptpOf t 2).syncSeq == 1) = true ∧
    after (.ptpAnnounceSend 2) ptpUp (fun t => (poolQ t 23).entries.length == 1) = true ∧
    after (.txTimestampCapture 13 (some 3) 66 { sec := 1, ns := 2 }) { up with time := { up.time with ports := [(13, { asked := [{ id := 66, owner := some 3 }] })] } } (fun t => (ptpOf t 13).txq.length == 1) = true ∧
    after .ppsOutEdge { up with time := { up.time with timeQ := true } } (fun t => t.out == [.pps 100] && t.time.lastPps == some 10000000000) = true := by
  decide +kernel

/-- Port 0 holds eight entries of the module's own class. -/
def fullQueue : State :=
  { up with time := { up.time with ports := [(0, { txq := List.replicate 8 { id := 1, owner := none, stamp := { sec := 0, ns := 0 } } })] } }

/-- The module's share of port 0's timestamp queue is full. -/
theorem test_full_timestamp_queue :
    8 ≤ ((ptpOf fullQueue 0).txq.filter fun e => e.owner.isSome == false).length := by
  decide +kernel

/-! ## Radio access -/

/-- Both dies loaded, a region with one budget entry of 10 s in 3,600 s, node 5 placed on transceiver 1 and vehicle 8 known
to transceiver 8. -/
def onRadio : State :=
  { up with
    par := { up.par with radio := { up.par.radio with region := 1, hopSub := [(1, [3])], hopHb := [15], chan0Khz := 863000, spacingKhz := 200, entries := [{ loKhz := 863000, hiKhz := 870000, budgetUs := some 10000000, windowS := 3600, lbt := true }] }
                         fleet := { up.par.fleet with enabled := true, vehicles := [(8, { present := true, linkKey := aKey, fieldPort := 2 })] } }
    radio := { up.radio with dies := [(0, { loaded := true }), (1, { loaded := true })], links := [(5, { st := 2, x := 1, epoch := 3, lastAsn := 7 }), (0x1008, { st := 2, x := 8 })], cellTide := 1000 }
    fleet := { up.fleet with on := true } }

/-- The radio with a use of a transceiver's cell of this tide. -/
def withCell (x : Nat) (u : CellUse) : State := { onRadio with radio := { onRadio.radio with cells := [(x, u)] } }

/-- A broadcast frame of ten octets. -/
def bcast : CellFrame := { x := 1, kind := .broadcast, node := 0xFFFF, ackReq := false, expiry := 0, psdu := zeros 10 }

/-- A secured frame of node 5 to transceiver 1. -/
def fromNode : RadioFrame :=
  { fcsOk := true, len := 20, sfdNs := 1500000, ccaBusy := false, version := 2, dstPan := none, dst := 0xFE01, srcExt := false, src := 5, level := 5, micOk := true, dsn := 9, ackReq := false, errUs := 30, rssi := -80, slot := 0, isHorn := false, isEb := false, payload := zeros 10 }

theorem test_radio_commands :
    after (.radioStatus 2) (cmd onRadio 0x0401 []) (answered2 0 100) = true ∧
    after (.radioLedger 2) (cmd onRadio 0x0402 []) (answered2 0 36) = true ∧
    after (.radioNeighbour 2) (cmd onRadio 0x0403 [0, 0, 5, 0]) (answered2 0 28) = true ∧
    after (.radioStats 2) (cmd onRadio 0x0404 [11, 0, 0, 0]) (answered2 0 136) = true ∧
    after (.radioEnable 2) (cmd onRadio 0x0440 [11, 1, 0, 0]) (fun t => answered2 0 8 t && t.switches.length == 1) = true ∧
    after (.radioNeighbourFlush 2) (cmd { onRadio with radio := { onRadio.radio with indirect := [{ node := 5 }, { node := 6 }] } } 0x0441 [5, 0, 0, 0])
      (fun t => answered2 0 4 t && t.radio.indirect == [{ node := 6 }] && t.radio.returned == [(5, stCANCELLED)]) = true ∧
    after (.radioPowerSet 2) (cmd onRadio 0x0442 [11, 20, 0, 0]) (fun t => answered2 0 8 t && t.changes.length == 1) = true := by
  decide +kernel

theorem test_dies_and_ledgers :
    after (.tideMessageSend 1) onRadio (fun t => tget 0 t.clk.msg 0 == 1002) = true ∧
    after (.radioDieFail 1) { onRadio with radio := { onRadio.radio with dies := [(1, { loaded := true, st := 1, faults := 3 })] } } (fun t => (die t 1).st == 1 && (die t 1).moving) = true ∧
    after (.radioDieRestore 1) { onRadio with radio := { onRadio.radio with dies := [(1, { st := 2, faults := 3 })] } }
      (fun t => (die t 1).st == 2 && (die t 1).back && (die t 1).loaded) = true ∧
    after .ledgerSecond { onRadio with radio := { onRadio.radio with ledgers := [(0, { used := 900, bins := [(10, 400)], st := 1 })] } }
      (fun t => (ledger t 0).used == 500 && (ledger t 0).st == 0) = true ∧
    after (.indirectFrameExpiry 5) { onRadio with radio := { onRadio.radio with indirect := [{ node := 5, expiry := 999 }] } }
      (fun t => t.radio.indirect == [] && t.radio.returned == [(5, stTIMEOUT)]) = true ∧
    after .frameLoad onRadio (fun t => t.radio.cellTide == 1001) = true := by
  decide +kernel

/-- Horns of this tide and of an out-of-tide set that wait. -/
def horns : State :=
  { onRadio with fleet := { onRadio.fleet with horn := { tide := 1000 }, ootWait := 3 } }

/-- A beacon in a region that sets no budget. -/
def unlimited : State :=
  let s := withCell 1 .eb
  { s with par := { s.par with radio := { s.par.radio with entries := [] } } }

theorem test_frames_sent :
    after (.subghzCellTx 1 false) (withCell 1 (.send bcast)) (fun t => t.out == [.radio 1 1000 0 (zeros 10)] &&
      t.radio.returned == [(0xFFFF, stOK)] && (ledger t 0).used == airX onRadio 1 10) = true ∧
    after (.subghzCellTx 1 true) (withCell 1 (.send bcast)) (fun t => t.out == [] && t.radio.returned == [(0xFFFF, stBUSY)]) = true ∧
    after (.hbSlotStart 3 0) (withCell 9 (.send { bcast with x := 9 })) (fun t => t.out == [.radio 9 1000 3 (zeros 10)]) = true ∧
    after (.hornTransmit 0) horns (fun t => t.fleet.ootWait == 0 && t.out.length == 4) = true ∧
    after (.ootHornCcaTimeout 0) horns (fun t => t.out == [] && t.fleet.ootWait == 2) = true := by
  decide +kernel

/-- A beacon's cell and an out-of-tide horn that waits: both fit their radio control queue. -/
theorem test_beacon_and_horn_fit :
    (cellNow unlimited 1 == .eb && maySend unlimited 1 && unlimited.sys.hmRuns && (entryOf unlimited (entryX unlimited 1)).budgetUs.isNone &&
      horns.fleet.ootWait.getLsbD 1 && maySend horns 9 && horns.sys.hmRuns) = true ∧
    ctrlFits (112 + dieOf 1) (berths (ebBytes unlimited 1).length) unlimited = true ∧
    ctrlFits (112 + dieOf 9) (berths (hornBytes horns 1 horns.fleet.oot).length) horns = true := by
  refine ⟨by decide +kernel, ?_, ?_⟩ <;> rw [berths_one]
  · decide +kernel
  · exact Nat.le_trans (micFrame_short ..) (by simp)
  · decide +kernel
  · refine Nat.le_trans (micFrame_short ..) ?_
    simp [gcmTag, xorBytes]; omega

/-- An acknowledgement of vehicle 8 in its answer cell: transceiver 8, slot 1. -/
def vehAck : RadioFrame := { fromNode with dst := 0xFE08, src := 0x1008, slot := 1, payload := [3, 8] ++ zeros 18 }

theorem test_vehicle_ack :
    answerCell { onRadio with fleet := { onRadio.fleet with live := 15 } } 8 1000 = some (0, 1) ∧
    after (.vehicleAckRx 8 1 vehAck) { onRadio with fleet := { onRadio.fleet with live := 15 } } (fun t => (link t 0x1008).st == 2 && (veh t 8).lastAck == 1000 && (veh t 8).answered) = true := by
  decide +kernel

theorem test_frames_received :
    after (.radioFrameRx 1 fromNode) (withCell 1 (.receive 5)) (fun t => (link t 5).lastAsn == 1000 && (link t 5).lastDsn == 9 && (link t 5).st == 2) = true ∧
    (taken onRadio 1 fromNode || taken onRadio 8 { fromNode with slot := 1 }) = false ∧
    after (.radioFrameRx 1 { fromNode with errUs := 251 }) (withCell 1 (.receive 5)) (fun t => (link t 5).st == 3) = true ∧
    after (.radioFrameRx 1 fromNode) { withCell 1 (.receive 5) with radio := { (withCell 1 (.receive 5)).radio with links := [(5, { st := 2, x := 1, lastAsn := 1000 })] } }
      (fun t => (link t 5).lastDsn == 256) = true ∧
    after (.enhAckRx 1 5 251) { onRadio with radio := { onRadio.radio with waiting := [(1, 5)] } } (fun t => t.radio.returned == [(5, stOK)] && (link t 5).st == 3) = true ∧
    after (.ackTimeout 1 5) { onRadio with radio := { onRadio.radio with waiting := [(1, 5)], links := [(5, { st := 2, x := 1, fails := 2 })] } } (fun t => (link t 5).st == 4) = true ∧
    after (.rxWindowEnd 1 5) (withCell 1 (.receive 5)) (fun t => (link t 5).fails == 1) = true := by
  decide +kernel

/-! ## Lantern network control -/

/-- Node 5 of group 1 and feeder 0 is active on transceiver 1; node 6 is configured and not known. -/
def lit : State :=
  { onRadio with
    par := { onRadio.par with radio := { onRadio.par.radio with modes := [(1, 0x12), (7, 0x12)] }
                              lantern := { onRadio.par.lantern with
      nodes := [{ node := 5, eui := 50, feeder := 0, groups := [1] }, { node := 6, eui := 60, feeder := 1, groups := [1] }] } }
    lantern := { onRadio.lantern with nodes := [(5, { st := 2, version := 3, eui := 50, lastFrame := 900 })]
                                      waits := [{ job := { win := 2, sid := 5, seq := 4 }, limit := 1000, cmdId := 1, targets := [5] }] } }

theorem test_lantern_commands :
    after (.lantStatus 2) (cmd lit 0x0501 []) (answered2 0 32) = true ∧
    after (.lantNode 2) (cmd lit 0x0502 [5, 0, 0, 0]) (answered2 0 58) = true ∧
    after (.lantBalance 2) (cmd lit 0x0503 [11, 0, 0, 0]) (answered2 0 52) = true ∧
    after (.lantLevel 2) (cmd lit 0x0540 ([0, 0, 5, 0] ++ le 2 1000 ++ le 2 10 ++ le 8 0)) (fun t => answered2 1 0 t &&
      t.lantern.down.length == 1 && t.lantern.waits.length == 2) = true ∧
    after (.lantLevel 2) (cmd lit 0x0540 ([0, 0, 5, 0] ++ le 2 1000 ++ le 2 10 ++ le 8 1199)) (answered2 stLATE 0) = true ∧
    after (.lantScene 2) (cmd lit 0x0541 ([1, 15, 0, 0] ++ le 8 1200)) (fun t => answered2 1 0 t && t.lantern.waits.length == 2) = true ∧
    after (.lantDetect 2) (cmd lit 0x0542 ([255, 3, 5, 0, 0, 0, 0, 0] ++ le 8 900)) (fun t => answered2 0 4 t && t.lantern.inputs.length == 1) = true ∧
    after (.lantFloorSet 2) (cmd lit 0x0543 ([255, 0] ++ le 2 100 ++ le 2 1000 ++ [0, 0])) (fun t => answered2 1 0 t && t.lantern.down.length == 1) = true ∧
    after (.lantMove 2) (cmd lit 0x0544 [5, 0, 7, 0]) (fun t => answered2 1 0 t && (lnode t 5).move.isSome) = true ∧
    after (.lantRemove 2) (cmd lit 0x0545 [5, 0, 0, 0]) (fun t => answered2 0 0 t && (lnode t 5).removing) = true ∧
    after (.lantRuleEnable 2) (cmd lit 0x0546 [255, 3, 1, 0]) (fun t => answered2 0 8 t && t.changes.length == 1) = true ∧
    after (.lantBowwaveEnable 2) (cmd lit 0x0547 [1, 0, 0, 0]) (fun t => answered2 0 8 t && t.switches.length == 1) = true := by
  decide +kernel

/-- A STATUS of node 5: level 700, state 1, fault bit 0, slot 1. -/
def statusOf (tide : Nat) : List Byte := le 4 tide ++ le 2 700 ++ [1] ++ le 2 1 ++ le 2 3 ++ le 2 4 ++ [0, 0, 1]

theorem test_node_messages :
    after (.nodeJoin 1 60 ([14, 1] ++ le 2 9 ++ le 4 7 ++ le 4 8)) lit (fun t => (lnode t 6).st == 1 && (lnode t 6).version == 3) = true ∧
    after (.nodeJoin 1 61 ([14, 1] ++ le 2 9 ++ le 4 7 ++ le 4 8)) lit (fun t => t.lantern.joinUnknown == 1) = true ∧
    after (.nodeStatus 5 3 (statusOf 999)) lit (fun t => (lnode t 5).level == 700 && (lnode t 5).nodeState == 1) = true ∧
    after (.nodeStatus 5 2 (statusOf 999)) lit (fun t => t.lantern.staleDropped == 1 && t.lantern.nodes == lit.lantern.nodes) = true ∧
    (hears 5 lit && fresh 5 3 999 lit && lit.lantern.waits.any (·.cmdId == 1)) = true ∧
    after (.nodeEnergy 5 3 (le 4 999 ++ le 6 123 ++ le 4 5 ++ [0] ++ zeros 6)) lit (fun t => (lnode t 5).energy == 123) = true ∧
    after (.nodeFault 5 3 (le 4 999 ++ [11, 0, 0])) lit (fun t => (lnode t 5).faults == 0x400) = true ∧
    after (.nodeDetect 5 3 (le 4 999 ++ [0, 5, 0, 0])) lit (fun t => t.lantern.inputs.length == 1) = true := by
  decide +kernel

/-- Feeder 0's imports at two edges 90,000 tides apart, both reported by node 5. -/
def balanced : State :=
  { lit with
    clk := { lit.clk with tide := 190000 }
    lantern := { lit.lantern with
      imports := [(0, [(180000, 5000), (90000, 4000)])]
      nodes := [(5, { st := 2, version := 3, reports := [{ tide := 180000, energy := 900 }, { tide := 90000, energy := 100 }] })] } }

/-- Node 5 in a campaign of a 20-byte image. -/
def campaigning : State :=
  { lit with upd := { lit.upd with images := [{ id := 1, data := zeros 20 }], camps := [(0, { st := 1, image := 1, tag := 77 })]
                                   nodes := [(5, { campaign := 0, st := 1, slot0 := 0 })] } }

theorem test_node_watch :
    after (.nodeLostTimeout 5) { lit with clk := { lit.clk with tide := 60900 } } (fun t => (lnode t 5).st == 4) = true ∧
    after (.nodeLostTimeout 5) { lit with clk := { lit.clk with tide := 60899 } } (fun t => (lnode t 5).st == 2) = true ∧
    (lit.lantern.waits.find? fun x => x.job.win == 2 && x.job.seq == 4 && decide (x.limit ≤ lit.clk.tide)).isSome = true ∧
    after (.fwStatus 5 3 999 (le 2 77 ++ le 3 2 ++ zeros 11)) campaigning (fun t => (cnode t 5).st == 2) = true ∧
    after (.fwStatus 5 3 999 (le 2 77 ++ le 3 1 ++ zeros 11)) campaigning (fun t => (cnode t 5).st == 1 && (cnode t 5).blocks == 1) = true ∧
    after (.balanceEvaluation 0) balanced (fun t => (balanceOf t 0).endTide == 180000 && (balanceOf t 0).intervals == 1 &&
      (balanceOf t 0).nodeSum == 800) = true ∧
    after (.balanceEvaluation 0) { balanced with lantern := { balanced.lantern with imports := [(0, [(180000, 5000)])] } }
      (fun t => (balanceOf t 0).result == 4) = true := by
  decide +kernel

/-! ## Berth pool, queue windows and lighters -/

/-- Window 2's session owns queue window 3 and lighter channel 1, which serves queue window 4. -/
def pooled (es : List Entry) (l : Lighter) : State :=
  let s := cmd up 0 []
  { s with pool := { s.pool with
      qwins := [(3, { owner := some (2, 5), txPorts := 0x8001 }), (4, { owner := some (2, 5) })]
      lighters := [(1, { l with owner := some (2, 5), cfgWin := 4, count := 4 })]
      queues := if es = [] then [] else [(131, { entries := es }), (132, { entries := es })] } }

def rec6 : Entry := { bytes := [1, 2, 3, 4, 5, 6] }

/-- A command over a state whose window 2 is otherwise idle. -/
def ask (s : State) (code : Nat) (payload : List Byte) : State := cmd s code payload

theorem test_pool_commands :
    after (.poolStatus 2) (ask up 0x0A01 []) (answered2 0 32) = true ∧
    after (.queueStatus 2) (ask up 0x0A02 (le 4 255)) (answered2 0 24) = true ∧
    after (.poolStats 2) (ask up 0x0A03 []) (answered2 0 136) = true ∧
    after (.lighterStatus 2) (ask up 0x0A04 [31, 0, 0, 0]) (answered2 0 16) = true ∧
    after (.qwBind 2) (ask up 0x0A40 ([15, 1] ++ le 2 64 ++ le 2 0x8001 ++ [0, 0])) (fun t => answered2 0 8 t &&
      (qwinOf t 15).owner == some (2, 5) && (qwinOf t 15).rxLimit == 64) = true ∧
    after (.qwBind 2) (ask (pooled [] {}) 0x0A40 ([3, 0] ++ le 2 64 ++ zeros 4)) (fun t => answered2 0 8 t && t.switches.length == 1) = true ∧
    after (.ltBind 2) (ask up 0x0A41 [7, 1, 0, 0]) (fun t => answered2 0 8 t && (ltOf t 7).owner == some (2, 5)) = true ∧
    after (.ltBind 2) (ask (pooled [] {}) 0x0A41 [1, 0, 0, 0]) (fun t => answered2 0 8 t && t.switches.length == 1) = true := by
  decide +kernel

/-- A transmit record for port 0 of 60 bytes. -/
def txOpened : State :=
  let s := pooled [] {}
  let s := { s with ports := { s.ports with port := [(0, { enabled := true, up := true, speed := 3 })] } }
  updQwin 3 (fun x => { x with txOpen := true, txBuf := le 2 60 ++ zeros 74 }) s

theorem test_queue_windows :
    after (.qwDataRead .pcie 3) (pooled [] {}) (fun t => t.out == [.read .pcie 0x23010 0] && (qwinOf t 3).underruns == 1) = true ∧
    after (.qwTaggedRead .pcie 3) (pooled [] {}) (fun t => t.out == [.read .pcie 0x23014 0]) = true ∧
    after (.qwDataRead .pcie 3) (pooled [rec6] {}) (fun t => t.out.contains (.read .pcie 0x23010 0x04030201) && (qwinOf t 3).pos == 4) = true ∧
    after (.qwTaggedRead .pcie 3) (pooled [rec6] {}) (fun t => t.out.contains (.read .pcie 0x23014 0x83030201)) = true ∧
    after (.qwTaggedRead .pcie 3) (updQwin 3 (fun x => { x with pos := 3 }) (pooled [rec6] {})) (fun t =>
      t.out.contains (.read .pcie 0x23014 0xC3060504) && (poolQ t 131).entries == []) = true ∧
    after (.qwPopSkip .pcie 3 1) (pooled [rec6] {}) (fun t => (poolQ t 131).entries == []) = true ∧
    after (.qwTxData .pcie 3 0x04030201) (pooled [] {}) (fun t => (qwinOf t 3).txBuf == [1, 2, 3, 4]) = true ∧
    after (.qwTxEnd .pcie 3 76) txOpened (fun t => (qwinOf t 3).accepted == 1 && !(qwinOf t 3).txOpen) = true ∧
    after (.qwTxEnd .pcie 3 77) txOpened (fun t => (qwinOf t 3).result == 1) = true := by
  decide +kernel

/-- A receive descriptor: address 0x1000, length 64, RECEIVE and VALID. -/
def rxDesc : List Byte := le 8 0x1000 ++ le 4 64 ++ le 2 9 ++ le 2 0

theorem test_host_lighters :
    after (.ltCtrlWrite .pcie 1 3) (pooled [] {}) (fun t => (ltOf t 1).enable && (ltOf t 1).irqEn) = true ∧
    after (.ltCtrlWrite .pcie 1 2) (pooled [] { enable := true }) (fun t => !(ltOf t 1).enable && (ltOf t 1).irqEn) = true ∧
    after (.ltTailWrite .pcie 1 3) (pooled [] {}) (fun t => (ltOf t 1).tail == 3) = true ∧
    after (.ltTailWrite .pcie 1 4) (pooled [] {}) (fun t => (ltOf t 1).tail == 0) = true ∧
    after (.ltRingConfigWrite .pcie 1 0x01C 0x135) (pooled [] {}) (fun t => (ltOf t 1).cfgWin == 5 && (ltOf t 1).cfgVec == 3 && (ltOf t 1).cfgWait == 1) = true ∧
    after (.ltRingConfigWrite .pcie 1 0x00C 1) (pooled [] { head := 1 }) (fun t => (ltOf t 1).base == 2 ^ 32 && (ltOf t 1).head == 0) = true ∧
    after (.lighterBurst 1 { ok := true, desc := rxDesc, data := [] }) (pooled [rec6] { enable := true, tail := 1 })
      (fun t => t.out.contains (.hostMem 1 0x1000 [1, 2, 3, 4, 5, 6]) && (ltOf t 1).head == 1 && (poolQ t 132).entries == []) = true ∧
    after (.ringWaitExpiry 1) (pooled [rec6] { enable := true, rxOpen := true, desc := some { len := 4, moved := 4 } })
      (fun t => (ltOf t 1).truncated == 1 && (ltOf t 1).desc == none) = true ∧
    after (.hostMemoryTimeout 1) (pooled [] { enable := true, tail := 2 }) (fun t => (ltOf t 1).stopped && (ltOf t 1).code == 3) = true := by
  decide +kernel

theorem test_scrub_and_stamps :
    after (.eccScrub { scrub := true, corrected := [(7, 3)], uncorrected := [], linkCorrected := 2 }) { up with pool := { up.pool with corrected := [((7, 3), 2)] } } (fun t => t.pool.retired == [7] && t.pool.eccCorrected == 3) = true ∧
    after (.eccScrub { scrub := true, corrected := [], uncorrected := [7] }) { up with pool := { up.pool with suspect := [7] } } (fun t => t.pool.retired == [7]) = true ∧
    after .txTimestampDrain { up with ports := { up.ports with port := [(13, { enabled := true, up := true })] }, time := { up.time with ports := [(13, { txq := [{ id := 4, owner := none, stamp := { sec := 1, ns := 2 } }] })] } }
      (fun t => (poolQ t 111).entries.map (·.own) == [some (.ptp 13 8 [0, 0, 4, 0, 14, 1, 2])] && (ptpOf t 13).txq.isEmpty) = true := by
  decide +kernel

/-! ## Frame ports and gates -/

/-- Ports 0 to 13 enabled; 0, 1, 2 and 10 up. -/
def wired : State :=
  { up with ports := { up.ports with port := (List.range 14).map fun p => (p, { enabled := true, up := p < 3 || p == 10, speed := 3, full := p < 10 }) } }

/-- wired with one port changed. -/
def onPort (p : Nat) (f : Port → Port) : State := updPort p f wired

/-- FP_GATE_SET of port 9: a cycle of 2 tides, offset 1, one entry, from tide 1002. -/
def gateSet : List Byte := [9, 2, 1, 1] ++ le 8 1002 ++ [0xFF, 0, 0, 0] ++ le 4 20000000

theorem test_port_commands :
    after (.fpPortStatus 2) (cmd wired 0x0901 [13, 0, 0, 0]) (answered2 0 48) = true ∧
    after (.fpStats 2) (cmd wired 0x0902 [13, 0, 0, 0]) (answered2 0 352) = true ∧
    after (.fpCounters 2) (cmd wired 0x0903 [13, 0, 0, 0]) (answered2 0 176) = true ∧
    after (.fpGateList 2) (cmd (onPort 9 fun x => { x with gates := { n := 1, entries := [(255, 10000000)] } }) 0x0904 [9, 0, 0, 0])
      (fun t => (win t 2).rspReady && u16 (win t 2).rspBuf 4 == 0) = true ∧
    after (.fpPortEnable 2) (cmd wired 0x0940 [13, 1, 0, 0]) (fun t => answered2 0 8 t && t.switches.length == 1) = true ∧
    after (.fpGateSet 2) (cmd wired 0x0941 gateSet) (fun t => answered2 1 8 t && ((portOf t 9).gateWait.map (·.apply)) == some 1003) = true ∧
    after (.fpGateEnable 2) (cmd wired 0x0942 [9, 0, 0, 0]) (fun t => answered2 0 8 t && t.switches.length == 1) = true ∧
    after (.fpPlcaSet 2) (cmd wired 0x0943 [13, 1, 254, 255, 1, 0, 1, 0]) (fun t => answered2 0 8 t && t.changes.length == 1) = true ∧
    after (.fpRuleSet 2) (cmd wired 0x0944 ([127, 0, 1, 0xFF, 0xFF, 0] ++ zeros 20)) (fun t => answered2 0 8 t && t.changes.length == 1) = true := by
  decide +kernel

/-- A frame of 68 bytes with VLAN 1 and PCP 0 to a destination address, from 02:00:00:00:00:01. -/
def frameTo (dst : Nat) : EthFrame :=
  { bytes := be 6 dst ++ be 6 0x020000000001 ++ be 2 0x8100 ++ be 2 1 ++ be 2 0x0800 ++ zeros 50, symbolErr := false, fcsOk := true }

/-- Only ports 0 and 2 are enabled. -/
def twoPorts : State := { wired with par := { wired.par with ports := { wired.par.ports with members := [(1, 5)] } }, ports := { wired.ports with port := [(0, { enabled := true, up := true, speed := 3 }), (2, { enabled := true, up := true, speed := 3 })] } }

/-- What a frame needs to be forwarded from port 0 to port 2, but for its destination not being the module. -/
def forwards (f : EthFrame) : Bool :=
  let b := f.bytes.take (f.bytes.length - 4)
  f.bytes.length == 68 && etherType f.bytes == 0x0800 && tagOf b == some (1, 0) && (classify twoPorts 0 1 0 b).isNone &&
  (membersOf twoPorts 1).getLsbD 0 && targets twoPorts 0 1 b == [2] && castOf (srcMac b) == 0 && b.length + 4 ≤ maxFrame twoPorts 2 &&
  !cuts twoPorts 0 2 (pcpClass 0) 68 0 && admits (egressQ 2 (pcpClass 0)) 0 (berths (maxFrame twoPorts 0)) twoPorts

theorem test_frame_for_another :
    ∃ f, forwards f = true ∧ forModule twoPorts 0 1 (f.bytes.take (f.bytes.length - 4)) = false := by
  have a : forwards (frameTo 0x020000000002) = true ∧ forwards (frameTo 0x020000000003) = true := by decide +kernel
  by_cases h : Config.macAddress = 0x020000000002
  · refine ⟨_, a.2, ?_⟩
    have d : dstOf ((frameTo 0x020000000003).bytes.take 64) = 0x020000000003 := by decide +kernel
    have e : (isPtp ((frameTo 0x020000000003).bytes.take 64) && (ptpOf twoPorts 0).mode != 0) = false := by decide +kernel
    have r : (decide ((0 : Nat) < 2) && (1 : Nat) == twoPorts.par.ports.controlVlan && etherType ((frameTo 0x020000000003).bytes.take 64) == 0x8902 && dstOf ((frameTo 0x020000000003).bytes.take 64) / 256 == 0x0119A70000) = false := by decide +kernel
    have l : (frameTo 0x020000000003).bytes.length - 4 = 64 := by decide +kernel
    rw [l]; unfold forModule; rw [e, r, d, h]; rfl
  · refine ⟨_, a.1, ?_⟩
    have d : dstOf ((frameTo 0x020000000002).bytes.take 64) = 0x020000000002 := by decide +kernel
    have e : (isPtp ((frameTo 0x020000000002).bytes.take 64) && (ptpOf twoPorts 0).mode != 0) = false := by decide +kernel
    have r : (decide ((0 : Nat) < 2) && (1 : Nat) == twoPorts.par.ports.controlVlan && etherType ((frameTo 0x020000000002).bytes.take 64) == 0x8902 && dstOf ((frameTo 0x020000000002).bytes.take 64) / 256 == 0x0119A70000) = false := by decide +kernel
    have l : (frameTo 0x020000000002).bytes.length - 4 = 64 := by decide +kernel
    rw [l]; unfold forModule; rw [e, r, d]; simp [Ne.symm h]

/-- Port 2's class 3 queue holds a frame of 64 bytes without its FCS. -/
def queued (p : Nat) : State := { wired with pool := { wired.pool with queues := [(8 * p + 3, { entries := [{ bytes := zeros 64 }] })] } }

theorem test_frames_forwarded :
    after (.frameIngress 0 { bytes := zeros 63, symbolErr := false, fcsOk := true } { sec := 10, ns := 0 }) wired
      (fun t => t.ports.fdb == [] && t.pool == wired.pool && t.out == []) = true ∧
    mayStart (queued 2) 2 0 = true ∧ nextClass (queued 2) 2 0 = some 3 ∧
    after (.frameEgress 2 0 none) (queued 2) (fun t => t.out.contains (.eth 2 (zeros 64)) && (poolQ t 19).entries == [] &&
      (portOf t 2).line == some (3, 704)) = true := by
  decide +kernel

/-- The ring with a change of the owner's wait. -/
def ring (wtr : Option Nat) (guard : Bool) : State :=
  { wired with ports := { wired.ports with ring := { st := 4, guard, wtr } }, par := { wired.par with ports := { wired.par.ports with rplOwner := true, rplPort := 1 } } }

theorem test_links_and_ring :
    after (.linkUp 3 3 false) wired (fun t => (portOf t 3).up && (portOf t 3).full) = true ∧
    after (.linkUp 3 3 false) { wired with par := { wired.par with ports := { wired.par.ports with sgmii := 8 } } } (fun t => !(portOf t 3).up && (portOf t 3).hdx) = true ∧
    after (.linkDown 2 none) wired (fun t => !(portOf t 2).up && (portOf t 2).dropDue == some 7) = true ∧
    after (.linkDropEdge 2) (updPort 2 (fun x => { x with dropDue := some 6 }) (queued 2)) (fun t => (poolQ t 19).entries == []) = true ∧
    after (.ringSignalFail 1) (onPort 1 fun x => { x with downEdges := 3 }) (fun t => t.ports.ring.st == 1 && (portOf t 1).blocked) = true ∧
    after (.rapsRx 1 .signalFail) wired (fun t => t.ports.ring.st == 1) = true ∧
    after (.rapsRx 1 .forcedSwitch) wired (fun t => t.ports.ring.st == 3) = true ∧
    after (.rapsRx 1 .noRequestRplBlocked) wired (fun t => t.ports.ring.st == 0) = true ∧
    after .ringWtrExpiry (ring (some 7) false) (fun t => t.ports.ring.st == 0 && (portOf t 1).blocked && !(portOf t 0).blocked) = true ∧
    after .guardTimerExpiry (ring none true) (fun t => !t.ports.ring.guard) = true ∧
    after (.fdbAgeing 1 9) { up with clk := { up.clk with ran := 30000 }, ports := { up.ports with fdb := [{ vid := 1, mac := 9, port := 0 }] } } (fun t => t.ports.fdb == []) = true := by
  decide +kernel

/-- Cabinet port 10 without PLCA holds a frame. -/
def shore (attempts : Nat) : State := updPort 10 (fun x => { x with plca := some { on := false }, attempts }) (queued 10)

theorem test_cabinet_ports_and_gates :
    (csma (shore 0) 10 && mayStart (shore 0) 10 0 && (nextClass (shore 0) 10 0).isSome) = true ∧
    after (.collision 10 64) (shore 15) (fun t => (portOf t 10).attempts == 0 && (portOf t 10).backoff == none) = true ∧
    after (.backoffExpiry 10) (onPort 10 fun x => { x with backoff := some 3 }) (fun t => (portOf t 10).backoff == none) = true ∧
    after (.plcaFallback 10 true) wired (fun t => (portOf t 10).fellBack && !(portOf t 10).plcaOk) = true ∧
    after (.plcaRestore 10) (onPort 10 fun x => { x with fellBack := true }) (fun t => !(portOf t 10).fellBack && (portOf t 10).plcaOk) = true ∧
    after (.gateChange 9 0) (onPort 9 fun x => { x with gatesOn := true, gates := { n := 1, entries := [(3, 5000000), (1, 5000000)] } }) (fun t => (portOf t 9).gateNow == 3) = true ∧
    ((portOf (onPort 9 fun x => { x with gateWait := some { list := { n := 2 }, apply := 1000 } }) 9).gateWait.map
      fun x => (x.apply, wired.clk.tide % x.list.n, x.list.q)) = some (1000, 0, 0) := by
  decide +kernel

/-! ## GNSS baseband -/

/-- Channels 0 and 192 track GPS L1 C/A of satellites 3 and 4; channel 1 tracks a BOC signal; queue window 3 is owned. -/
def tracking : State :=
  { pooled [] {} with
    gnss := { up.gnss with chans := [(0, { st := 2, signal := 1, sat := 3 }), (1, { st := 2, signal := 2, sat := 3 }), (192, { st := 3, signal := 1, sat := 4 })] } }

/-- tracking with channel 0 in another state. -/
def chan0 (f : Chan → Chan) : State := updChan 0 f tracking

theorem test_gnss_commands :
    after (.gnssStatus 2) (cmd tracking 0x0601 []) (answered2 0 68) = true ∧
    after (.gnssChannel 2) (cmd tracking 0x0602 (le 4 383)) (answered2 0 32) = true ∧
    after (.gnssFsStatus 2) (cmd tracking 0x0603 [2, 0, 0, 0]) (answered2 0 24) = true ∧
    after (.gnssStats 2) (cmd tracking 0x0604 [1, 0, 0, 0]) (answered2 0 136) = true ∧
    after (.gnssNotchSet 2) (cmd tracking 0x0640 ([5, 3, 2, 2] ++ leI 4 (-30000000) ++ [40, 0, 0, 0])) (fun t => answered2 0 8 t && t.changes.length == 1) = true ∧
    after (.gnssSignalEnable 2) (cmd tracking 0x0641 ([1, 0] ++ le 2 0)) (fun t => answered2 0 8 t && t.switches.length == 10) = true ∧
    after (.gnssMove 2) (cmd tracking 0x0642 (le 2 0 ++ le 2 191)) (fun t => answered2 1 0 t && t.gnss.moves.length == 1) = true ∧
    after (.gnssBiasSet 2) (cmd tracking 0x0643 [1, 2, 0, 0]) (fun t => answered2 0 8 t && t.changes.length == 1) = true ∧
    after (.gnssFsSet 2) (cmd tracking 0x0644 (le 2 50 ++ [90, 99, 90, 20, 10, 1, 45, 45, 0, 0])) (fun t => answered2 0 8 t && t.changes.length == 1) = true ∧
    after (.gnssLoopSet 2) (cmd tracking 0x0645 ([1, 3, 20, 20] ++ le 2 120 ++ [100, 2, 64, 0, 0, 0])) (fun t => answered2 0 8 t && t.changes.length == 1) = true ∧
    after (.gnssJiCal 2) (cmd tracking 0x0646 [5, 0, 0, 0]) (fun t => answered2 1 0 t && (rfOf t 5).cal.isSome) = true ∧
    after (.gnssObsStream 2) (cmd tracking 0x0647 [3, 20, 3, 0]) (fun t => answered2 0 0 t && t.gnss.streams.length == 1) = true := by
  decide +kernel

def search : AcqRequest := { antenna := 1, signal := 1, sat := 9, doppler := 0, halfWidth := 5000, window := 64, nonCoh := 4, aided := false }

/-- tracking with a search that runs. -/
def searching : State := { tracking with gnss := { tracking.gnss with running := [search] } }

/-- RF channel 5 with a change. -/
def rf5 (f : RfChan → RfChan) : State := updRf 5 f tracking

/-- Both antennas have bias. -/
def biased (x : Antenna) : State := { updAnt 1 (fun _ => x) tracking with par := { up.par with gnss := { up.par.gnss with bias := [(0, 1), (1, 2)] } } }

theorem test_acquisition_and_antennas :
    after (.acquisitionRequest search) tracking (fun t => t.gnss.running == [search]) = true ∧
    after (.acquisitionRequest search) { tracking with gnss := { tracking.gnss with running := List.replicate 8 { search with sat := 7 } } } (fun t => t.gnss.queue == [search]) = true ∧
    after (.acquisitionResult 1 1 9 none) searching (fun t => t.gnss.running == [] && t.gnss.starts == []) = true ∧
    after (.acquisitionResult 1 1 9 (some { channel := 383, phase := 5, doppler := -7, cn0 := 44, gloFreq := 0 })) searching
      (fun t => (t.gnss.starts.map (·.1)) == [383]) = true ∧
    after (.notchEngage 5 117) (rf5 fun x => { x with lines := [{ bin := 0, level := 80, run := 3 }] }) (fun t => notchOf t 5 0 == { engaged := true, offset := 1 }) = true ∧
    after (.notchRelease 5 0) (setNotch 5 0 { engaged := true, low := 100 } tracking) (fun t => notchOf t 5 0 == {}) = true ∧
    after (.jamEnter 5) (rf5 fun x => { x with above := 10 }) (fun t => (rfOf t 5).jammed) = true ∧
    after (.jamExit 5) (rf5 fun x => { x with jammed := true, below := 100 }) (fun t => !(rfOf t 5).jammed) = true ∧
    after (.antennaShort 1) (biased {}) (fun t => (antenna t 1).ant == 2 && (antenna t 1).retry == 6007) = true ∧
    after (.antennaOpen 1) (biased {}) (fun t => (antenna t 1).ant == 1) = true ∧
    after (.biasRetry 1) (biased { ant := 2, retry := 7 }) (fun t => (antenna t 1).ant == 0) = true ∧
    (rfOf (rf5 fun x => { x with cal := some { ends := 7 } }) 5).cal.isSome = true := by
  decide +kernel

/-- A state after 1,000 tides. -/
def ranLong (s : State) : State := { s with clk := { s.clk with ran := 1000 } }

/-- A report of this tide on a channel with epoch 0. -/
def chanAt (ch : Nat) : ChanReport := { ch, epoch := 0, tide := 1000 }

theorem test_tracking_channels :
    after (.laneAlignmentLoss 1) tracking (fun t => !(antenna t 1).lane && (chanOf t 192).st == 4 && (chanOf t 0).st == 2) = true ∧
    after (.laneRealign 1) (updAnt 1 (fun x => { x with lane := false }) (updChan 192 (fun c => { c with st := 4, coastRan := 0 }) tracking)) (fun t => (chanOf t 192).st == 1) = true ∧
    after (.laneRealign 1) (ranLong (updAnt 1 (fun x => { x with lane := false }) (updChan 192 (fun c => { c with st := 4, coastRan := 899 }) tracking))) (fun t => (chanOf t 192).st == 5) = true ∧
    after (.coastTimeout 0) (ranLong (chan0 fun c => { c with st := 4, coastRan := 900 })) (fun t => (chanOf t 0).st == 5) = true ∧
    after (.channelLock (chanAt 192)) tracking (fun t => (chanOf t 192).st == 2) = true ∧
    after (.channelLockLoss (chanAt 0)) tracking (fun t => (chanOf t 0).st == 3) = true ∧
    after (.channelLost (chanAt 0)) tracking (fun t => (chanOf t 0).st == 5) = true ∧
    after (.sidePeakCorrection (chanAt 1) true) tracking (fun t => (chanOf t 1).phase == 1) = true ∧
    after (.framePreamble (chanAt 0)) tracking (fun t => (chanOf t 0).half) = true ∧
    after (.bitSync (chanAt 0)) tracking (fun t => (chanOf t 0).bitSync) = true ∧
    after (.secondaryCodeAlignment (chanAt 1)) tracking (fun t => (chanOf t 1).secondary) = true ∧
    after (.channelLockLoss (chanAt 0)) (chan0 fun _ => { movedTo := some 5 }) (fun t => (chanOf t 0).st == 0) = true := by
  decide +kernel

theorem test_measurements :
    after (.measurementLatch [{ channel := 0, cn0 := 40, range := 7, cycles := -9, doppler := 3, lockInd := 1, prValid := true }]) tracking
      (fun t => t.gnss.entries.any (fun e => e.ch == 0 && e.range == 7 && e.carrier == -9 * 65536)) = true ∧
    after (.falseSignalEval 2 9000) tracking (fun t => (fsBand t 2).next.isSome) = true ∧
    after (.falseSignalEval 2 9001) tracking (fun t => (fsBand t 2).next.isNone) = true := by
  decide +kernel

/-! ## Reference station and positioning -/

/-- The station in a state, positioning on, with vehicle 2 in slot 0 and mountpoint 3 at one epoch a second. -/
def station (st : Nat) : State :=
  { pooled [] {} with
    par := { up.par with ref := { up.par.ref with mounts := [(3, { rate := 1, auth := true })], users := [77], casterPorts := 1 }
                         fleet := { up.par.fleet with vehicles := [(2, { present := true, obsKey := aKey })] } }
    ports := { up.ports with port := [(0, { enabled := true, up := true, speed := 3 })] }
    ref := { up.ref with st, posOn := true, slots := [(2, 1)] } }

/-- The record of this tide's epoch gives pseudoranges of six GPS satellites. -/
def recorded (s : State) : State :=
  { s with gnss := { s.gnss with recTide := 1000, recTaken := true
                                 entries := [1, 2, 3, 4, 5, 6].map fun sat => { ch := sat, signal := 1, sat, st := 2, flags := 1 } } }

/-- The station with a survey that started at edge 100. -/
def surveying (st : Nat) : State :=
  { recorded (station st) with ref := { (station st).ref with survey := some { start := 100, minTides := 800, n := 1, maxTides := 900, limitMm := 2000 } } }

theorem test_reference_commands :
    after (.refStatus 2) (cmd (station 3) 0x0701 []) (answered2 0 88) = true ∧
    after (.posVehicle 2) (cmd (station 3) 0x0702 [2, 0, 0, 0]) (answered2 0 76) = true ∧
    after (.refStats 2) (cmd (station 3) 0x0703 []) (answered2 0 136) = true ∧
    after (.refEnable 2) (cmd (station 3) 0x0740 [1, 0, 0, 0]) (fun t => answered2 0 8 t && t.switches.length == 1) = true ∧
    after (.posEnable 2) (cmd (station 3) 0x0747 [0, 0, 0, 0]) (fun t => answered2 0 8 t && t.switches.length == 1) = true ∧
    after (.refSurveyStart 2) (cmd (station 3) 0x0741 (le 4 6000 ++ le 4 8640000 ++ le 2 100 ++ [1, 0])) (fun t => answered2 0 8 t && t.changes.length == 1) = true ∧
    after (.refFixSet 2) (cmd (station 3) 0x0742 (zeros 26 ++ [1, 0] ++ zeros 24)) (fun t => answered2 0 8 t && t.changes.length == 1) = true ∧
    after (.refOutputSet 2) (cmd (station 3) 0x0743 ([3, 7, 20, 1] ++ le 2 6000 ++ [0, 0])) (fun t => answered2 0 8 t && t.changes.length == 1) = true ∧
    after (.refIntegritySet 2) (cmd (station 3) 0x0744 (le 2 500 ++ le 2 20 ++ [10, 0] ++ le 2 10)) (fun t => answered2 0 8 t && t.changes.length == 1) = true ∧
    after (.posEnrol 2) (cmd (station 3) 0x0745 [2, 0xFF, 0, 0]) (fun t => answered2 0 8 t && t.changes.length == 1) = true ∧
    after (.posEnrol 2) (cmd (station 3) 0x0745 [9, 95, 0, 0]) (fun t => answered2 0 8 t && t.changes.length == 1) = true ∧
    after (.refStream 2) (cmd (station 3) 0x0746 [3, 2, 3, 0]) (fun t => answered2 0 0 t && t.ref.streams.length == 1) = true := by
  decide +kernel

def noEcef : Ecef := { x := 0, y := 0, z := 0 }

/-- The station in BASELINE with the last solutions of the monitor survey; its reference antenna is 10 m from the origin. -/
def monitored (n : Nat) : State :=
  { recorded (station 2) with ref := { (station 2).ref with monSurvey := true, refArp := some { noEcef with x := 100000 }, monLast := List.replicate n noEcef } }

theorem test_station_states :
    after (.surveySample 6 { noEcef with y := -40000 }) (ranLong (surveying 1)) (fun t => t.ref.next == some (2, 1) && (t.ref.survey.map semMm) == some 2000) = true ∧
    after (.surveySample 6 { noEcef with y := -40001 }) (ranLong (surveying 1)) (fun t => t.ref.next == none) = true ∧
    after .surveyTimeout (ranLong (surveying 1)) (fun t => (t.ref.survey.map (·.start)) == some 1001) = true ∧
    after (.monitorSurveySolution 3 300 noEcef) (monitored 598) (fun t => t.ref.monLast.length == 599) = true ∧
    after (.monitorRoverSolve 3 { x := 63781370000, y := 310, z := 0 } 6000) { station 3 with ref := { (station 3).ref with encoded := [(3, rtcmFrame [0x3E, 0xD0])], lastCorr := 1000, overRun := 2, monArp := some { x := 63781370000, y := 0, z := 0 } } }
      (fun t => t.ref.integrity == 2 && t.ref.lastSolve == 1001) = true ∧
    (fsBand { up with gnss := { up.gnss with bands := [(2, { next := some { tide := 999 } })] } } 2).next.isSome = true := by
  decide +kernel

/-- An observation datagram of vehicle 2 with a frame of 8 bytes for the epoch of edge k. -/
def datagram (k : Nat) : List Byte :=
  let d := le 2 0x9E50 ++ [1, 2] ++ le 4 k ++ le 2 7 ++ le 2 8 ++ zeros 4 ++ rtcmFrame [0x3E, 0xD0]
  d ++ gcmTag aKey (obsNonce 2 0 (le 4 k) (le 2 7)) d

/-- Vehicle 2's observation of this edge is held, and it is solved. -/
def solving : State :=
  { station 3 with ref := { (station 3).ref with vehicles := [(2, { obsTide := 1000, sets := [{ tide := 1000 }] })], solveTide := 1000, solving := [(2, [1, 2, 3, 4, 5].map fun sat => { signal := 1, sat, cn0 := 180 })] } }

/-- The tide in which GPS week 2000 begins. -/
def week2000 (s : State) : State := { s with clk := { s.clk with tide := 152556481900 } }

def solution : Solution := { vehicle := 2, fix := 3, ratio := 400, pos := noEcef, vel := noEcef, sigmaH := 1, sigmaV := 1 }

theorem test_corrections_and_solutions :
    after (.correctionEncode 3 6000) (station 3) (fun t => t.ref.lastCorr == 1000) = true ∧
    after (.correctionEncode 3 6001) (station 3) (fun t => t.ref.lastCorr == 0 && (missOf t 5).late == 1) = true ∧
    after (.obsDatagramRx 2 7421 (datagram 1000) 3000) (station 3) (fun t => (posVehicle t 2).sets.map (·.tide) == [1000] && (posVehicle t 2).obsTide == 1000) = true ∧
    after (.obsDatagramRx 2 7421 (datagram 1000) 3001) (station 3) (fun t => (posVehicle t 2).sets == []) = true ∧
    after .centralSolve { solving with ref := { solving.ref with solveTide := 0, solving := [] } } (fun t => t.ref.solving == [(2, [])] && (posVehicle t 2).sets == []) = true ∧
    after (.centralSolutionsComplete [solution] 9000) solving (fun t => (posVehicle t 2).fix == 3 && t.ref.solving == []) = true ∧
    after (.centralSolutionsComplete [solution] 9001) solving (fun t => (missOf t 6).late == 1) = true ∧
    ((station 3).clk.tide % 100 == 0 && !(station 3).gnss.alarm) = true ∧
    after (.utcParametersDecode true false 18 19 (208, 7)) (week2000 { station 3 with time := { up.time with st := 2, src := 2 } }) (fun t => t.rtc.ofs == 37 && t.rtc.next == 38 && t.rtc.at_ == 579484837 && t.rtc.armed) = true ∧
    after (.utcParametersDecode false false 18 19 (208, 7)) (week2000 (station 3)) (fun t => t.ref.utcSet == some (37, 38, 579484837)) = true ∧
    after (.ntripRequest 0 4 (.mount 2101 false 3 (some 77))) (station 3) (fun t => t.ref.clients.length == 1 && t.ref.outbox.map (·.out) == [.ntrip 4 (ascii "ICY 200 OK\r\n\r\n".toList)]) = true ∧
    after (.ntripRequest 0 4 (.mount 2101 false 3 none)) (station 3) (fun t => t.ref.outbox.map (·.out) == [.ntrip 4 (ascii "HTTP/1.0 401\r\n\r\n".toList)]) = true ∧
    after (.ntripRequest 0 4 .close) { station 3 with ref := { (station 3).ref with clients := [{ conn := 4 }] } } (fun t => t.ref.clients == []) = true ∧
    after (.ntripRequest 0 4 (.serverRole 2101 false)) (station 3) (fun t => t.ref.outbox.map (·.out) == [.ntrip 4 (ascii "HTTP/1.0 501\r\n\r\n".toList)]) = true := by
  decide +kernel

/-! ## Fleet allotment and halt -/

/-- The service serves vehicle 8, which holds an interval in cell 4; task 7 is assigned to it with epoch 1. -/
def fleetUp : State :=
  { onRadio with
    fleet := { onRadio.fleet with live := 15
                                  held := [(8, [{ cell := 4, enter := 900, leave := some 1010 }])]
                                  vehicles := [(8, { held := false })]
                                  tasks := [(7, { used := true, st := 1, vehicle := 8, epoch := 1, kind := 1, placed := 500 })] } }

/-- fleetUp with vehicle 8 changed. -/
def veh8 (f : Vehicle → Vehicle) : State := updVeh 8 f fleetUp

/-- fleetUp with the halt input in a state. -/
def inputs (x : HaltIn) : State := { fleetUp with fleet := { fleetUp.fleet with input := x } }

theorem test_fleet_commands :
    after (.fleetStatus 2) (cmd fleetUp 0x0801 []) (answered2 0 52) = true ∧
    after (.fleetVehicle 2) (cmd fleetUp 0x0802 [8, 0, 0, 0]) (answered2 0 44) = true ∧
    after (.fleetTask 2) (cmd fleetUp 0x0803 (le 4 4095)) (answered2 0 36) = true ∧
    after (.fleetPath 2) (cmd fleetUp 0x0804 [8, 0, 0, 0]) (answered2 0 18) = true ∧
    after (.fleetStats 2) (cmd fleetUp 0x0805 []) (answered2 0 136) = true ∧
    after (.fleetEnable 2) (cmd fleetUp 0x0840 [0, 0, 0, 0]) (fun t => answered2 0 8 t && t.switches.length == 1) = true ∧
    after (.fleetHalt 2 99) (cmd fleetUp 0x0841 (le 8 9 ++ [1, 0, 0, 0])) (fun t => answered2 0 8 t && t.fleet.host == 9 && t.fleet.hostRelay == 9 && leAt (win t 2).rspBuf 8 8 == 1000) = true ∧
    after (.fleetHalt 2 100) (cmd fleetUp 0x0841 (le 8 9 ++ [0, 0, 0, 0])) (fun t => t.fleet.hostRelay == 0 && leAt (win t 2).rspBuf 8 8 == 1001) = true ∧
    after (.fleetRelease 2 50) (cmd { fleetUp with fleet := { fleetUp.fleet with host := 3 } } 0x0842 (le 8 1 ++ [1, 0, 0, 0])) (fun t => answered2 0 4 t && t.fleet.host == 2) = true ∧
    after (.fleetRelease 2 50) (cmd (inputs { active := true, chan := 1 }) 0x0842 (le 8 0 ++ [2, 0, 0, 0])) (answered2 stSTATE 0) = true ∧
    after (.fleetRelease 2 50) (cmd (inputs { active := true }) 0x0842 (le 8 0 ++ [2, 0, 0, 0])) (fun t => answered2 0 4 t && !t.fleet.input.active) = true ∧
    after (.fleetTaskAdd 2) (cmd fleetUp 0x0843 (le 2 4095 ++ [4, 3] ++ le 2 1 ++ le 2 2 ++ le 8 1100 ++ le 8 5)) (fun t => answered2 0 0 t && (task t 4095).used) = true ∧
    after (.fleetTaskCancel 2) (cmd fleetUp 0x0844 (le 4 7)) (fun t => answered2 1 0 t && (task t 7).cancel.isSome) = true ∧
    after (.fleetTaskMove 2) (cmd fleetUp 0x0845 (le 2 7 ++ [8, 0])) (fun t => answered2 1 0 t && (task t 7).move.isSome) = true ∧
    after (.fleetHold 2) (cmd fleetUp 0x0846 [8, 1, 0, 0]) (fun t => answered2 0 8 t && (veh t 8).hostHold) = true := by
  decide +kernel

theorem test_engine_and_hold :
    after .reservationBatchCheck { fleetUp with fleet := { fleetUp.fleet with batch := [{ vehicle := 8, adds := [{ cell := 5, enter := 1010, leave := some 1200 }], removes := [], spec := none }] } }
      (fun t => t.fleet.shadow.isSome && t.fleet.batch == []) = true ∧
    after (.reservationDeadline true) { fleetUp with fleet := { fleetUp.fleet with shadow := some { ops := [.drop 8 1] } } } (fun t => t.fleet.accepted == [.drop 8 1]) = true ∧
    after (.reservationDeadline false) { fleetUp with fleet := { fleetUp.fleet with shadow := some { ops := [.drop 8 1] } } } (fun t => t.fleet.discarded && (missOf t 2).late == 1) = true ∧
    after (.horizonFloor 8) fleetUp (fun t => (veh t 8).held && (veh t 8).causes.getLsbD 0) = true ∧
    after (.vehicleHeldEntry 8) (veh8 fun x => { x with causes := 4 }) (fun t => (veh t 8).held && (veh t 8).since == 1000) = true ∧
    after (.vehicleHeldExit 8) (veh8 fun x => { x with held := true, exit := 3 }) (fun t => !(veh t 8).held) = true ∧
    after (.answerOpportunityMissed 8) fleetUp (fun t => (veh t 8).missed == 1 && (veh t 8).answered) = true := by
  decide +kernel

theorem test_halt_path :
    after .hornFreeze { fleetUp with fleet := { fleetUp.fleet with requestNow := 0xF, host := 1 } } (fun t => t.fleet.requestNow == 0 && t.fleet.horn.tide == 1000) = true ∧
    after (.haltInputChange true false 50) fleetUp (fun t => t.fleet.input.active && t.fleet.input.chan == 2) = true ∧
    after (.haltInputChange true true 50) (inputs { active := true, chan := 3 }) (fun t => t.fleet.input.active && t.fleet.input.chan == 1) = true ∧
    after (.haltDiscrepancyLatch 1) (ranLong (inputs { differ := some (990, 0) })) (fun t => t.fleet.input.disc) = true ∧
    after (.haltInputAutoClear 50) { ranLong (inputs { active := true, runFrom := 900 }) with par := { fleetUp.par with fleet := { fleetUp.par.fleet with latched := false } } } (fun t => !t.fleet.input.active) = true ∧
    after .relayEnergise fleetUp (fun t => t.fleet.relays == 3) = true := by
  decide +kernel

/-- Vehicle 8 was sent a PATH of one entry with sequence number 6. -/
def sentPath : State :=
  let s := veh8 fun x => { x with pathSent := 6, pathTide := 995, sent := [{ seq := 6, entries := [{ cell := 4, enter := 900 }] }] }
  { s with ports := { s.ports with port := [(2, { enabled := true, up := true, speed := 3 })] } }

/-- A datagram of vehicle 8 with seq 3, of a kind and a body. -/
def fromVehicle (kind : Nat) (body : List Byte) (tag : List Byte) : List Byte :=
  let d := le 2 0x9E53 ++ [1, 8] ++ le 4 1000 ++ le 2 3 ++ le 1 kind ++ [0] ++ le 2 body.length ++ [0, 0] ++ body
  d ++ if tag = [] then gcmTag aKey (linkNonce 8 3 (le 4 1000) (le 2 3)) d else tag

theorem test_fleet_link :
    after (.pathSend 8) (veh8 fun x => { x with pathDue := true }) (fun t => !(veh t 8).pathDue && (veh t 8).pathSent == 1) = true ∧
    after (.pathResend 8) sentPath (fun t => (veh t 8).pathSent == 6 && (poolQ t 22).entries.length == 1) = true ∧
    after (.pathAck (fromVehicle 2 (le 2 6 ++ le 2 1 ++ zeros 16) [])) sentPath (fun t => (veh t 8).acked == some 6 && (veh t 8).seqIn == some 3) = true ∧
    after (.pathAck (fromVehicle 2 (le 2 6 ++ le 2 1 ++ zeros 16) (zeros 16))) sentPath (fun t => (veh t 8).acked == none) = true ∧
    after (.taskReport (fromVehicle 4 (le 2 7 ++ [1, 3] ++ zeros 4 ++ le 4 600) [])) fleetUp (fun t => (task t 7).st == 3) = true ∧
    (task fleetUp 7).vehicle ≠ 9 := by
  decide +kernel

/-- Cells 4 and 5 conflict; vehicle 8 holds cell 4 and vehicle 9 holds cell 6. -/
def apart : State :=
  { fleetUp with
    par := { fleetUp.par with fleet := { fleetUp.par.fleet with cells := [(4, { conflicts := [5] }), (5, { conflicts := [4] })] } }
    fleet := { fleetUp.fleet with held := [(8, [{ cell := 4, enter := 900 }]), (9, [{ cell := 6, enter := 900 }])] } }

theorem test_vehicles_apart :
    (∀ a b, (conflictSet apart a).contains b = (conflictSet apart b).contains a) ∧ twf [] apart.fleet.held = true ∧
    ∀ u v, u ≠ v → ∀ x ∈ heldOf apart.fleet.held u, ∀ y ∈ heldOf apart.fleet.held v, conflict apart (gapNow apart) x y = false := by
  refine ⟨fun a b => ?_, by decide +kernel, fun u v h x hx y hy => ?_⟩
  · have c : ∀ i, (tget ({} : CellCfg) apart.par.fleet.cells i).conflicts = if i = 4 then [5] else if i = 5 then [4] else [] := by
      intro i; simp only [apart, tget]; by_cases h4 : 4 = i <;> by_cases h5 : 5 = i <;> simp_all [eq_comm]
    simp only [conflictSet, c]; split_ifs <;> simp_all <;> omega
  · simp only [heldOf, apart, tget] at hx hy
    have c4 : conflictSet apart 4 = [4, 5] := by decide +kernel
    have c6 : conflictSet apart 6 = [6] := by decide +kernel
    split_ifs at hx hy <;> simp_all [conflict]

/-! ## Quay bus -/

/-- A transmit entry. -/
def canTx : QbEntry := { id := 5, data := [1, 2], owner := (2, 5) }

/-- Channel 1 takes part with one entry to send; channel 3 is set for claims. -/
def bus (st : Nat) : State :=
  { up with
    par := { up.par with quay := [(1, { enabled := true, filters := [(0, { formats := 63, action := 1, enable := true })] }), (3, { enabled := true, claims := true, claimId := 9 })] }
    quay := { up.quay with ch := [(1, { st, tec := 128, rxc := 130, queue := [canTx, { canTx with owner := (3, 8) }] }), (3, { st := 1 })] } }

/-- A received base frame. -/
def canRx (err : Option CanError) : CanFrame := { format := 0, flags := 0, id := 5, sdt := 0, vcid := 0, af := 0, sofNs := 7, data := [1], err, dataPhase := false, dominant := false }

/-- A QBUS_SEND of one base frame of 2 bytes. -/
def sendOne : List Byte := [1, 1, 0, 0] ++ [1, 0] ++ le 2 0 ++ le 4 0x7FF ++ le 2 2 ++ zeros 14 ++ [9, 8]

theorem test_quay_commands :
    after (.qbusStatus 2) (cmd (bus 1) 0x0B01 []) (answered2 0 48) = true ∧
    after (.qbusStats 2) (cmd (bus 1) 0x0B02 [3, 0, 0, 0]) (answered2 0 136) = true ∧
    after (.qbusSend 2) (cmd (bus 1) 0x0B40 sendOne) (fun t => answered2 0 4 t && (qch t 1).queue.length == 3 && (qch t 1).seq == 1) = true ∧
    after (.qbusEnable 2) (cmd (bus 1) 0x0B41 [1, 0, 0, 0]) (fun t => answered2 0 8 t && t.switches.length == 1) = true ∧
    after (.qbusFilterSet 2) (cmd (bus 1) 0x0B42 ([3, 255, 0, 0] ++ [31, 1, 15, 1] ++ le 4 0x1FFFFFFF ++ zeros 12)) (fun t => answered2 0 8 t && t.changes.length == 1) = true ∧
    after (.qbusFlush 2) (cmd (bus 1) 0x0B43 [1, 0, 0, 0]) (fun t => answered2 0 4 t && (qch t 1).queue.length == 1) = true := by
  decide +kernel

/-- Channel 1 retries twice, and its one entry has. -/
def atLimit (s : State) : State :=
  { updQch 1 (fun x => { x with queue := [{ canTx with retries := 2 }] }) s with
    par := { s.par with quay := s.par.quay.map fun c => (c.1, { c.2 with retryLimit := 2 }) } }

theorem test_quay_channels :
    after (.busIntegration 1) (bus 4) (fun t => (qch t 1).st == 2) = true ∧
    after (.busOffRecovery 1) (bus 3) (fun t => (qch t 1).st == 1 && (qch t 1).tec == 0) = true ∧
    after (.qbusTxAttempt 1 0 .sent) (bus 2) (fun t => t.out.contains (.can 1 0 0 5 0 0 0 [1, 2]) && (qch t 1).tec == 127 && (qch t 1).queue.length == 1) = true ∧
    after (.qbusTxAttempt 1 0 .arbLost) (bus 2) (fun t => t.out == [] && (qch t 1).queue.length == 2) = true ∧
    after (.qbusTxAttempt 1 0 (.error .ack false false)) (bus 2) (fun t => (qch t 1).tec == 128) = true ∧
    after (.qbusTxAttempt 1 0 (.error .bit false false)) (bus 2) (fun t => (qch t 1).tec == 136) = true ∧
    after (.qbusTxAttempt 1 0 (.error .bit false false)) (atLimit (bus 2)) (fun t => (qch t 1).queue == []) = true ∧
    after (.qbusFrameRx 1 (canRx (some .crc))) (bus 2) (fun t => (qch t 1).rxc == 130 && tget 0 (stat t 32).total 12 == 0) = true ∧
    firstFilter (bus 2) 1 (canRx none) = some { formats := 63, action := 1, enable := true } ∧
    after .claimFrameSend (bus 1) (fun t => (qch t 3).express.isSome) = true := by
  decide +kernel

/-- A host express frame on channel 1. -/
def express (held : Option QbEntry) : State := updQch 1 (fun x => { x with express := held }) (cmd (bus 1) 0x0B40 ([1, 1, 0, 0] ++ [1, 0] ++ le 2 0 ++ le 4 5 ++ le 2 2 ++ zeros 6 ++ [2, 0] ++ zeros 6 ++ [9, 8]))

theorem test_express_slot :
    after (.qbusSend 2) (express none) (fun t => answered2 0 4 t && ((qch t 1).express.map (·.data)) == some [9, 8]) = true ∧
    after (.qbusSend 2) (express (some canTx)) (fun t => answered2 stBUSY 0 t && ((qch t 1).express.map (·.data)) == some [1, 2]) = true := by
  decide +kernel

/-! ## Feeder metering -/

/-- The meters run. -/
def metering (f : Meter → Meter) : State := { up with meter := f { up.meter with on := true } }

theorem test_meter_commands :
    after (.mtrStatus 2) (cmd (metering id) 0x0C01 []) (answered2 0 60) = true ∧
    after (.mtrPoint 2) (cmd (metering id) 0x0C02 [11, 0, 0, 0]) (answered2 0 80) = true ∧
    after (.mtrInterval 2) (cmd (metering id) 0x0C03 []) (answered2 0 896) = true ∧
    after (.mtrBatteryLog 2) (cmd (metering fun m => { m with log := [zeros 32, zeros 32] }) 0x0C04 [1, 0, 100, 0]) (answered2 0 36) = true ∧
    after (.mtrPointEnable 2) (cmd (metering id) 0x0C40 [11, 1, 0, 0]) (fun t => answered2 0 8 t && t.switches.length == 1) = true ∧
    after (.mtrPulseSet 2) (cmd (metering id) 0x0C41 ([3, 0xFF, 0, 2] ++ le 4 1000)) (fun t => answered2 0 8 t && t.changes.length == 1) = true ∧
    after (.mtrSave 2) (cmd (metering id) 0x0C42 []) (fun t => answered2 1 0 t && t.meter.ask.isSome) = true ∧
    after (.mtrBatteryLogClear 2) (cmd (metering fun m => { m with log := [zeros 32] }) 0x0C43 []) (fun t => answered2 0 4 t && t.meter.log == []) = true := by
  decide +kernel

theorem test_sample_frames :
    ((metering id).meter.on && (metering id).meter.expected == none) = true ∧
    after .mf9FrameTimeout (metering fun m => { m with badRun := 31 }) (fun t => t.meter.badRun == 32 && t.meter.gapSamples == 1) = true ∧
    after .linkGapStart (metering fun m => { m with badRun := 32 }) (fun t => t.meter.gap && t.meter.linkGaps == 1) = true ∧
    after .linkGapEnd (metering fun m => { m with gap := true, goodRun := 64 }) (fun t => !t.meter.gap) = true ∧
    after (.noCrossingEntry 5) (metering fun m => { m with n := 1280 }) (fun t => (vchan t 5).dead && (vchan t 5).winStart == 1280) = true ∧
    after (.noCrossingWindow 5) (metering fun m => { m with n := 640, volts := [(5, { dead := true })] }) (fun t => (vchan t 5).winStart == 640) = true := by
  decide +kernel

/-- Output 3 with pulses due or kept back. -/
def pulsing (x : POut) : State := metering fun m => { m with n := 5000, outs := [(3, x)] }

theorem test_pulses_and_saves :
    after (.pulseEmit 3) (pulsing { due := 1 }) (fun t => t.out == [.pulse 3 2] && (pout t 3).edge == some 5000) = true ∧
    after (.pulseEmit 3) (pulsing { due := 1, edge := some 4999 }) (fun t => (pout t 3).backlog == 1) = true ∧
    after (.pulseBacklogEmit 3) (pulsing { backlog := 1 }) (fun t => t.out.contains (.pulse 3 2) && (pout t 3).backlog == 0) = true ∧
    after .meteringSave { metering (fun m => { m with copyA := some { seq := 4 } }) with clk := { up.clk with tide := 6000 } }
      (fun t => (t.meter.writing.map fun x => (x.1, x.2.1.seq)) == some (1, 5)) = true ∧
    after .meteringSave (metering fun m => { m with ask := some ({}, 6) }) (fun t => (t.meter.writing.map (·.2.1.kind)) == some 2) = true ∧
    after .meteringSaveComplete (metering fun m => { m with writing := some (1, { seq := 5 }, none) }) (fun t => t.meter.saves == 1 && t.meter.copyB == some { seq := 5 }) = true ∧
    after .powerFailSaveRepeat { metering id with pr := { up.pr with powerFail := true } } (fun t => (t.meter.writing.map (·.2.1.kind)) == some 1) = true ∧
    after (.batteryBurst false [7]) { metering (fun m => { m with mainOff := true }) with sys := { up.sys with kind := 0 } } (fun t => (t.meter.run.map (·.seconds)) == some 1) = true ∧
    after (.batteryBurst true [9]) { metering (fun m => { m with mainOff := true, run := some { seconds := 3 } }) with sys := { up.sys with kind := 0 } } (fun t => t.meter.run.isNone) = true := by
  decide +kernel

/-! ## Lamp strings and signs -/

/-- Lamp port 7 with 32 lamps; sign 0 of 4 by 2 pixels free running, sign 1 of 2 by 2 pixels locked to sync. -/
def shows : State :=
  { pooled [] {} with
    par := { up.par with lampSign := { up.par.lampSign with lamps := [(7, { lamps := 32 })], signs := [(0, { width := 4, height := 2 }), (1, { width := 2, height := 2, mode := 1 })] } } }

/-- shows with sign port p changed. -/
def onSign (p : Nat) (f : SignPort → SignPort) : State := updSign p f shows

/-- shows with lamp port 7 changed. -/
def onLamp (f : LampPort → LampPort) : State := updLport 7 f shows

theorem test_lamp_sign_commands :
    after (.lampStatus 2) (cmd shows 0x0D01 [7, 0, 0, 0]) (answered2 0 136) = true ∧
    after (.signStatus 2) (cmd shows 0x0D02 []) (answered2 0 32) = true ∧
    after (.lampSignStats 2) (cmd shows 0x0D03 []) (answered2 0 112) = true ∧
    after (.lampLevel 2) (cmd shows 0x0D40 ([7, 0, 0, 0] ++ le 4 0xFFFFFFFF ++ le 2 1000 ++ [0, 0] ++ le 8 0)) (fun t => answered2 0 8 t && t.changes.length == 1) = true ∧
    after (.lampFaultClear 2) (cmd (onLamp fun x => { x with lamps := [(3, { st := 1 })] }) 0x0D41 ([7, 0, 0, 0] ++ le 4 0xFF)) (fun t => answered2 0 4 t && u32 (win t 2).rspBuf 8 == 8) = true ∧
    after (.lampEnable 2) (cmd shows 0x0D42 [7, 0, 0, 0]) (fun t => answered2 0 8 t && t.switches.length == 1) = true ∧
    after (.signWrite 2) (cmd shows 0x0D43 ([0, 0, 0, 0] ++ le 2 3 ++ le 2 1 ++ le 2 1 ++ le 2 1 ++ [1, 2, 3, 4, 5, 6])) (fun t => answered2 0 0 t && t.lampSign.mem != []) = true ∧
    after (.signSwap 2 9001) (cmd shows 0x0D44 ([3, 1, 0, 0] ++ le 8 0)) (fun t => answered2 1 8 t && ((gport t 1).swap.map (·.tide)) == some 1002) = true ∧
    after (.signSwap 2 9000) (cmd shows 0x0D44 ([3, 1, 0, 0] ++ le 8 0)) (fun t => ((gport t 1).swap.map (·.tide)) == some 1001) = true ∧
    after (.signStream 2) (cmd shows 0x0D45 [3, 1, 0, 0]) (fun t => answered2 0 0 t && t.lampSign.streams == [3]) = true ∧
    after (.signEnable 2) (cmd shows 0x0D46 [1, 1, 0, 0]) (fun t => answered2 0 8 t && t.switches.length == 1) = true ∧
    after (.signBrightness 2) (cmd shows 0x0D47 ([1, 0] ++ le 2 1000 ++ le 8 0)) (fun t => answered2 0 8 t && t.changes.length == 1) = true := by
  decide +kernel

/-- R49: a swap request for the next edge at 9,001 µs. -/
theorem test_late_swap :
    (win (cmd shows 0x0D44 ([1, 0, 0, 0] ++ le 8 0)) 2).busy = true ∧
    after (.signSwap 2 9001) (cmd shows 0x0D44 ([1, 0, 0, 0] ++ le 8 0)) (fun t => ((gport t 0).swap.map (·.tide)) == some 1002) = true := by
  decide +kernel

/-- A status frame of slot 4 in its CRC. -/
def lampStatusBytes : List Byte := let b := [0xC3, 4, 0, 1, 2, 3, 4, 5, 6, 7, 8]; b ++ [crc8 b]

/-- The state after the tide's status record of port 7 was collected. -/
def collected (s : State) : State := nextOf (execLampStatusCollect 7 s) s

theorem test_lamp_strings :
    after (.lampSlotFrame 7) shows (fun t => t.out.length == 1 && (lport t 7).slot == 1) = true ∧
    after (.lampSlotFrame 7) (onLamp fun x => { x with slot := 1000 }) (fun t => (lport t 7).slot == 1000) = true ∧
    after (.lampStatusFrame 7 lampStatusBytes) shows (fun t => tget [] (lport t 7).seen 4 == [1, 2, 3, 4, 5, 6, 7, 8]) = true ∧
    after (.lampStatusFrame 7 (lampStatusBytes.drop 1)) shows (fun t => (lport t 7).seen == []) = true ∧
    after (.lampStatusCollect 7) shows (fun t => (poolQ t 229).entries.length ≤ 1) = true ∧
    after (.lampFaultEval 7) (onLamp fun x => { x with missed := 2 }) (fun t => (lport t 7).lost && (lport t 7).missed == 3) = true ∧
    after (.lampFaultEval 7) (collected (onLamp fun x => { x with seen := [(2, [0, 0, 2])] })) (fun t => (lampOf t 7 0).st == 1) = true := by
  decide +kernel

theorem test_sign_frames :
    after (.signFrameStart 0) shows (fun t => t.out.length == 1) = true ∧
    after (.signFrameStart 1) (onSign 1 fun x => { x with due := some 500, swap := some { tide := 999, armed := true } }) (fun t => (gport t 1).front == 1 && (gport t 1).swap == none) = true ∧
    after (.signSyncEdge 40) shows (fun t => (gport t 1).due == some (instant shows 60)) = true ∧
    after (.signSyncTimeout 1) shows (fun t => (gport t 1).fellBack) = true ∧
    after (.signSwapEdge 0) (onSign 0 fun x => { x with swap := some { tide := 1000, copy := true } }) (fun t => (gport t 0).front == 1 && (gport t 0).copying) = true ∧
    after (.signSwapEdge 0) (onSign 0 fun x => { x with swap := some { tide := 1000, notBefore := 8 } }) (fun t => (gport t 0).front == 0 && (gport t 0).swap.isSome) = true ∧
    after (.signSwapEdge 1) (onSign 1 fun x => { x with swap := some { tide := 1000 } }) (fun t => ((gport t 1).swap.map (·.armed)) == some true) = true ∧
    after (.swapCopyComplete 0) (onSign 0 fun x => { x with copying := true }) (fun t => !(gport t 0).copying) = true := by
  decide +kernel

/-! ## Power feeds, pilot and tender -/

/-- A module of a pair in a role, unit 1, term 5. -/
def paired (tender : Bool) (f : Pr → Pr) : State :=
  { up with sys := { up.sys with tender }, par := { up.par with pr := { pair := true, unit := 1, twinKey := aKey } }, pr := f { up.pr with term := 5, up := true } }

theorem test_redundancy_commands :
    after (.prStatus 2) (cmd (paired false id) 0x0E01 []) (answered2 0 48) = true ∧
    after (.prHealth 2) (cmd (paired false fun p => { p with report := zeros 28 }) 0x0E02 []) (answered2 0 28) = true ∧
    after (.prCheckpoints 2) (cmd (paired true fun p => { p with stored := [{}] }) 0x0E03 []) (answered2 0 28) = true ∧
    after (.prThermalStatus 2) (cmd (paired false id) 0x0E04 []) (answered2 0 4) = true ∧
    after (.prSwitchover 2) (cmd (paired false id) 0x0E40 (le 8 1200)) (fun t => answered2 1 8 t && t.pr.handover.isSome && t.pr.ckptSeq == 1) = true ∧
    after (.prTermSet 2) (cmd (paired false id) 0x0E41 (le 2 16383 ++ [0, 0] ++ le 8 1100)) (fun t => answered2 0 8 t && t.pr.termSet == some (16383, 1100)) = true ∧
    after (.prRehearse 2) (cmd (paired true id) 0x0E42 []) (fun t => answered2 1 0 t && t.pr.rehearseAsk.isSome) = true := by
  decide +kernel

/-- A claim frame of unit 2 with term 6, as pilot. -/
def twinFrame : List Byte :=
  let b := [6, 0] ++ le 2 26 ++ le 4 1000 ++ le 2 0 ++ [0, 1] ++ zeros 16
  b ++ twinTag (paired false id) 1000 0 6 b

/-- A health report of unit 0. -/
def healthFrame : List Byte :=
  let b := [8, 0] ++ le 2 0 ++ le 4 1000 ++ zeros 20
  b ++ twinTag (paired false id) 1000 0 8 b

/-- A tender with part of a checkpoint. -/
def receiving (n : Nat) : State := paired true fun p => { p with rx := some { head := { seq := 3, len := 2 }, data := zeros n } }

/-- The trailer of the checkpoint that arrives: its digest and tag. -/
def goodTrailer : CkptBlock :=
  let c : Ckpt := { seq := 3, len := 2 }
  let dg := sha256 (ckptHead c ++ zeros 2)
  .trailer dg (ckptTag (receiving 2) c dg)

theorem test_feeds_and_partner :
    (feedOf (paired false fun p => { p with feeds := [(1, { st := 3, below := 1000, mv := 60999 })] }) 1).below = 1000 ∧
    after (.claimLineSample true) up (fun t => t.pr.alive && t.pr.line) = true ∧
    (hear 24 9 (paired false id)).1 = false ∧ (hear 26 9 (paired false id)).1 = true ∧
    (let t := twinClaimF twinFrame (paired false id); t.pr.demote == some 6 && t.pr.partner == 26) = true ∧
    (let t := twinClaimF (twinFrame.take 28 ++ zeros 16) (paired false id); t.pr.rejected == 1) = true ∧
    after .twinLinkSyncLoss (paired false id) (fun t => !t.pr.up) = true ∧
    after .twinLinkTimeout (paired false fun p => { p with lastTwin := 4 }) (fun t => !t.pr.up) = true ∧
    after .checkpointStart (paired false id) (fun t => (t.pr.sending.map (·.tide)) == some 1000) = true ∧
    (let t := ckptRx (.header 3 990 2 0 0 1) (paired true id); t.pr.rx.isSome) = true ∧
    (let t := ckptRx (.block 0 (crc32c [1, 2]) [1, 2]) (receiving 0); (t.pr.rx.map (·.data)) == some [1, 2]) = true ∧
    (let t := ckptRx (.block 0 (crc32c [1, 2] + 1) [1, 2]) (receiving 0); t.pr.rx.isNone) = true ∧
    (twinTagOk (paired false id) 1 healthFrame && ctrlFits 114 1 (paired true id) && ctrlFits 115 (berths 65544) (receiving 0) && (testsOf (paired true id)).toNat < 65536) = true ∧
    (let t := healthRx healthFrame (paired false id); t.pr.reportRan == 7) = true ∧
    after .healthReportTimeout (ranLong (paired false fun p => { p with reportRan := 700 })) (fun t => t.pr.overdue) = true ∧
    after .rehearsalStart { paired true id with clk := { up.clk with tide := 360000 } } (fun t => t.pr.rehearsal == some (360000, none)) = true ∧
    after (.rehearsalComplete true 40) (paired true fun p => { p with rehearsal := some (9, none) }) (fun t => t.pr.rehearsed == some (true, 40, 7)) = true ∧
    after .termSetEdge (paired false fun p => { p with termSet := some (3, 1000) }) (fun t => t.pr.term == 3 && t.pr.termHalt == some 17) = true ∧
    after .termHaltExpiry (paired false fun p => { p with termHalt := some 7 }) (fun t => t.pr.termHalt.isNone) = true := by
  decide +kernel

/-- The trailer that completes the checkpoint carries the digest of its bytes and their tag. -/
theorem test_checkpoint_trailer :
    (receiving 2).pr.rx = some { head := { seq := 3, len := 2 }, data := zeros 2 } ∧
    goodTrailer = .trailer (sha256 (ckptHead { seq := 3, len := 2 } ++ zeros 2))
      (ckptTag (receiving 2) { seq := 3, len := 2 } (sha256 (ckptHead { seq := 3, len := 2 } ++ zeros 2))) := ⟨rfl, rfl⟩

theorem test_role_changes :
    (mayTakeOver (paired true fun p => { p with silent := 5 }) && pairMode (paired true id)) = true ∧
    after .takeover (paired true fun p => { p with silent := 4 }) (fun t => t.sys.tender) = true ∧
    (pairMode (paired false id) && !(paired false id).sys.tender) = true ∧
    after .roleStart { up with sys := { up.sys with tender := true, roleDue := true } } (fun t => !t.sys.tender) = true := by
  decide +kernel

/-! ## Firmware and package update -/

/-- The update service in a state, owned by window 2's session, with 4 of 8 bytes loaded. -/
def loaded (st : Nat) (f : Upd → Upd) : State := { up with upd := f { up.upd with st, owner := some (2, 5), total := 8, held := [1, 2, 3, 4] } }

/-- A firmware package's held bytes: the kind at byte 16. -/
def fwHeld : List Byte := zeros 16 ++ [1] ++ zeros 47

def img : NodeImage := { id := 9, cls := 1, version := 3, data := zeros 20 }

theorem test_update_commands :
    after (.updStatus 2) (cmd (loaded 1 id) 0x0F01 []) (answered2 0 52) = true ∧
    after (.updManifest 2) (cmd (loaded 0 fun u => { u with slots := [(1, .set (zeros 64) [zeros 96] [])] }) 0x0F02 [2, 0, 0, 0]) (answered2 0 144) = true ∧
    after (.updImages 2) (cmd (loaded 0 fun u => { u with images := [img] }) 0x0F03 [0, 0, 0, 0]) (answered2 0 20) = true ∧
    after (.updCampaignStatus 2) (cmd (loaded 0 id) 0x0F04 [3, 0, 0, 0]) (answered2 0 34) = true ∧
    after (.updCampaignNode 2) (cmd (loaded 0 id) 0x0F05 (le 4 4095)) (answered2 0 16) = true ∧
    after (.updLoadBegin 2) (cmd (loaded 0 id) 0x0F40 (le 8 2000)) (fun t => answered2 0 0 t && t.upd.st == 1 && t.upd.total == 2000) = true ∧
    after (.updLoadData 2) (cmd (loaded 1 id) 0x0F41 (le 8 4 ++ le 2 1 ++ le 2 0 ++ [5])) (fun t => answered2 0 8 t && t.upd.held == [1, 2, 3, 4, 5]) = true ∧
    after (.updLoadEnd 2) (cmd (loaded 1 fun u => { u with total := 4 }) 0x0F42 []) (fun t => answered2 1 0 t && t.upd.st == 2) = true ∧
    after (.updCancel 2) (cmd (loaded 1 id) 0x0F43 []) (fun t => answered2 0 0 t && t.upd.held == [] && t.upd.st == 0) = true ∧
    ((loaded 5 fun u => { u with sched := some { tide := 1002 } }).upd.sched.map (·.tide)) = some 1002 ∧
    after (.updCancel 2) (cmd { loaded 6 id with boot := { up.boot with trial := true } } 0x0F43 []) (fun t => t.sys.kind == 7 && t.sys.modState == 0) = true ∧
    after (.updActivate 2) (cmd (loaded 4 id) 0x0F44 (le 8 1100 ++ [1, 0, 0, 0])) (fun t => answered2 1 8 t && t.upd.st == 5) = true ∧
    after (.updActivate 2) (cmd (loaded 4 id) 0x0F44 (le 8 1099 ++ [1, 0, 0, 0])) (answered2 stLATE 0) = true ∧
    after (.updRollback 2) (cmd (loaded 0 fun u => { u with slots := [(1, .set (zeros 64) [] [])] }) 0x0F46 (le 8 1100 ++ [0, 0, 0, 0])) (fun t => answered2 1 8 t && t.upd.st == 5) = true ∧
    after (.updConfirm 2) (cmd (loaded 6 fun u => { u with trial := some { mode := 1, ready := true } }) 0x0F45 []) (fun t => answered2 0 0 t && (t.upd.trial.map (·.asked)) == some true) = true ∧
    after (.updInstall 2) (cmd (loaded 0 fun u => { u with verified := true, held := fwHeld }) 0x0F47 []) (fun t => answered2 1 0 t && t.upd.st == 3) = true ∧
    after (.updCampaignStart 2) (cmd (loaded 0 fun u => { u with images := [img] }) 0x0F48 ([3, 0] ++ le 2 9 ++ [0, 1] ++ le 2 1 ++ [100, 0, 0, 0] ++ le 8 0 ++ zeros 4)) (fun t => answered2 0 0 t && (camp t 3).image == 9) = true ∧
    after (.updCampaignStop 2) (cmd campaigning 0x0F49 [0, 0, 0, 0]) (fun t => answered2 0 0 t && (camp t 0).st == 5) = true ∧
    after (.updImageDelete 2) (cmd (loaded 0 fun u => { u with images := [img] }) 0x0F4A (le 4 9)) (fun t => answered2 0 0 t && t.upd.images == []) = true := by
  decide +kernel

theorem test_update_runs :
    ((loaded 2 id).upd.st == 2 && (loaded 3 id).boot.activeArea == 0 && up.cfg.cur == pickRecord up && slotOf up .pending == none) = true ∧
    after .trialWindowExpiry { loaded 6 (fun u => { u with trial := some { start := 900 } }) with boot := { up.boot with trial := true }, clk := { up.clk with tide := 30900, ran := 30000 } } (fun t => t.sys.kind == 7 && !t.boot.trial) = true ∧
    after (.fwActivateResend 5) { campaigning with upd := { campaigning.upd with nodes := [(5, { campaign := 0, st := 2, sends := 1, at_ := 950 })] } } (fun t => (cnode t 5).at_ == 1150 && (cnode t 5).sends == 2) = true ∧
    after (.fwActivateResend 5) { campaigning with upd := { campaigning.upd with nodes := [(5, { campaign := 0, st := 2, sends := 3, at_ := 950 })] } } (fun t => (cnode t 5).st == 5) = true := by
  decide +kernel

/-! ## Pins and temperature -/

/-- Pin 0 is an input with its rising edges taken; pin 15 is an output. -/
def pins : State := { up with par := { up.par with gpio := [(0, { edges := 1 }), (15, { mode := 1 })] } }

theorem test_pins_and_temperature :
    after (.sysGpio 2) (cmd pins 0x1103 []) (answered2 0 8) = true ∧
    after (.sysGpioSet 2) (cmd pins 0x1141 (le 2 0x8000 ++ le 2 0x8000 ++ le 8 0)) (fun t => answered2 0 8 t && t.changes.length == 1) = true ∧
    after (.gpioInputEdge 0 true 40) pins (fun t => t.gpio.levels == 1 && (tget ({} : GpioEdge) t.gpio.edges 0).count == 1) = true ∧
    after (.gpioInputEdge 15 true 40) pins (fun t => t.gpio.levels == 0x8000 && (tget ({} : GpioEdge) t.gpio.edges 15).count == 0) = true ∧
    (pins.clk.tide % 100 = 0 ∧ pins.pr.level = 0) ∧ thermalEntry 1 < thermalEntry 2 := by
  decide +kernel

/-! ## The application cluster, deadlines, intervals and edges -/

/-- up with another cluster. -/
def clustered (c : Cluster) : State := { up with cluster := c }

/-- The next edge of pilot `up` in deadline and statistics terms: 600 edges after the tide counters started. -/
def judged (f : State → State) : State := f { up with clk := { up.clk with tide := 6000, ran := 6000 } }

theorem test_cluster :
    after .clusterHeartbeat up (fun t => t.cluster.beat) = true ∧
    after .clusterHeartbeat (clustered { st := 1 }) (fun t => t.cluster.st == 2) = true ∧
    after .clusterFault up (fun t => t.cluster.fault) = true ∧
    ((clustered { st := 2, missing := 3 }).cluster.st != 0) = true ∧
    (clustered { st := 1, restoring := true }).cfg.waiting = [] ∧
    after .clusterTideWorkStart { up with fleet := { up.fleet with returned := [(1, 2)] } } (fun t => t.fleet.returned == []) = true ∧
    after (.clusterResult (.lantern [bcast] []) 1 256 7000) up (fun t => t.radio.next == [bcast]) = true ∧
    after (.clusterResult (.lantern [bcast] []) 1 256 7001) up (fun t => t.radio.next == [] && (missOf t 1).late == 1) = true ∧
    after (.clusterResult (.reservations [] [(8, { x := 1, clear := false, body := [] })]) 1 256 7000) fleetUp (fun t => t.lantern.cond.length == 1) = true ∧
    after (.clusterResult (.reservations [] [(8, { x := 1, clear := false, body := [] })]) 1 256 7001) fleetUp (fun t => t.lantern.cond == [] && (missOf t 2).late == 1) = true ∧
    after (.clusterResult (.release 5) 1 8 9000) (veh8 fun x => { x with hornClaim := 1 }) (fun t => t.fleet.request == 5) = true ∧
    after (.clusterResult (.release 5) 1 8 9000) fleetUp (fun t => t.fleet.request == 4) = true ∧
    after (.clusterResult (.release 5) 1 8 9001) fleetUp (fun t => t.fleet.request == 0 && (missOf t 3).late == 1) = true ∧
    after (.clusterResult (.checkpoint [1, 2]) 1 2 50) (paired false fun p => { p with sending := some { seq := 4 } }) (fun t => t.pr.sending.isNone && (t.pr.last.map (·.len)) == some 2) = true := by
  decide +kernel

/-- Deadlines 5 to 7 fall due; a checkpoint began 100 tides ago. -/
def due : State :=
  { paired false (fun p => { p with sending := some { tide := 900 } }) with clk := { up.clk with misses := [(5, { due := true, late := 1, run := 3 }), (6, { due := true }), (7, { due := true })] } }

theorem test_deadlines :
    (List.range 9).map (fun f => judgeDue f up) = [false, true, true, true, true, false, false, false, false] ∧
    (List.range 9).map (fun f => judgeDue f due) = [false, true, true, true, true, true, true, true, false] ∧
    after (.deadlineJudge 5) due (fun t => (missOf t 5).run == 4 && (missOf t 5).late == 0) = true ∧
    after (.deadlineJudge 1) due (fun t => (missOf t 1).run == 0 && (missOf t 1).judged == some 7) = true ∧
    after (.deadlineJudge 4) (clustered { st := 2, missing := 1 }) (fun t => (missOf t 4).run == 1) = true ∧
    after (.deadlineJudge 7) due (fun t => (missOf t 7).run == 1 && t.pr.sending.isNone) = true := by
  decide +kernel

theorem test_interval_latch :
    statDue (judged fun s => { s with stats := [(35, { on := true, startRan := 0, ctr := [(2, 7)] })] }) 35 = true ∧
    statDue (judged fun s => { s with stats := [(35, { on := true, startRan := 6000 })] }) 35 = false ∧
    after (.statsLatch 35) (judged fun s => { s with stats := [(35, { on := true, startRan := 0, ctr := [(2, 7)] })] })
      (fun t => (stat t 35).endTide == 6000 && (stat t 35).snapCtr == [(2, 7)] && (stat t 35).ctr == []) = true := by
  decide +kernel

/-- A state with one accepted stop or start of a function at this edge. -/
def switching (f : Fn) (start : Bool) (s : State) : State := { s with switches := [{ fn := f, start, tide := 1000 }] }

theorem test_functions_stop :
    after (.functionStopEdge (.radio 1)) (switching (.radio 1) false onRadio) (fun t => t.radio.disabled == 2 && t.switches.isEmpty) = true ∧
    after (.functionStopEdge .fleet) (switching .fleet false fleetUp) (fun t => !t.fleet.on) = true ∧
    (switchAt (switching .reference false (station 3)) .reference false).isSome = true ∧
    after (.functionStopEdge .bowWave) (switching .bowWave false lit) (fun t => t.lantern.bowOff) = true ∧
    after (.functionStopEdge (.port 2)) (switching (.port 2) false wired) (fun t => !(portOf t 2).enabled) = true ∧
    after (.functionStopEdge (.quay 1)) (switching (.quay 1) false (bus 1)) (fun t => (qch t 1).st == 0) = true ∧
    after (.functionStopEdge (.queueWindow 3)) (switching (.queueWindow 3) false (pooled [] {})) (fun t => qwinOf t 3 == {}) = true ∧
    after (.functionStopEdge (.lighter 1)) (switching (.lighter 1) false (pooled [] {})) (fun t => ltOf t 1 == {}) = true ∧
    after (.functionStopEdge (.lamp 7)) (switching (.lamp 7) false shows) (fun t => (lport t 7).off) = true ∧
    after (.functionStopEdge (.sign 1)) (switching (.sign 1) false shows) (fun t => (gport t 1).off) = true ∧
    after (.functionStopEdge (.meterPoint 3)) (switching (.meterPoint 3) false (metering id)) (fun t => !pointOn t 3) = true := by
  decide +kernel

theorem test_functions_start :
    after (.functionStartEdge (.radio 1)) (switching (.radio 1) true { onRadio with radio := { onRadio.radio with disabled := 2 } }) (fun t => t.radio.disabled == 0) = true ∧
    after (.functionStartEdge .fleet) (switching .fleet true onRadio) (fun t => t.fleet.on) = true ∧
    after (.functionStartEdge .bowWave) (switching .bowWave true { lit with lantern := { lit.lantern with bowOff := true } }) (fun t => !t.lantern.bowOff) = true ∧
    after (.functionStartEdge (.quay 1)) (switching (.quay 1) true (bus 0)) (fun t => (qch t 1).st == 4) = true ∧
    after (.functionStartEdge (.lamp 7)) (switching (.lamp 7) true (onLamp fun x => { x with off := true })) (fun t => !(lport t 7).off) = true ∧
    after (.functionStartEdge (.sign 1)) (switching (.sign 1) true (onSign 1 fun x => { x with off := true })) (fun t => !(gport t 1).off) = true ∧
    after (.functionStartEdge (.sign 1)) up (fun t => t.switches.isEmpty) = true := by
  decide +kernel

theorem test_changes_and_moves :
    after .changeApplyEdge { shows with changes := [{ tide := 1000, setting := .signBright 1 70 }, { tide := 1001, setting := .signBright 0 9 }] }
      (fun t => (gport t 1).brightness == some 70 && t.changes.length == 1) = true ∧
    after (.placementMoveEdge (.node 5)) { lit with lantern := { lit.lantern with nodes := [(5, { st := 2, move := some { x := 7, fromTide := 1000, acked := true } })] } }
      (fun t => (link t 5).x == 7 && (link t 5).epoch == 4 && (lnode t 5).placed == 1000) = true ∧
    after (.placementMoveEdge (.node 5)) { lit with lantern := { lit.lantern with nodes := [(5, { st := 2, move := some { x := 7, fromTide := 1000 } })] } }
      (fun t => (link t 5).x == 1 && ((lnode t 5).move.map (·.tries)) == some 2) = true ∧
    after (.placementMoveEdge (.signal 0)) { tracking with gnss := { tracking.gnss with moves := [{ src := 0, dst := 191, tide := 1000 }] } }
      (fun t => (chanOf t 191).st == 2 && (chanOf t 191).epoch == 1 && (chanOf t 0).movedTo == some 191) = true ∧
    after (.placementMoveEdge (.task 7)) { fleetUp with fleet := { fleetUp.fleet with tasks := [(7, { used := true, st := 1, vehicle := 9, epoch := 1, move := some { vehicle := 8, tide := 1000 } })] } }
      (fun t => (task t 7).vehicle == 8 && (task t 7).epoch == 2) = true := by
  decide +kernel

/-! ## Refusals, and what every step keeps -/

theorem test_commands_refused :
    mailbox (.lantRemove 2) = some (2, 0x0545) ∧ onCluster (.lantRemove 2) = true ∧ served 5 (cmd up 0x0545 [5, 0, 0, 0]) = true ∧
    served 5 { up with sys := { up.sys with modState := 2 } } = false ∧
    after (.lantRemove 2) (cmd up 0x0544 []) (fun t => (win t 2).inflight.isSome) = true ∧
    after (.lantRemove 2) (cmd (clustered { st := 1 }) 0x0545 [5, 0, 0, 0]) (answered2 stDOWN 0) = true ∧
    after (.lantRemove 2) (cmd { up with sys := { up.sys with modState := 2 } } 0x0545 [5, 0, 0, 0]) (answered2 stSTATE 0) = true := by
  decide +kernel

/-- A state as the invariant asks, with a step: reset, and an idle step of a pilot. -/
theorem test_sound_states :
    Sound State.reset ∧ Sound up ∧ up.sys.tender = false ∧ (∃ t, step up = .next t) := by
  refine ⟨by refine ⟨?_, ?_, ?_, ?_, ?_, ?_⟩ <;> decide +kernel, by refine ⟨?_, ?_, ?_, ?_, ?_, ?_⟩ <;> decide +kernel, rfl, ?_⟩
  exact ⟨_, rfl⟩

/-- Slot 4 is programmed at reset; a revoked slot. -/
theorem test_keys :
    (keySlot State.reset 4).programmed = true ∧
    (keySlot { up with upd := { up.upd with keys := [(5, { programmed := true, revoked := true })] } } 5).revoked = true := by
  decide +kernel

/-- A zone that a host halted stays halted while another one is released. -/
theorem test_host_halts :
    after (.fleetRelease 2 50) (cmd { fleetUp with fleet := { fleetUp.fleet with host := 6 } } 0x0842 (le 8 2 ++ [1, 0, 0, 0])) (fun t => t.fleet.host == 4) = true := by
  decide +kernel

theorem test_failed_starts :
    (inRom { State.reset with boot := { State.reset.boot with failedStarts := 3 } }) = true ∧
    after (.romStart false) { State.reset with boot := { State.reset.boot with failedStarts := 3 } } (fun t => t.sys.modState == 6 && t.boot.failedStarts == 3) = true ∧
    after (.romStart false) { State.reset with boot := { State.reset.boot with failedStarts := 2 } } (fun t => t.sys.romDone && t.boot.failedStarts == 3) = true := by
  decide +kernel

/-! ## The queue and the whole machine -/

/-- The queue of two commands; an empty one is State.reset's. -/
theorem test_step_takes_the_front :
    (nextOf (step { up with pending := [.clusterFault, .clusterHeartbeat] }) up).pending = [.clusterHeartbeat] ∧
    (nextOf (step { up with pending := [.clusterFault, .clusterHeartbeat] }) up).cluster.fault = true ∧
    up.pending = [] := by
  decide +kernel

/-- A command answers a next state, in which what its rules do not name stands. -/
theorem test_a_command_answers :
    ∃ t, exec .clusterFault up = .next t ∧ t.clk = up.clk ∧ movesTide .clusterFault = false :=
  ⟨_, rfl, rfl, rfl⟩

/-- A command waits in window 2. -/
theorem test_command_waits : Waits (cmd up 0x1102 []) 2 { code := 0x1102, seq := 9, payload := [] } := by
  refine ⟨?_, ?_, ?_⟩ <;> decide +kernel

/-- A correction of two tides whose edge has come, after a horn that halted every zone. -/
def correcting (d : Int) : State :=
  { up with
    clk := { up.clk with correction := some { d, tide := 1000, src := 1 }, preHalted := true }
    time := { up.time with sources := [(1, { latest := some d })] } }

theorem test_tide_number_moves :
    after (.tideEdge { strobe := 0, linkDown := 0, gain := [], power := [] }) up (fun t => t.clk.tide == 1001) = true ∧
    after (.tideEdge { strobe := 0, linkDown := 0, gain := [], power := [] }) { up with clk := { up.clk with skipNext := true } } (fun t => t.clk.tide == 1002) = true ∧
    (dueCorrection (correcting 25000000)).isSome = true ∧ preHorn (correcting 25000000) = true ∧
    (dueCorrection (correcting (-9999999))).isSome = true ∧ up.clk.correction = none := by
  decide +kernel

/-! ## Algorithms of the crypto block: the examples of FIPS 180-4 and FIPS 197, and test case 1 of the GCM specification -/

theorem test_crypto_examples :
    sha256 [0x61, 0x62, 0x63] = be 32 0xba7816bf8f01cfea414140de5dae2223b00361a396177a9cb410ff61f20015ad ∧
    sha384 [0x61, 0x62, 0x63] =
      be 48 0xcb00753f45a35e8bb5a03d699ac65007272c32ab0eded1631a8b605a43ff5bed8086072ba1e7cc2358baeca134c825a7 ∧
    aes (be 16 0x000102030405060708090a0b0c0d0e0f) (be 16 0x00112233445566778899aabbccddeeff) =
      be 16 0x69c4e0d86a7b0430d8cdb78070b4c55a ∧
    gcmTag (zeros 16) (zeros 12) [] = be 16 0x58e2fccefa7e3061367f1d57a4e7455a := by
  decide +kernel

/-- The CRC-24Q of the example message 1005 of RTCM 10403. -/
theorem test_rtcm_frame :
    rtcmFrame (be 19 0x3ED7D30202980EDEEF34B4BD62AC0941986F33) = be 25 0xD300133ED7D30202980EDEEF34B4BD62AC0941986F33360B98 := by
  decide +kernel

/-! ## Hypotheses met: states for the clauses whose commands end in an open value, which no test can run -/

/-- A change of the empty image in slot 1, whose apply tide has come. -/
def applying : State := { applied with cfg := { applied.cfg with apply := some { slot := 1, tide := 990 } } }

theorem test_hypotheses_met_by_time_and_store :
    ((correcting 25000000).clk.correction.map (·.tide)) = some 1000 ∧ (correcting 25000000).time.jump.isNone = true ∧
    (srcOf (correcting 25000000) 1).latest = some 25000000 ∧ (correcting (-9999999)).time.jump.isNone = true ∧
    (applying.cfg.apply.map fun a => (a.slot, a.tide, a.passed)) = some (1, 990, false) ∧
    (sectionParams 7 applying.cfg.maps (sectionsOf (slotBytes applying 1))).isSome = true ∧
    (slotOf applied .previous = some 2 ∧ (loading [1, 2] 1).cfg.apply = none) ∧
    ((starting 1).sys.modState = 1 ∧ (starting 1).sys.hmRuns = true ∧ (starting 1).sys.warm = false) ∧
    ((recLoad 1 [1]).sys.recov.owner = 1 ∧ (checkArrived 4 1 [1, 2]).2 = true) ∧
    (recLoad 2 [1, 2, 3, 4]).sys.recov.st = 2 ∧ (recLoad 3 [1, 2, 3, 4]).sys.recov.st = 3 := by
  decide +kernel

theorem test_hypotheses_met_by_services :
    (hears 5 lit && fresh 5 3 999 lit) = true ∧
    (rfOf (rf5 fun x => { x with cal := some { ends := 7 } }) 5).cal = some { ends := 7 } ∧ tracking.clk.ran = 7 ∧
    (2 ≤ (station 3).ref.st ∧ (station 3).cluster.st = 2 ∧ (station 3).gnss.alarm = false ∧ (station 3).ref.solving = []) ∧
    ((metering id).meter.on = true ∧ (metering id).meter.expected = none) ∧ pointOn (metering id) 3 = true ∧
    (portOf (onPort 0 fun p => { p with gateWait := some { list := { n := 2, q := 0 }, apply := 900 } }) 0).gateWait.isSome = true ∧
    wired.clk.tide % 2 = 0 := by
  decide +kernel

/-- The pilot with a hand-over for tide n. -/
def handing (n : Nat) (checked : Bool) : State := paired false fun p => { p with handover := some { tide := n, checked } }

theorem test_hypotheses_met_by_the_pair :
    (twinTagOk (paired false id) 10 twinFrame && ctrlFits 115 (berths twinFrame.length) (paired false id)) = true ∧
    (u8 twinFrame 0 = 6 ∧ claim (paired false id) < u16 twinFrame 2 ∧ u16 twinFrame 2 % 4 ≠ 0 ∧ (paired false id).pr.heard = []) ∧
    twinTagOk (paired false id) 10 (zeros 44) = false ∧
    (twinTagOk (paired false id) 1 healthFrame && ctrlFits 115 (berths healthFrame.length) (paired false id)) = true ∧
    (let s : State := { paired true id with clk := { up.clk with tide := 1050 } }; pairMode s && ctrlFits 114 1 s && (poolQ s 114).entries.isEmpty) = true ∧
    ((handing 1005 false).pr.handover.map fun h => (h.tide, h.checked)) = some (1005, false) ∧
    ((handing 1000 true).pr.handover.map fun h => (h.tide, h.checked)) = some (1000, true) ∧
    (paired false fun p => { p with demote := some 6 }).pr.demote = some 6 := by
  decide +kernel

/-- A trial that everything confirms. -/
def trying : State := { loaded 6 (fun u => { u with trial := some { mode := 0 } }) with boot := { up.boot with trial := true } }

/-- The cluster down after its restart began. -/
def restoring : State := clustered { st := 1, restoring := true }

theorem test_hypotheses_met_by_updates_and_cluster :
    confirmReady trying = true ∧ (trying.upd.trial.map (·.mode)) = some 0 ∧
    ((loaded 5 fun u => { u with sched := some { tide := 1000 } }).upd.sched.map (·.tide)) = some 1000 ∧
    ((loaded 3 id).upd.st = 3 ∧ (loaded 3 id).boot.activeArea ≤ 1) ∧ verifyPackage (loaded 2 id) [1, 2, 3, 4] ≠ stOK ∧
    (restoring.cluster.deferred = false ∧ restoring.cluster.declare_ = false ∧ restoring.cluster.refill = false) ∧
    (clustered { st := 2, fault := true }).cluster.fault = true := by
  decide +kernel

/-! ## Well-formed commands: an ill-formed term for each check -/

theorem test_ill_formed_windows_and_ports :
    Instr.wf (.hello 8) = false ∧ Instr.wf (.qwDataRead .pcie 16) = false ∧ Instr.wf (.linkDown 14 none) = false ∧
    Instr.wf (.ltTailWrite .pcie 8 0) = false ∧ Instr.wf (.ltRingConfigWrite .pcie 0 0x802 0) = false ∧
    Instr.wf (.ltRingConfigWrite .pcie 0 0x0E 0) = false ∧ Instr.wf (.fdbAgeing 4096 0) = false ∧
    Instr.wf (.fdbAgeing 1 (2 ^ 48)) = false ∧ Instr.wf (.rcRegisterRead .pcie 0x10102) = false ∧
    Instr.wf (.rcRegisterRead .pcie 0x100000) = false ∧ Instr.wf (.spiTransaction 3 (2 ^ 24) [] 1 0) = false ∧
    Instr.wf (.usbRequest (zeros 11) [] 0) = false ∧ Instr.wf (.recInfo 0) = false ∧ Instr.wf (.gpioInputEdge 16 true 0) = false := by
  decide +kernel

theorem test_ill_formed_radio_and_nodes :
    Instr.wf (.radioFrameRx 12 fromNode) = false ∧ Instr.wf (.subghzCellTx 8 false) = false ∧ Instr.wf (.ootHornCcaTimeout 4) = false ∧
    Instr.wf (.vehicleAckRx 7 1 fromNode) = false ∧ Instr.wf (.vehicleAckRx 8 3 fromNode) = false ∧ Instr.wf (.hbSlotStart 4 0) = false ∧
    Instr.wf (.radioDieFail 2) = false ∧ Instr.wf (.indirectFrameExpiry 4096) = false ∧ Instr.wf (.ackTimeout 0 4096) = false ∧
    Instr.wf (.nodeJoin 0 (2 ^ 64) []) = false ∧ Instr.wf (.balanceEvaluation 12) = false ∧ Instr.wf (.pathSend 256) = false := by
  decide +kernel

theorem test_ill_formed_gnss_and_quay :
    Instr.wf (.antennaShort 2) = false ∧ Instr.wf (.jamEnter 6) = false ∧ Instr.wf (.channelLock (chanAt 384)) = false ∧
    Instr.wf (.falseSignalEval 3 0) = false ∧ Instr.wf (.acquisitionResult 0 0x05 1 none) = false ∧
    Instr.wf (.acquisitionRequest { search with window := 65 }) = false ∧ Instr.wf (.correctionEncode 4 0) = false ∧
    Instr.wf (.busIntegration 4) = false ∧ Instr.wf (.qbusFrameRx 0 { canRx none with id := 2 ^ 29 }) = false := by
  decide +kernel

theorem test_ill_formed_meters_lamps_and_functions :
    Instr.wf (.noCrossingEntry 6) = false ∧ Instr.wf (.pulseEmit 4) = false ∧ Instr.wf (.relayReadbackFault 2 true) = false ∧
    Instr.wf (.lampSlotFrame 8) = false ∧ Instr.wf (.signFrameStart 2) = false ∧ Instr.wf (.feedReclose 2) = false ∧
    Instr.wf (.statsLatch 37) = false ∧ Instr.wf (.deadlineJudge 0) = false ∧ Instr.wf (.sourceHoldoffExpiry 4) = false ∧
    Instr.wf (.tideEdge { strobe := 0, linkDown := 0, gain := [], power := [] }) = false ∧
    Instr.wf (.functionStopEdge (.queueWindow 16)) = false ∧ Instr.wf (.functionStopEdge (.gnssSignal 0 10)) = false ∧
    Instr.wf (.placementMoveEdge (.signal 384)) = false ∧ Instr.wf (.placementMoveEdge (.task 4096)) = false := by
  decide +kernel

end Sys2Proof.Tests
end

section
/-! PROOFS. Late swap requests: what the moving of sign writes leaves alone, what a sign swap request and the
swap at its edge do to a port, and from them the rule of late swap requests (R49). -/

namespace Sys2Proof.Machine

/-! ## Pool and lighter operations on the way of a sign write -/

theorem notePressure_only (s : State) : Only [.host, .pool, .out] s (notePressure s) := by
  unfold notePressure; dsimp only
  split
  · exact ((updPool_only ..).trans (raise_only ..)).mono (by simp)
  · split
    · exact ((updPool_only ..).trans (raise_only ..)).mono (by simp)
    · exact Only.refl _ _

theorem notePressure_grows (s : State) : Grows s (notePressure s) := by
  have pressed (f : Pool → Pool) : Grows s (updPool f s) := (updPool_only f s).grows (by simp) (by simp)
  unfold notePressure; dsimp only
  split
  · exact (pressed _).trans (raise_grows ..)
  · split
    · exact (pressed _).trans (raise_grows ..)
    · exact Grows.refl _

theorem free_only (e : Entry) (s : State) : Only [.host, .pool, .out] s (free e s) :=
  ((updPool_only (fun _ => _) s).mono (by simp)).after (notePressure_only _)

theorem free_grows (e : Entry) (s : State) : Grows s (free e s) :=
  ((updPool_only (fun _ => _) s).grows (by simp) (by simp)).trans (notePressure_grows _)

theorem dropHead_only (q : Nat) (s : State) : Only [.host, .pool, .out] s (dropHead q s) := by
  unfold dropHead; split
  · exact Only.refl _ _
  · exact ((updQ_only ..).mono (by simp)).after (free_only ..)

theorem dropHead_grows (q : Nat) (s : State) : Grows s (dropHead q s) := by
  unfold dropHead; split
  · exact Grows.refl _
  · exact ((updQ_only ..).grows (by simp) (by simp)).trans (free_grows ..)

theorem countBurst_only (n k : Nat) (s : State) : Only [.stats, .pool] s (countBurst n k s) :=
  (((updPool_only ..).trans (updLt_only ..)).trans (count_only ..)).mono (by simp)

theorem countBursts_only (ch n : Nat) (s : State) : Only [.stats, .pool] s (countBursts ch n s) :=
  each_only (fun i => countBurst_only ch (min 256 (n - 256 * i))) _ s

theorem innerError_only (n : Nat) (s : State) : Only [.host, .stats, .pool, .out] s (innerError n s) :=
  (((updLt_only ..).trans (count_only ..)).trans (raise_only ..)).mono (by simp)

theorem innerError_grows (n : Nat) (s : State) : Grows s (innerError n s) :=
  (((updLt_only ..).trans (count_only ..)).grows (by simp) (by simp)).trans (raise_grows ..)

/-! ## Sign ports -/

/-- The parts that the commands of the sign ports write. -/
def signParts : List Part := [.host, .stats, .pool, .lampSign, .out]

/-- A sign port without the number of bytes moved of its write. -/
def SignPort.unmoved (g : SignPort) : SignPort := { g with moved := 0 }

theorem SignPort.swap_of_unmoved {g h : SignPort} (e : g.unmoved = h.unmoved) : g.swap = h.swap :=
  (congrArg SignPort.swap e :)

theorem gport_congr {s t : State} (h : t.lampSign = s.lampSign) (p : Nat) : gport t p = gport s p := by
  rw [gport, gport, h]

theorem gport_merge {ws : List Part} (h : Part.lampSign ∈ ws) (s t : State) (p : Nat) :
    gport (State.merge ws s t) p = gport t p :=
  gport_congr (by simp [h]) p

/-! ## The moving of sign writes (R527) -/

/-- What the moving of sign writes into the back buffers may do: it writes the parts of the sign commands, answers
nothing, and of a port changes no more than the bytes moved. -/
structure MovesWrites (s t : State) : Prop where
  only : Only signParts s t
  grows : Grows s t
  port : ∀ p, (gport t p).unmoved = (gport s p).unmoved

theorem MovesWrites.refl (s : State) : MovesWrites s s := ⟨Only.refl _ _, Grows.refl _, fun _ => rfl⟩

theorem MovesWrites.trans {s t u : State} (h : MovesWrites s t) (g : MovesWrites t u) : MovesWrites s u :=
  ⟨h.only.after g.only, h.grows.trans g.grows, fun p => (g.port p).trans (h.port p)⟩

theorem MovesWrites.of_only {ws : List Part} {s t : State} (h : Only ws s t) (g : Grows s t)
    (hw : ∀ p ∈ ws, p ∈ signParts) (hl : Part.lampSign ∉ ws) : MovesWrites s t :=
  ⟨h.mono hw, g, fun p => congrArg SignPort.unmoved (gport_congr (h.2 .lampSign hl) p)⟩

theorem each_movesWrites {f : Nat → State → State} (hf : ∀ k s, MovesWrites s (f k s)) (ks : List Nat) (s : State) :
    MovesWrites s (each ks f s) := by
  induction ks generalizing s with
  | nil => exact MovesWrites.refl _
  | cons k ks ih => exact (hf k s).trans (ih (f k s))

theorem dropHead_movesWrites (q : Nat) (s : State) : MovesWrites s (dropHead q s) :=
  .of_only (dropHead_only ..) (dropHead_grows ..) (by simp [signParts]) (by simp)

theorem countBursts_movesWrites (ch n : Nat) (s : State) : MovesWrites s (countBursts ch n s) :=
  .of_only (countBursts_only ..) ((countBursts_only ..).grows (by simp) (by simp)) (by simp [signParts]) (by simp)

theorem innerError_movesWrites (n : Nat) (s : State) : MovesWrites s (innerError n s) :=
  .of_only (innerError_only ..) (innerError_grows ..) (by simp [signParts]) (by simp)

/-- A write applied changes the sign memory alone (R527). -/
theorem applyWrite_movesWrites (b : List Byte) (s : State) : MovesWrites s (applyWrite b s) :=
  have h : Only [.lampSign] s (applyWrite b s) := updLs_only ..
  ⟨h.mono (by simp [signParts]), h.grows (by simp) (by simp), fun _ => rfl⟩

theorem resetMoved_movesWrites (p : Nat) (s : State) : MovesWrites s (updSign p (fun x => { x with moved := 0 }) s) := by
  refine ⟨(updSign_only ..).mono (by simp [signParts]), (updSign_only ..).grows (by simp) (by simp), fun q => ?_⟩
  rw [gport_updSign]; split
  · next h => rw [h]; rfl
  · rfl

theorem takeWrite_movesWrites (p : Nat) (s : State) : MovesWrites s (takeWrite p s) := by
  unfold takeWrite; split
  · exact MovesWrites.refl _
  · refine ((resetMoved_movesWrites p s).trans ?_).trans (dropHead_movesWrites ..)
    split
    · exact innerError_movesWrites ..
    · split
      · exact MovesWrites.refl _
      · exact applyWrite_movesWrites ..

theorem drainSign_movesWrites (p : Nat) (s : State) : MovesWrites s (drainSign p s) := by
  unfold drainSign; split
  · exact MovesWrites.refl _
  · exact each_movesWrites (fun _ t => (countBursts_movesWrites (16 + p) _ t).trans (takeWrite_movesWrites ..)) _ s

/-! ## A swap request (R49, R528) -/

/-- A request for the next edge that comes after its deadline (R49). -/
def lateSwap (us k : Nat) (s : State) : Bool := k == nextTide s && us > 9000

/-- The tide of a request for edge k: the one after it where the request is late (R49). -/
def swapTide (us k : Nat) (s : State) : Nat := if lateSwap us k s then k + 1 else k

/-- The swap that a request for edge k leaves waiting, by the count of the tides issued. -/
def askedSwap (w us k : Nat) (p : List Byte) (s : State) (ran : Nat) : SignSwap :=
  { tide := swapTide us k s, copy := u8 p 1 == 1, late := lateSwap us k s,
    notBefore := if lateSwap us k s then ran + 2 else 0, job := some (jobOf w s) }

/-- The ports of a request. -/
def swapPorts (p : List Byte) : List Nat := [0, 1].filter fun q => (u8 p 0).testBit q

/-- One port moves the writes accepted before the swap, which then waits (R527, R528). -/
def awaitSwap (x : Nat → SignSwap) (q : Nat) (s : State) : State :=
  updSign q (fun g => { g with swap := some (x s.clk.ran) }) (drainSign q s)

/-- Every port of a request is configured, enabled and without a waiting swap. -/
def PortsReady (s : State) (p : List Byte) : Prop :=
  ∀ q, q < 2 → (u8 p 0).testBit q = true → (gpar s q).width ≠ 0 ∧ (gport s q).off = false ∧ (gport s q).swap = none

/-- The fields of a request are in range (R532): its ports and its copy flag. -/
def SwapFields (p : List Byte) : Prop := u8 p 0 ≠ 0 ∧ u8 p 0 ≤ 3 ∧ u8 p 1 ≤ 1

theorem mem_swapPorts {p : List Byte} {q : Nat} : q ∈ swapPorts p ↔ q < 2 ∧ (u8 p 0).testBit q = true := by
  have h : q ∈ [0, 1] ↔ q < 2 := by simp; omega
  rw [swapPorts, List.mem_filter, h]

/-- A request on enabled ports without a waiting swap, for an edge that is not too early, is accepted (R528, R533). -/
theorem signSwapF_accepts {w us k : Nat} {p : List Byte} {s : State}
    (ready : PortsReady s p) (named : namedTide s (u64 p 4) = some k) :
    signSwapF w us p s = respond w stACCEPTED (le 8 (swapTide us k s))
      (each (swapPorts p) (awaitSwap (askedSwap w us k p s)) s) := by
  have able : (swapPorts p).any (fun q => (gpar s q).width == 0 || (gport s q).off) = false := by
    rw [List.any_eq_false]
    intro q hq
    obtain ⟨hw, ho, -⟩ := ready q (mem_swapPorts.1 hq).1 (mem_swapPorts.1 hq).2
    simp [hw, ho]
  have idle : (swapPorts p).any (fun q => (gport s q).swap.isSome) = false := by
    rw [List.any_eq_false]
    intro q hq
    obtain ⟨-, -, hs⟩ := ready q (mem_swapPorts.1 hq).1 (mem_swapPorts.1 hq).2
    simp [hs]
  rw [swapPorts] at able idle
  unfold signSwapF; dsimp only
  rw [able, idle, named]
  rfl

theorem awaitSwap_only (x : Nat → SignSwap) (q : Nat) (s : State) : Only signParts s (awaitSwap x q s) :=
  (drainSign_movesWrites q s).only.after ((updSign_only ..).mono (by simp [signParts]))

theorem awaitSwap_grows (x : Nat → SignSwap) (q : Nat) (s : State) : Grows s (awaitSwap x q s) :=
  (drainSign_movesWrites q s).grows.trans ((updSign_only ..).grows (by simp) (by simp))

theorem awaitSwap_swap (x : Nat → SignSwap) (q p : Nat) (s : State) :
    (gport (awaitSwap x q s) p).swap = if p = q then some (x s.clk.ran) else (gport s p).swap := by
  rw [awaitSwap, gport_updSign]; split
  · rfl
  · exact SignPort.swap_of_unmoved ((drainSign_movesWrites q s).port p)

theorem awaitSwap_clk (x : Nat → SignSwap) (q : Nat) (s : State) : (awaitSwap x q s).clk = s.clk :=
  (awaitSwap_only x q s).2 .clk (by simp [signParts])

/-- After a request each of its ports holds the swap, and every other one what it held. -/
theorem each_awaitSwap_swap (x : Nat → SignSwap) (ks : List Nat) (p : Nat) (s : State) :
    (gport (each ks (awaitSwap x) s) p).swap = if p ∈ ks then some (x s.clk.ran) else (gport s p).swap := by
  induction ks generalizing s with
  | nil => rfl
  | cons k ks ih =>
    show (gport (each ks (awaitSwap x) (awaitSwap x k s)) p).swap = _
    rw [ih, awaitSwap_clk, awaitSwap_swap]
    by_cases hk : p = k <;> by_cases hm : p ∈ ks <;> simp [hk, hm]

/-- An accepted request ends in the state that its meaning reaches. -/
theorem exec_signSwap_accepts {s : State} {w us k : Nat} {c : Cmd} (h : Waits s w c) (code : c.code = 0x0D44)
    (fields : SwapFields c.payload) (ready : PortsReady s c.payload)
    (named : namedTide s (u64 c.payload 4) = some k) :
    exec (.signSwap w us) s = .next (respond w stACCEPTED (le 8 (swapTide us k s))
      (each (swapPorts c.payload) (awaitSwap (askedSwap w us k c.payload (takeTurn s))) (takeTurn s))) := by
  show execSignSwap w us s = _
  have inRange : (u8 c.payload 0 == 0 || u8 c.payload 0 > 3 || u8 c.payload 1 > 1) = false := by
    obtain ⟨h0, h3, h1⟩ := fields
    simp [h0]; omega
  have run : onCmd w 0x0D44 (fun p => u8 p 0 == 0 || u8 p 0 > 3 || u8 p 1 > 1) (signSwapF w us) s = _ :=
    code ▸ onCmd_runs h inRange _
  rw [execSignSwap, run, signSwapF_accepts (s := takeTurn s) ready named]
  have only : Only signParts s (respond w stACCEPTED (le 8 (swapTide us k s))
      (each (swapPorts c.payload) (awaitSwap (askedSwap w us k c.payload (takeTurn s))) (takeTurn s))) :=
    (((takeTurn_only s).mono (by simp [signParts])).after (each_only (awaitSwap_only _) _ _)).after
      ((respond_only ..).mono (by simp [signParts]))
  exact doneIn_eq only (congrArg Clk.tide (only.2 .clk (by simp [signParts])))

/-- An answer counts from every state whose window has the same origin and port. -/
theorem Answered.of_base {s s' t : State} {w : Nat} {c : Cmd} {status : Nat} {p : List Byte}
    (h : Answered s' t w c status p) (e : (win s' w).base = (win s w).base) : Answered s t w c status p := by
  have origin : (win s' w).origin = (win s w).origin := (congrArg Window.origin e :)
  have port : (win s' w).port = (win s w).port := (congrArg Window.port e :)
  unfold Answered at *; rw [origin, port] at h; exact h

/-- The response to a command that has its turn, after work that answers nothing. -/
theorem respond_answers_after {s t : State} {w : Nat} {c : Cmd} (h : Waits s w c) (g : Grows s t) (status : Nat)
    (p : List Byte) : Answered s (respond w status p t) w c status p := by
  obtain ⟨inflight, opened, caller, -, -⟩ := h
  have e := g.2.2 w
  exact (respond_answers ((congrArg Window.inflight e :).trans inflight) ((congrArg Window.st e :).trans_ne opened)
    ((congrArg Window.caller e :).trans caller) status p).of_base e

theorem gport_respond (w status : Nat) (p : List Byte) (s : State) (q : Nat) :
    gport (respond w status p s) q = gport s q :=
  gport_congr ((respond_only w status p s).2 .lampSign (by simp)) q

/-- A request without a named tide after its deadline waits for the edge after the next one (R49). -/
theorem exec_signSwap_late {s : State} {w us : Nat} {c : Cmd} (h : Waits s w c) (code : c.code = 0x0D44)
    (fields : SwapFields c.payload) (ready : PortsReady s c.payload)
    (unnamed : u64 c.payload 4 = 0) (late : 9000 < us) :
    ∃ t, exec (.signSwap w us) s = .next t ∧ Answered s t w c stACCEPTED (le 8 (nextTide s + 1)) ∧
      ∀ q, q < 2 → (u8 c.payload 0).testBit q = true → ∃ x, (gport t q).swap = some x ∧ x.tide = nextTide s + 1 ∧
        x.notBefore = s.clk.ran + 2 := by
  have named : namedTide s (u64 c.payload 4) = some (nextTide s) := by rw [namedTide, if_pos unnamed]
  have isLate : lateSwap us (nextTide s) s = true := by simp [lateSwap, late]
  have tide : swapTide us (nextTide s) s = nextTide s + 1 := by rw [swapTide, if_pos isLate]
  refine ⟨_, exec_signSwap_accepts h code fields ready named, ?_, fun q hq bit => ?_⟩
  · rw [tide]
    exact respond_answers_after h ((takeTurn_grows s).trans (each_grows (awaitSwap_grows _) _ _)) _ _
  · refine ⟨askedSwap w us (nextTide s) c.payload (takeTurn s) s.clk.ran, ?_, tide, if_pos isLate⟩
    rw [gport_respond, each_awaitSwap_swap, if_pos (mem_swapPorts.2 ⟨hq, bit⟩)]
    rfl

/-! ## The swap at its edge (R528) -/

theorem gport_finishOpt (j : Option Job) (status : Nat) (s : State) (p : Nat) :
    gport (finishOpt j status s) p = gport s p :=
  gport_congr ((finishOpt_only j status s).2 .lampSign (by simp)) p

/-- A swap that takes effect makes the back buffer of its port the front one, and waits no longer. -/
theorem gport_doSwap (p : Nat) (x : SignSwap) (s : State) : (gport (doSwap p x s) p).unmoved =
    { gport s p with swap := none, front := 1 - (gport s p).front, first := true, copying := x.copy, moved := 0 } := by
  have counted (u : State) : gport (if x.late then count 35 9 u else u) p = gport u p := by split <;> rfl
  have finished (other : Bool) (u : State) : gport (if other then u else finishOpt x.job stOK u) p = gport u p := by
    split
    · rfl
    · exact gport_finishOpt ..
  unfold doSwap; dsimp only
  rw [(drainSign_movesWrites p _).port p, finished, counted, gport_updSign, if_pos rfl]
  rfl

theorem exec_signSwapEdge_early {s : State} {p : Nat} {x : SignSwap} (h : (gport s p).swap = some x)
    (early : s.clk.tide < x.tide ∨ s.clk.ran < x.notBefore) : exec (.signSwapEdge p) s = .next s := by
  show execSignSwapEdge p s = _
  have waits : (p > 1 || x.tide > s.clk.tide || x.notBefore > s.clk.ran || x.armed) = true := by
    rcases early with h | h <;> simp [h]
  unfold execSignSwapEdge
  rw [h]; dsimp only; rw [if_pos waits]
  exact doneIn_eq (Only.refl _ _) rfl

/-- The edge of a waiting swap of a tide-locked port. -/
theorem exec_signSwapEdge_swaps {s : State} {p : Nat} {x : SignSwap} (hp : p < 2) (h : (gport s p).swap = some x)
    (unarmed : x.armed = false) (tide : x.tide ≤ s.clk.tide) (ran : x.notBefore ≤ s.clk.ran)
    (tideLocked : syncLocked s p = false) :
    exec (.signSwapEdge p) s = .next (State.merge [.host, .stats, .pool, .lampSign, .log, .out] s (doSwap p x s)) := by
  show execSignSwapEdge p s = _
  have due : ¬(p > 1 || x.tide > s.clk.tide || x.notBefore > s.clk.ran || x.armed) = true := by
    simp [unarmed]; omega
  unfold execSignSwapEdge
  rw [h]; dsimp only; rw [if_neg due, tideLocked]
  rfl

/-- Settles O56: a late request waits for the edge after the next one, whose event alone swaps the buffers. -/
theorem lateSwapRequests : Obligations.LateSwapRequests := by
  unfold Obligations.LateSwapRequests
  refine ⟨fun s w us c h code anyPort ports copy unnamed late ready => ?_, fun s q x hq hx unarmed => ⟨fun early => ?_,
    fun tide ran tideLocked => ⟨_, exec_signSwapEdge_swaps hq hx unarmed tide ran tideLocked, ?_⟩⟩⟩
  · exact exec_signSwap_late h code ⟨anyPort, ports, copy⟩ ready unnamed late
  · exact exec_signSwapEdge_early hx early
  · rw [gport_merge (by simp)]
    have swapped := gport_doSwap q x s
    exact ⟨congrArg SignPort.front swapped, congrArg SignPort.swap swapped⟩

end Sys2Proof.Machine
end

section
/-! PROOFS. Full timestamp queues: what an entry that arrives at its queue does to the PTP state of the ports, and from
it the rule of a queue that is full for the owner class of the entry (R150). -/

namespace Sys2Proof.Machine

/-! ## The PTP state of a port -/

theorem ptpOf_congr {s t : State} (h : t.time = s.time) (p : Nat) : ptpOf t p = ptpOf s p := by
  rw [ptpOf, ptpOf, h]

theorem ptpOf_merge {ws : List Part} (h : Part.time ∈ ws) (s t : State) (p : Nat) :
    ptpOf (State.merge ws s t) p = ptpOf t p :=
  ptpOf_congr (by simp [h]) p

@[simp] theorem ptpOf_logIt (svc occ sev source : Nat) (d : List Nat) (s : State) (p : Nat) :
    ptpOf (logIt svc occ sev source d s) p = ptpOf s p :=
  ptpOf_congr ((logIt_only svc occ sev source d s).2 .time (by simp)) p

/-! ## Owner classes (R149) -/

/-- The entries of a port's queue in the owner class of an entry: the hosts' or the module's own. -/
def ofClass (owner : Option Nat) (x : PtpPort) : List TxEntry :=
  x.txq.filter fun e => e.owner.isSome == owner.isSome

/-- The entries a queue holds for an owner class. -/
def classRoom (owner : Option Nat) : Nat := if owner.isSome then 24 else 8

/-! ## An entry at a full queue (R150, R152) -/

/-- A port's PTP state after a dropped entry: one more TXQ_DROPPED, and for a host's entry the report of the tide. -/
def dropStamp (e : TxEntry) (x : PtpPort) : PtpPort :=
  if e.owner.isSome then
    { x with dropped := x.dropped + 1, drops := x.drops + 1, firstId := if x.drops = 0 then e.id else x.firstId,
             lastId := e.id }
  else { x with dropped := x.dropped + 1 }

@[simp] theorem dropStamp_txq (e : TxEntry) (x : PtpPort) : (dropStamp e x).txq = x.txq := by
  unfold dropStamp; split <;> rfl

@[simp] theorem dropStamp_dropped (e : TxEntry) (x : PtpPort) : (dropStamp e x).dropped = x.dropped + 1 := by
  unfold dropStamp; split <;> rfl

/-- An entry at a queue full for its owner class drops at its own port, and leaves the other ports alone. -/
theorem ptpOf_queueStamp_full {port : Nat} {e : TxEntry} {s : State}
    (full : classRoom e.owner ≤ (ofClass e.owner (ptpOf s port)).length) (q : Nat) :
    ptpOf (queueStamp port e s) q = if q = port then dropStamp e (ptpOf s port) else ptpOf s q := by
  have noRoom : ¬((ptpOf s port).txq.filter fun x => x.owner.isSome == e.owner.isSome).length <
      (if e.owner.isSome then 24 else 8) := Nat.not_lt.2 full
  unfold queueStamp; dsimp only
  rw [if_neg noRoom]
  by_cases host : e.owner.isSome = true
  · rw [if_pos host, ptpOf_updPtp, ptpOf_updPtp, ptpOf_updPtp, if_pos rfl, dropStamp, if_pos host]
    by_cases here : q = port <;> simp [here]
  · rw [if_neg host, ptpOf_logIt, ptpOf_updPtp, dropStamp, if_neg host]

/-! ## The egress timestamp of a frame sent with a request -/

/-- The timestamp of a frame takes its request from the port and arrives at the queue as the request's entry. -/
def captured (port : Nat) (e : TxEntry) (stamp : Stamp) (s : State) : State :=
  queueStamp port { e with stamp := shiftStamp stamp (tget 0 s.par.time.egress port) }
    (updPtp port (fun x => { x with asked := x.asked.erase e }) s)

theorem exec_txTimestampCapture_asked {s : State} {port id : Nat} {owner : Option Nat} {e : TxEntry} (stamp : Stamp)
    (asked : (ptpOf s port).asked.find? (fun e => e.owner == owner && e.id == id) = some e) :
    exec (.txTimestampCapture port owner id stamp) s =
      .next (State.merge [.time, .log] s (captured port e stamp s)) := by
  show execTxTimestampCapture port owner id stamp s = _
  unfold execTxTimestampCapture
  rw [asked]
  rfl

/-- A request that a port holds is found by its owner and identifier. -/
theorem find_asked {l : List TxEntry} {owner : Option Nat} {id : Nat} (h : ∃ e ∈ l, e.owner = owner ∧ e.id = id) :
    ∃ e, l.find? (fun e => e.owner == owner && e.id == id) = some e ∧ e.owner = owner := by
  obtain ⟨a, mem, howner, hid⟩ := h
  obtain ⟨e, found⟩ := Option.isSome_iff_exists.1
    (List.find?_isSome.2 ⟨a, mem, by simp [howner, hid]⟩ : (l.find? (fun e => e.owner == owner && e.id == id)).isSome)
  have matching := List.find?_some found
  simp only [Bool.and_eq_true, beq_iff_eq] at matching
  exact ⟨e, found, matching.1⟩

/-- A timestamp captured for a queue full for its owner class: its port loses the request and drops the entry. -/
theorem ptpOf_captured_full {s : State} {port : Nat} {e : TxEntry} (stamp : Stamp)
    (full : classRoom e.owner ≤ (ofClass e.owner (ptpOf s port)).length) (q : Nat) :
    ptpOf (captured port e stamp s) q =
      if q = port then dropStamp { e with stamp := shiftStamp stamp (tget 0 s.par.time.egress port) }
        { ptpOf s port with asked := (ptpOf s port).asked.erase e }
      else ptpOf s q := by
  rw [captured, ptpOf_queueStamp_full (by rw [ptpOf_updPtp, if_pos rfl]; exact full), ptpOf_updPtp, if_pos rfl]
  by_cases here : q = port
  · rw [if_pos here, if_pos here]
  · rw [if_neg here, if_neg here, ptpOf_updPtp, if_neg here]

/-- Settles O57: the captured timestamp arrives at the full queue as an entry of the request's owner and is dropped. -/
theorem fullTimestampQueueDrops : Obligations.FullTimestampQueueDrops := by
  unfold Obligations.FullTimestampQueueDrops
  intro s port id owner x _ full asked
  obtain ⟨e, found, rfl⟩ := find_asked asked
  have after := ptpOf_captured_full x full
  refine ⟨_, exec_txTimestampCapture_asked x found, ?_, ?_, by simp, by simp, fun q other => ?_⟩
  · rw [ptpOf_merge (by simp), after, if_pos rfl, dropStamp_txq]
  · rw [ptpOf_merge (by simp), after, if_pos rfl, dropStamp_dropped]
  · rw [ptpOf_merge (by simp), after, if_neg other]

end Sys2Proof.Machine
end

section
/-! PROOFS. Passing a control queue: what displacing, entering and taking do to the pool and to the statistics, and that an
entry which finds an empty queue with room for it passes, and leaves every queue holding what it held. -/

namespace Sys2Proof.Machine

/-! ## What the passage of a control queue changes -/

/-- Work of the pool: it writes the pool, the statistics and the windows alone, and counts in the pool's group alone. -/
structure PoolWork (s t : State) : Prop where
  only : Only [.host, .stats, .pool, .out] s t
  stat : ∀ g, g ≠ 30 → stat t g = stat s g

theorem PoolWork.refl (s : State) : PoolWork s s := ⟨Only.refl _ _, fun _ _ => rfl⟩

theorem PoolWork.trans {s t u : State} (h : PoolWork s t) (g : PoolWork t u) : PoolWork s u :=
  ⟨h.only.after g.only, fun k hk => (g.stat k hk).trans (h.stat k hk)⟩

theorem stat_congr {s t : State} (h : t.stats = s.stats) (g : Nat) : stat t g = stat s g := by rw [stat, stat, h]

theorem PoolWork.of_only {ws : List Part} {s t : State} (h : Only ws s t)
    (hw : ∀ p ∈ ws, p ∈ [Part.host, .stats, .pool, .out]) (hs : Part.stats ∉ ws) : PoolWork s t :=
  ⟨h.mono hw, fun g _ => stat_congr (h.2 .stats hs) g⟩

theorem stat_count (g i : Nat) (s : State) (j : Nat) :
    stat (count g i s) j = if j = g then StatGroup.add (statWidth g i) i 1 (settled s g) else stat s j := tget_tput ..

theorem count_poolWork (i : Nat) (s : State) : PoolWork s (count 30 i s) :=
  ⟨(count_only ..).mono (by simp), fun g hg => by rw [stat_count, if_neg hg]⟩

theorem updQ_poolWork (q : Nat) (f : PoolQueue → PoolQueue) (s : State) : PoolWork s (updQ q f s) :=
  .of_only (updQ_only ..) (by simp) (by simp)

theorem updPool_poolWork (f : Pool → Pool) (s : State) : PoolWork s (updPool f s) :=
  .of_only (updPool_only ..) (by simp) (by simp)

theorem enterStored_poolWork (id : Nat) (x : Stored) (s : State) : PoolWork s (enterStored id x s) := updPool_poolWork ..

theorem free_poolWork (e : Entry) (s : State) : PoolWork s (free e s) := .of_only (free_only ..) (by simp) (by simp)

theorem displace_poolWork (q n prio k : Nat) (s : State) : PoolWork s (displace q n prio k s) := by
  induction k generalizing s with
  | zero => exact PoolWork.refl _
  | succ k ih =>
    unfold displace; dsimp only
    split
    · exact PoolWork.refl _
    · split
      · exact PoolWork.refl _
      · split
        · exact PoolWork.refl _
        · exact (((updQ_poolWork ..).trans (free_poolWork ..)).trans (count_poolWork ..)).trans (ih _)

theorem enqueueBerths_poolWork (q prio n : Nat) (bytes : List Byte) (s : State) :
    PoolWork s (enqueueBerths q prio n bytes s).2 := by
  unfold enqueueBerths; dsimp only
  refine (displace_poolWork q n prio (poolQ s q).entries.length s).trans ?_
  split
  · exact ((updQ_poolWork ..).trans (updPool_poolWork ..)).trans (enterStored_poolWork ..)
  · exact ((updQ_poolWork ..).trans (count_poolWork ..)).trans (count_poolWork ..)

theorem takeCtrl_poolWork (q : Nat) (s : State) : PoolWork s (takeCtrl q s).2 := by
  unfold takeCtrl; split
  · exact PoolWork.refl _
  · exact (updQ_poolWork ..).trans (free_poolWork ..)

theorem passCtrl_poolWork (q prio n : Nat) (bytes : List Byte) (s : State) : PoolWork s (passCtrl q prio n bytes s).2 := by
  unfold passCtrl; dsimp only; split
  · exact (enqueueBerths_poolWork ..).trans (takeCtrl_poolWork ..)
  · exact enqueueBerths_poolWork ..

theorem twinSend_poolWork (prio : Nat) (b : List Byte) (s : State) : PoolWork s (twinSend prio b s) := by
  unfold twinSend; dsimp only; split
  · exact (passCtrl_poolWork ..).trans (.of_only (emit_only ..) (by simp) (by simp))
  · exact passCtrl_poolWork ..

/-! ## What the queues hold -/

/-- Every queue holds the entries it held, and the queue windows are the same. -/
structure SameHeld (s t : State) : Prop where
  entries : ∀ q, (poolQ t q).entries = (poolQ s q).entries
  qwins : t.pool.qwins = s.pool.qwins

theorem SameHeld.refl (s : State) : SameHeld s s := ⟨fun _ => rfl, rfl⟩

theorem SameHeld.trans {s t u : State} (h : SameHeld s t) (g : SameHeld t u) : SameHeld s u :=
  ⟨fun q => (g.entries q).trans (h.entries q), g.qwins.trans h.qwins⟩

theorem SameHeld.of_pool {s t : State} (hq : t.pool.queues = s.pool.queues) (hw : t.pool.qwins = s.pool.qwins) :
    SameHeld s t := ⟨fun q => by rw [poolQ, poolQ, hq], hw⟩

theorem raise_pool (code : Nat) (p : List Byte) (s : State) : (raise code p s).pool = s.pool :=
  (raise_only code p s).2 .pool (by simp)

theorem notePressure_sameHeld (s : State) : SameHeld s (notePressure s) := by
  unfold notePressure; dsimp only
  split
  · exact .of_pool (by rw [raise_pool]; rfl) (by rw [raise_pool]; rfl)
  · split
    · exact .of_pool (by rw [raise_pool]; rfl) (by rw [raise_pool]; rfl)
    · exact SameHeld.refl _

/-- The return of an entry's berths leaves the queues alone (R427). -/
theorem free_sameHeld (e : Entry) (s : State) : SameHeld s (free e s) := by
  unfold free; dsimp only
  refine SameHeld.trans (.of_pool ?_ ?_) (notePressure_sameHeld _) <;> (dsimp only; split <;> rfl)

theorem SameHeld.used {s t : State} (h : SameHeld s t) (q : Nat) : used t q = used s q := by
  rw [Machine.used, Machine.used, h.entries, h.qwins]

/-- Room in a control queue follows from what the queues hold (R422). -/
theorem SameHeld.ctrlFits {s t : State} (h : SameHeld s t) (q n : Nat) : ctrlFits q n t = ctrlFits q n s := by
  have all : Machine.used t = Machine.used s := funext h.used
  rw [Machine.ctrlFits, Machine.ctrlFits, ctrlUsed, ctrlUsed, all]

theorem poolQ_enterStored (id : Nat) (x : Stored) (s : State) (q : Nat) : poolQ (enterStored id x s) q = poolQ s q := rfl

theorem poolQ_updPool {f : Pool → Pool} {s : State} (h : (f s.pool).queues = s.pool.queues) (q : Nat) :
    poolQ (updPool f s) q = poolQ s q := by rw [poolQ, updPool_pool, h, poolQ]

/-! ## An entry at an empty control queue (R421) -/

/-- The entry that a control queue makes of n berths. -/
def ctrlEntry (prio n : Nat) (bytes : List Byte) (s : State) : Entry := { id := s.pool.ids, fromMin := n, prio, bytes }

/-- An entry enters an empty control queue with room for it. -/
theorem enqueueBerths_empty {q n : Nat} {s : State} (empty : (poolQ s q).entries = []) (fits : ctrlFits q n s = true)
    (prio : Nat) (bytes : List Byte) :
    (enqueueBerths q prio n bytes s).1 = true ∧
    (∀ j, (poolQ (enqueueBerths q prio n bytes s).2 j).entries =
      if j = q then [ctrlEntry prio n bytes s] else (poolQ s j).entries) ∧
    (enqueueBerths q prio n bytes s).2.pool.qwins = s.pool.qwins := by
  have stays : displace q n prio (poolQ s q).entries.length s = s := by rw [empty]; rfl
  unfold enqueueBerths; dsimp only
  rw [stays, if_pos fits]
  refine ⟨rfl, fun j => ?_, rfl⟩
  dsimp only
  rw [poolQ_enterStored, poolQ_updPool rfl, poolQ_updQ]
  split
  · rw [empty]; rfl
  · rfl

/-- The block at a control queue's end takes its only entry, and the queue is empty. -/
theorem takeCtrl_only_entry {q : Nat} {e : Entry} {s : State} (only : (poolQ s q).entries = [e]) :
    takeCtrl q s = (some e, free e (updQ q (fun x => { x with entries := x.entries.erase e }) s)) := by
  have head : ctrlHead s q = some e := by rw [ctrlHead, only]; rfl
  rw [takeCtrl, head]

/-- An entry passes an empty control queue with room for it, and every queue holds what it held (R421, R422). -/
theorem passCtrl_empty {q n : Nat} {s : State} (empty : (poolQ s q).entries = []) (fits : ctrlFits q n s = true)
    (prio : Nat) (bytes : List Byte) :
    (passCtrl q prio n bytes s).1 = some (ctrlEntry prio n bytes s) ∧ SameHeld s (passCtrl q prio n bytes s).2 := by
  obtain ⟨held, entries, qwins⟩ := enqueueBerths_empty empty fits prio bytes
  have taken := takeCtrl_only_entry ((entries q).trans (if_pos rfl))
  unfold passCtrl; dsimp only
  rw [if_pos held, taken]
  refine ⟨rfl, SameHeld.trans (t := updQ q _ _) ⟨fun j => ?_, qwins⟩ (free_sameHeld ..)⟩
  rw [poolQ_updQ]
  split
  · next here => subst here; rw [empty]; dsimp only; rw [entries, if_pos rfl, List.erase_cons_head]
  · next other => rw [entries, if_neg other]

end Sys2Proof.Machine
end

section
/-! PROOFS. The express slot of a quay bus channel: what a write of a channel does, how a claim frame goes into the slots of
the channels set for claims, what a host's express frame meets, and from them the rule of the slot (R464). -/

namespace Sys2Proof.Machine

/-! ## Channels -/

theorem qch_congr {s t : State} (h : t.quay = s.quay) (c : Nat) : qch t c = qch s c := by rw [qch, qch, h]

theorem qpar_congr {s t : State} (h : t.par = s.par) (c : Nat) : qpar t c = qpar s c := by rw [qpar, qpar, h]

theorem setQch_only (c : Nat) (x : QuayCh) (s : State) : Only [.host, .quay, .out] s (setQch c x s) := by
  unfold setQch; dsimp only; split
  · exact (updQuay_only ..).mono (by simp)
  · exact ((updQuay_only ..).trans (raise_only ..)).mono (by simp)

theorem setQch_grows (c : Nat) (x : QuayCh) (s : State) : Grows s (setQch c x s) := by
  have written (f : Quay → Quay) : Grows s (updQuay f s) := (updQuay_only f s).grows (by simp) (by simp)
  unfold setQch; dsimp only; split
  · exact written _
  · exact (written _).trans (raise_grows ..)

theorem qch_setQch (c : Nat) (x : QuayCh) (s : State) (d : Nat) : qch (setQch c x s) d = if d = c then x else qch s d := by
  unfold setQch; dsimp only; split
  · exact tget_tput ..
  · rw [qch_congr ((raise_only ..).2 .quay (by simp))]; exact tget_tput ..

theorem updQch_only (c : Nat) (f : QuayCh → QuayCh) (s : State) : Only [.host, .quay, .out] s (updQch c f s) := setQch_only ..

theorem updQch_grows (c : Nat) (f : QuayCh → QuayCh) (s : State) : Grows s (updQch c f s) := setQch_grows ..

@[simp] theorem qch_updQch (c : Nat) (f : QuayCh → QuayCh) (s : State) (d : Nat) :
    qch (updQch c f s) d = if d = c then f (qch s c) else qch s d := qch_setQch ..

/-! ## Free-running counters (R56, R58) -/

/-- The latch of an interval keeps the free-running counters. -/
theorem settled_total (s : State) (g : Nat) : (settled s g).total = (stat s g).total := by
  unfold settled; split <;> rfl

theorem settled_on (s : State) (g : Nat) : (settled s g).on = (stat s g).on := by
  unfold settled; split <;> rfl

/-- An event adds one to the free-running counter of a group that counts (R58). -/
theorem total_count {g : Nat} {s : State} (on : (stat s g).on = true) (i : Nat) :
    tget 0 (stat (count g i s) g).total i = (tget 0 (stat s g).total i + 1) % 2 ^ statWidth g i := by
  rw [stat_count, if_pos rfl, StatGroup.add, settled_on, if_pos on, settled_total, tget_tput_same]

/-! ## Claim frames on the channels (R464, R467, R468) -/

/-- The parts that CLAIM_FRAME_SEND writes. -/
def claimParts : List Part := [.host, .stats, .pool, .quay, .out]

/-- A claim frame goes into a channel's express slot, and one that it replaces there is counted. -/
def placeClaim (c : Nat) (e : QbEntry) (s : State) : State :=
  updQch c (fun x => { x with express := some e }) (if (qch s c).express.isSome then count (31 + c) 5 s else s)

/-- The way of a claim frame to a channel: through control queue 118 into the express slot. -/
def sendClaim (c : Nat) (s : State) : State :=
  if (qch s c).st = 0 then s
  else
    let q := passCtrl 118 255 (berths (quayClaimFrame s c).data.length) (quayClaimFrame s c).data s
    if q.1.isNone then q.2 else placeClaim c (quayClaimFrame s c) q.2

/-- The harbourmaster's claim frames go to the channels set for claims and to the twin link (R467, R543, R544). -/
theorem exec_claimFrameSend_runs {s : State} (runs : s.sys.hmRuns = true) (served : 3 ≤ s.sys.modState)
    (power : s.pr.powerFail = false) : exec .claimFrameSend s = doneIn claimParts s (
      let t := each (claimChannels s) sendClaim s
      if pairMode t || t.cfg.defaultedBit then twinSend 255 (twinClaim t) t else t) := by
  have goes : ¬(!s.sys.hmRuns || decide (s.sys.modState < 3) || s.pr.powerFail) = true := by simp [runs, power, served]
  show execClaimFrameSend s = _
  rw [execClaimFrameSend, if_neg goes]
  rfl

/-- A claim frame takes one berth (R419, R468). -/
theorem berths_quayClaimFrame (s : State) (c : Nat) : berths (quayClaimFrame s c).data.length = 1 := by
  refine berths_one ?_
  unfold quayClaimFrame; dsimp only; split
  · simp
  · simp [claimTag]; omega

/-- A channel's claim frame follows from parts that the sending of claim frames leaves alone. -/
theorem quayClaimFrame_congr {s t : State} (h : Only claimParts s t) (c : Nat) :
    quayClaimFrame t c = quayClaimFrame s c := by
  have clk : t.clk = s.clk := h.2 .clk (by simp [claimParts])
  have sys : t.sys = s.sys := h.2 .sys (by simp [claimParts])
  have cluster : t.cluster = s.cluster := h.2 .cluster (by simp [claimParts])
  have cfg : t.cfg = s.cfg := h.2 .cfg (by simp [claimParts])
  have par : t.par = s.par := h.2 .par (by simp [claimParts])
  have time : t.time = s.time := h.2 .time (by simp [claimParts])
  have fleet : t.fleet = s.fleet := h.2 .fleet (by simp [claimParts])
  have pr : t.pr = s.pr := h.2 .pr (by simp [claimParts])
  unfold quayClaimFrame claimFlags takeoverOn clusterDown claim unitNo claimTag qpar
  rw [clk, sys, cluster, cfg, par, time, fleet, pr]

/-! ### What passes a channel by -/

/-- Work of the sending of claim frames that leaves a channel and its statistics as they are. -/
structure PassesBy (c : Nat) (s t : State) : Prop where
  only : Only claimParts s t
  ch : qch t c = qch s c
  stat : stat t (31 + c) = stat s (31 + c)

theorem PassesBy.refl (c : Nat) (s : State) : PassesBy c s s := ⟨Only.refl _ _, rfl, rfl⟩

theorem PassesBy.trans {c : Nat} {s t u : State} (h : PassesBy c s t) (g : PassesBy c t u) : PassesBy c s u :=
  ⟨h.only.after g.only, g.ch.trans h.ch, g.stat.trans h.stat⟩

theorem PoolWork.passesBy {s t : State} (h : PoolWork s t) (c : Nat) : PassesBy c s t :=
  ⟨h.only.mono (by simp [claimParts]), qch_congr (h.only.2 .quay (by simp)) c, h.stat _ (by omega)⟩

theorem placeClaim_only (c : Nat) (e : QbEntry) (s : State) : Only [.host, .stats, .quay, .out] s (placeClaim c e s) := by
  unfold placeClaim; split
  · exact ((count_only ..).trans (updQch_only ..)).mono (by simp)
  · exact (updQch_only ..).mono (by simp)

theorem stat_updQch (c : Nat) (f : QuayCh → QuayCh) (s : State) (g : Nat) : stat (updQch c f s) g = stat s g :=
  stat_congr ((updQch_only c f s).2 .stats (by simp)) g

theorem stat_placeClaim (c : Nat) (e : QbEntry) (s : State) (g : Nat) :
    stat (placeClaim c e s) g = stat (if (qch s c).express.isSome then count (31 + c) 5 s else s) g := stat_updQch ..

theorem qch_placeClaim (c : Nat) (e : QbEntry) (s : State) (d : Nat) :
    qch (placeClaim c e s) d = if d = c then { qch s c with express := some e } else qch s d := by
  have counted (j : Nat) : qch (if (qch s c).express.isSome then count (31 + c) 5 s else s) j = qch s j := by
    split <;> rfl
  rw [placeClaim, qch_updQch, counted, counted]

theorem placeClaim_passesBy {c d : Nat} (h : d ≠ c) (e : QbEntry) (s : State) : PassesBy d s (placeClaim c e s) := by
  refine ⟨(placeClaim_only ..).mono (by simp [claimParts]), by rw [qch_placeClaim, if_neg h], ?_⟩
  rw [stat_placeClaim]; split
  · rw [stat_count, if_neg (by omega)]
  · rfl

theorem sendClaim_passesBy {c d : Nat} (h : d ≠ c) (s : State) : PassesBy d s (sendClaim c s) := by
  unfold sendClaim; dsimp only; split
  · exact PassesBy.refl _ _
  · have passed := passCtrl_poolWork 118 255 (berths (quayClaimFrame s c).data.length) (quayClaimFrame s c).data s
    refine (passed.passesBy d).trans ?_
    split
    · exact PassesBy.refl _ _
    · exact placeClaim_passesBy h ..

/-- The claim frames of other channels pass a channel by. -/
theorem each_sendClaim_passesBy {d : Nat} {ks : List Nat} (h : d ∉ ks) (s : State) : PassesBy d s (each ks sendClaim s) := by
  induction ks generalizing s with
  | nil => exact PassesBy.refl _ _
  | cons k ks ih =>
    obtain ⟨other, later⟩ := not_or.1 (mt List.mem_cons.2 h)
    exact (sendClaim_passesBy other s).trans (ih later (sendClaim k s))

/-! ### Control queue 118 between the claim frames -/

/-- Control queue 118 is empty and takes a claim frame. -/
structure ClaimReady (s : State) : Prop where
  empty : (poolQ s 118).entries = []
  fits : ctrlFits 118 1 s = true

theorem ClaimReady.of_sameHeld {s t : State} (r : ClaimReady s) (h : SameHeld s t) : ClaimReady t :=
  ⟨(h.entries 118).trans r.empty, (h.ctrlFits 118 1).trans r.fits⟩

theorem placeClaim_sameHeld (c : Nat) (e : QbEntry) (s : State) : SameHeld s (placeClaim c e s) := by
  have pool : (placeClaim c e s).pool = s.pool := (placeClaim_only c e s).2 .pool (by simp)
  exact .of_pool (by rw [pool]) (by rw [pool])

/-- A claim frame that finds queue 118 ready reaches the slot of a channel in use (R464). -/
theorem sendClaim_ready {s : State} (r : ClaimReady s) {c : Nat} (inUse : (qch s c).st ≠ 0) :
    ∃ t, PoolWork s t ∧ SameHeld s t ∧ sendClaim c s = placeClaim c (quayClaimFrame s c) t := by
  obtain ⟨passed, held⟩ := passCtrl_empty r.empty r.fits 255 (quayClaimFrame s c).data
  refine ⟨_, passCtrl_poolWork .., held, ?_⟩
  rw [sendClaim, if_neg inUse, berths_quayClaimFrame]; dsimp only
  rw [passed]
  rfl

theorem sendClaim_keeps_ready {s : State} (r : ClaimReady s) (c : Nat) : ClaimReady (sendClaim c s) := by
  by_cases inUse : (qch s c).st = 0
  · rwa [sendClaim, if_pos inUse]
  · obtain ⟨t, -, held, e⟩ := sendClaim_ready r inUse
    rw [e]
    exact r.of_sameHeld (held.trans (placeClaim_sameHeld ..))

theorem each_sendClaim_keeps_ready {s : State} (r : ClaimReady s) (ks : List Nat) : ClaimReady (each ks sendClaim s) := by
  induction ks generalizing s with
  | nil => exact r
  | cons k ks ih => exact ih (sendClaim_keeps_ready r k)

/-! ### The slot after the claim frames (R464) -/

/-- From s to t a channel's express slot took the channel's claim frame, and CLAIMS_REPLACED counted one that it held. -/
structure ClaimPlaced (c : Nat) (s t : State) : Prop where
  express : (qch t c).express = some (quayClaimFrame s c)
  replaced : (stat s (31 + c)).on = true → tget 0 (stat t (31 + c)).total 5 =
    if (qch s c).express = none then tget 0 (stat s (31 + c)).total 5 else (tget 0 (stat s (31 + c)).total 5 + 1) % 2 ^ 32

theorem ClaimPlaced.after {c : Nat} {s t u : State} (p : PassesBy c s t) (h : ClaimPlaced c t u) : ClaimPlaced c s u := by
  obtain ⟨express, replaced⟩ := h
  rw [p.ch, p.stat] at replaced
  exact ⟨express.trans (congrArg some (quayClaimFrame_congr p.only c)), replaced⟩

theorem ClaimPlaced.before {c : Nat} {s t u : State} (h : ClaimPlaced c s t) (p : PassesBy c t u) : ClaimPlaced c s u :=
  ⟨by rw [p.ch]; exact h.express, by rw [p.stat]; exact h.replaced⟩

theorem placeClaim_placed (c : Nat) (s : State) : ClaimPlaced c s (placeClaim c (quayClaimFrame s c) s) := by
  refine ⟨by rw [qch_placeClaim, if_pos rfl], fun on => ?_⟩
  have width : statWidth (31 + c) 5 = 32 := if_neg (by omega)
  rw [stat_placeClaim]
  cases held : (qch s c).express with
  | none => rfl
  | some e => exact (total_count on 5).trans (by rw [width]; rfl)

theorem sendClaim_placed {s : State} (r : ClaimReady s) {c : Nat} (inUse : (qch s c).st ≠ 0) :
    ClaimPlaced c s (sendClaim c s) := by
  obtain ⟨t, work, -, e⟩ := sendClaim_ready r inUse
  have passed := work.passesBy c
  rw [e, ← quayClaimFrame_congr passed.only]
  exact (placeClaim_placed c t).after passed

/-- Of a round of claim frames each channel in use holds its own. -/
theorem each_sendClaim_placed {s : State} (r : ClaimReady s) {c : Nat} (inUse : (qch s c).st ≠ 0) {ks : List Nat}
    (mem : c ∈ ks) (once : ks.Nodup) : ClaimPlaced c s (each ks sendClaim s) := by
  induction ks generalizing s with
  | nil => cases mem
  | cons k ks ih =>
    obtain ⟨notLater, once⟩ := List.nodup_cons.1 once
    show ClaimPlaced c s (each ks sendClaim (sendClaim k s))
    by_cases here : c = k
    · subst here
      exact (sendClaim_placed r inUse).before (each_sendClaim_passesBy notLater _)
    · have passed := sendClaim_passesBy here s
      have later := ih (sendClaim_keeps_ready r k) (passed.ch ▸ inUse) ((List.mem_cons.1 mem).resolve_left here) once
      exact later.after passed

theorem sendClaim_only (c : Nat) (s : State) : Only claimParts s (sendClaim c s) :=
  (sendClaim_passesBy (Nat.succ_ne_self c) s).only

/-- The claim frame of a channel in use goes into its express slot, and one that it replaces is counted (R464). -/
theorem exec_claimFrameSend_placed {s : State} {c : Nat} (runs : s.sys.hmRuns = true) (served : 3 ≤ s.sys.modState)
    (power : s.pr.powerFail = false) (claims : c ∈ claimChannels s) (inUse : (qch s c).st ≠ 0) (r : ClaimReady s) :
    ∃ t, exec .claimFrameSend s = .next t ∧ ClaimPlaced c s t := by
  have placed := each_sendClaim_placed r inUse claims (List.nodup_range.filter _)
  have only : Only claimParts s (each (claimChannels s) sendClaim s) := each_only sendClaim_only ..
  rw [exec_claimFrameSend_runs runs served power]; dsimp only
  generalize each (claimChannels s) sendClaim s = t at placed only
  have twin : PoolWork t (if pairMode t || t.cfg.defaultedBit then twinSend 255 (twinClaim t) t else t) := by
    split
    · exact twinSend_poolWork ..
    · exact PoolWork.refl _
  have only := only.after (twin.passesBy c).only
  exact ⟨_, doneIn_eq only (congrArg Clk.tide (only.2 .clk (by simp [claimParts]))), placed.before (twin.passesBy c)⟩

/-! ## A host's express frame (R464, R477, R478) -/

/-- The payload of a QBUS_SEND holds one well-formed express frame, and its channel's queue keeps within its limit. -/
structure ExpressSend (s : State) (p e : List Byte) : Prop where
  channel : u8 p 0 ≤ 3
  single : u8 p 1 = 1
  entries : sendEntries 1 (p.drop 4) = some [e]
  good : entryBad (qpar s (u8 p 0)).formatSet (u8 p 0) e = false
  express : 2 ≤ u8 e 16
  room : (qch s (u8 p 0)).queue.length ≤ 64

/-- The channel takes no express frame of a host: it is set for claims, OFF or listen-only, or the module is tender. -/
def closedToExpress (s : State) (c : Nat) : Bool :=
  (qpar s c).claims || (qch s c).st == 0 || (qpar s c).listenOnly || s.sys.tender

/-- A host's express frame goes into the slot of its channel. -/
def takeExpress (w c : Nat) (e : List Byte) (s : State) : State :=
  updQch c (fun x => { x with express := some (entryOfBytes w s e), seq := x.seq % 65536 }) s

/-- What a well-formed express frame of a host meets: a closed channel, an occupied slot, or its place. -/
theorem qbusSendF_express {s : State} {p e : List Byte} (h : ExpressSend s p e) (w : Nat) : qbusSendF w p s =
    if closedToExpress s (u8 p 0) then refuse w stSTATE s
    else if (qch s (u8 p 0)).express.isSome then refuse w stBUSY s
    else ok w (le 2 (qch s (u8 p 0)).seq ++ le 2 0) (takeExpress w (u8 p 0) e s) := by
  obtain ⟨-, single, entries, good, express, room⟩ := h
  have noneQueued : [e].filter (fun e => u8 e 16 < 2) = [] := by simpa using Nat.lt_of_succ_le express
  have oneExpress : [e].filter (fun e => u8 e 16 ≥ 2) = [e] := by simpa using express
  have good : [e].any (entryBad (qpar s (u8 p 0)).formatSet (u8 p 0)) = false := by simp [good]
  have room : ¬(qch s (u8 p 0)).queue.length + ([] : List QbEntry).length > 64 := Nat.not_lt.2 room
  unfold qbusSendF; dsimp only
  rw [single, entries]; dsimp only
  rw [noneQueued, oneExpress, good, List.map_nil, if_neg Bool.false_ne_true, if_neg room]
  simp [closedToExpress, takeExpress]

theorem exec_qbusSend_express {s : State} {w : Nat} {c : Cmd} {e : List Byte} (h : Waits s w c) (code : c.code = 0x0B40)
    (x : ExpressSend s c.payload e) : exec (.qbusSend w) s = doneIn [.host, .quay, .out] s (
      if closedToExpress s (u8 c.payload 0) then refuse w stSTATE (takeTurn s)
      else if (qch s (u8 c.payload 0)).express.isSome then refuse w stBUSY (takeTurn s)
      else ok w (le 2 (qch s (u8 c.payload 0)).seq ++ le 2 0) (takeExpress w (u8 c.payload 0) e (takeTurn s))) := by
  have inRange : (decide (u8 c.payload 0 > 3) || u8 c.payload 1 == 0 || decide (u8 c.payload 1 > 16)) = false := by
    simp [x.single, x.channel]
  have run : onCmd w 0x0B40 (fun p => u8 p 0 > 3 || u8 p 1 == 0 || u8 p 1 > 16) (qbusSendF w) s = _ :=
    code ▸ onCmd_runs h inRange _
  have turn : ExpressSend (takeTurn s) c.payload e := { x with }
  show execQbusSend w s = _
  rw [execQbusSend, run]
  exact congrArg (doneIn _ s) (qbusSendF_express turn w)

/-- A command whose meaning on its turn is a refusal is refused (R96, R97). -/
theorem refused_of_turn {i : Instr} {s : State} {w : Nat} {c : Cmd} {status : Nat} {ws : List Part} (h : Waits s w c)
    (hw : ∀ p ∈ [Part.host, .out], p ∈ ws) (e : exec i s = doneIn ws s (refuse w status (takeTurn s))) :
    Refused i s w c status := by
  have only : Only [.host, .out] s (refuse w status (takeTurn s)) := (takeTurn_only s).after (refuse_only ..)
  refine ⟨_, e.trans (doneIn_eq (only.mono hw) (congrArg Clk.tide (only.2 .clk (by simp)))),
    respond_answers_after h (takeTurn_grows s) _ _, only, fun x hx => ?_⟩
  exact (win_respond_other _ _ _ hx).trans (win_takeTurn ..)

/-- A closed channel refuses a host's express frame with STATE (R478). -/
theorem exec_qbusSend_closed {s : State} {w : Nat} {c : Cmd} {e : List Byte} (h : Waits s w c) (code : c.code = 0x0B40)
    (x : ExpressSend s c.payload e) (closed : closedToExpress s (u8 c.payload 0) = true) :
    Refused (.qbusSend w) s w c stSTATE := by
  have run := exec_qbusSend_express h code x
  rw [if_pos closed] at run
  exact refused_of_turn h (by simp) run

/-- An occupied slot refuses a host's express frame with BUSY (R464, R478). -/
theorem exec_qbusSend_occupied {s : State} {w : Nat} {c : Cmd} {e : List Byte} (h : Waits s w c) (code : c.code = 0x0B40)
    (x : ExpressSend s c.payload e) (openTo : closedToExpress s (u8 c.payload 0) = false)
    (occupied : (qch s (u8 c.payload 0)).express.isSome = true) : Refused (.qbusSend w) s w c stBUSY := by
  have run := exec_qbusSend_express h code x
  rw [if_neg (Bool.eq_false_iff.1 openTo), if_pos occupied] at run
  exact refused_of_turn h (by simp) run

/-- An empty slot takes a host's express frame, and the answer names the queue sequence and no entry (R464, R477). -/
theorem exec_qbusSend_placed {s : State} {w : Nat} {c : Cmd} {e : List Byte} (h : Waits s w c) (code : c.code = 0x0B40)
    (x : ExpressSend s c.payload e) (openTo : closedToExpress s (u8 c.payload 0) = false)
    (empty : (qch s (u8 c.payload 0)).express = none) :
    ∃ t, exec (.qbusSend w) s = .next t ∧ Answered s t w c stOK (le 2 (qch s (u8 c.payload 0)).seq ++ le 2 0) ∧
      qch t (u8 c.payload 0) = { qch s (u8 c.payload 0) with
        express := some (entryOfBytes w s e), seq := (qch s (u8 c.payload 0)).seq % 65536 } := by
  rw [exec_qbusSend_express h code x, if_neg (Bool.eq_false_iff.1 openTo), if_neg (by simp [empty])]
  have only : Only [.host, .quay, .out] s (ok w (le 2 (qch s (u8 c.payload 0)).seq ++ le 2 0)
      (takeExpress w (u8 c.payload 0) e (takeTurn s))) :=
    (((takeTurn_only s).trans (updQch_only ..)).trans (ok_only ..)).mono (by simp)
  refine ⟨_, doneIn_eq only (congrArg Clk.tide (only.2 .clk (by simp))),
    respond_answers_after h ((takeTurn_grows s).trans (updQch_grows ..)) _ _, ?_⟩
  rw [qch_congr ((ok_only ..).2 .quay (by simp)), takeExpress, qch_updQch, if_pos rfl]
  rfl

/-- Settles O58: a round of claim frames fills the slots of the channels set for claims, and of the other channels' slots an
empty one takes a host's frame. -/
theorem expressSlot : Obligations.ExpressSlot := by
  unfold Obligations.ExpressSlot
  refine ⟨fun s c runs served power claims inUse empty fits => ?_,
    fun s w c e h => fun (code : c.code = 0x0B40) channel single entries good express room => ?_⟩
  · obtain ⟨t, run, placed⟩ := exec_claimFrameSend_placed runs served power claims inUse ⟨empty, fits⟩
    exact ⟨t, run, placed.express, placed.replaced⟩
  · have x : ExpressSend s c.payload e := ⟨channel, single, entries, good, express, room⟩
    refine ⟨fun claims => exec_qbusSend_closed h code x ?_, fun claims inUse sends pilot => ?_⟩
    · rw [closedToExpress, claims]; rfl
    · have openTo : closedToExpress s (u8 c.payload 0) = false := by
        simp [closedToExpress, claims, inUse, sends, pilot]
      exact ⟨fun held => exec_qbusSend_occupied h code x openTo (Option.isSome_iff_ne_none.2 held),
        exec_qbusSend_placed h code x openTo⟩

end Sys2Proof.Machine
end

section
/-! PROOFS. What leaves the boot part alone: the boot counters and trial state of MRAM are no service's, so each operation of
a service keeps them, and with the services their work at a tide edge, at a correction and at the start-up steps (R31,
R612). One lemma for each operation, in the order of the model's files. -/

namespace Sys2Proof.Machine

/-! ## Composition

The lemmas below are proved `by rfl` where they hold by definition: a lemma that is the term `rfl` leaves no trace in the
proof that simp builds, and then the condition of a loop lemma is not recognised as proved. -/

theorem Only.boot {ws : List Part} {s t : State} (h : Only ws s t) (hw : Part.boot ∉ ws) : t.boot = s.boot := h.2 .boot hw

@[simp] theorem ite_boot (c : Prop) [Decidable c] (s t : State) :
    (if c then s else t).boot = if c then s.boot else t.boot := apply_ite ..

@[simp] theorem each_boot {f : Nat → State → State} (hf : ∀ k s, (f k s).boot = s.boot) (ks : List Nat) (s : State) :
    (each ks f s).boot = s.boot := by
  induction ks generalizing s with
  | nil => rfl
  | cons k ks ih => exact (ih (f k s)).trans (hf k s)

@[simp] theorem foldl_boot {α : Type} {f : State → α → State} (hf : ∀ s x, (f s x).boot = s.boot) (l : List α) (s : State) :
    (l.foldl f s).boot = s.boot := by
  induction l generalizing s with
  | nil => rfl
  | cons x l ih => exact (ih (f s x)).trans (hf s x)

@[simp] theorem foldl_snd_boot {α β : Type} {f : β × State → α → β × State} (hf : ∀ r x, (f r x).2.boot = r.2.boot)
    (l : List α) (r : β × State) : (l.foldl f r).2.boot = r.2.boot := by
  induction l generalizing r with
  | nil => rfl
  | cons x l ih => exact (ih (f r x)).trans (hf r x)

/-! ## Windows, events, logbook records and statistics -/

@[simp] theorem emitAll_boot (os s) : (emitAll os s).boot = s.boot := by rfl
@[simp] theorem setWin_boot (w v s) : (setWin w v s).boot = s.boot := (setWin_only ..).boot (by simp)
@[simp] theorem msix_boot (v s) : (msix v s).boot = s.boot := (msix_only ..).boot (by simp)
@[simp] theorem respond_boot (w status payload s) : (respond w status payload s).boot = s.boot :=
  (respond_only ..).boot (by simp)
@[simp] theorem refuse_boot (w status s) : (refuse w status s).boot = s.boot := (refuse_only ..).boot (by simp)
@[simp] theorem ok_boot (w payload s) : (ok w payload s).boot = s.boot := (ok_only ..).boot (by simp)
@[simp] theorem loadEvt_boot (w s) : (loadEvt w s).boot = s.boot := (loadEvt_only ..).boot (by simp)
@[simp] theorem post_boot (e x s) : (post e x s).boot = s.boot := (post_only ..).boot (by simp)
@[simp] theorem inOneCycle_boot {f : State → State} (hf : ∀ s, (f s).boot = s.boot) (s : State) :
    (inOneCycle f s).boot = s.boot := by simp [inOneCycle, hf]
@[simp] theorem raise_boot (code payload s) : (raise code payload s).boot = s.boot := (raise_only ..).boot (by simp)
@[simp] theorem logIt_boot (svc occ sev source data s) : (logIt svc occ sev source data s).boot = s.boot :=
  (logIt_only ..).boot (by simp)
@[simp] theorem logOwn_boot (code sev payload s) : (logOwn code sev payload s).boot = s.boot :=
  (logOwn_only ..).boot (by simp)
@[simp] theorem finish_boot (j status s) : (finish j status s).boot = s.boot := (finish_only ..).boot (by simp)
@[simp] theorem finishOpt_boot (j status s) : (finishOpt j status s).boot = s.boot := (finishOpt_only ..).boot (by simp)
@[simp] theorem updMiss_boot (fn f s) : (updMiss fn f s).boot = s.boot := (updMiss_only ..).boot (by simp)
@[simp] theorem updStat_boot (g f s) : (updStat g f s).boot = s.boot := (updStat_only ..).boot (by simp)
@[simp] theorem countN_boot (g i n s) : (countN g i n s).boot = s.boot := by rfl
@[simp] theorem count_boot (g i s) : (count g i s).boot = s.boot := (count_only ..).boot (by simp)
@[simp] theorem markAll_boot (gs f s) : (markAll gs f s).boot = s.boot := by simp [markAll]
@[simp] theorem missEvent_boot (fn kind run s) : (missEvent fn kind run s).boot = s.boot := by simp [missEvent]
@[simp] theorem closeOpen_boot (s) : (closeOpen s).boot = s.boot := by simp [closeOpen]
@[simp] theorem noteState_boot (s) : (noteState s).boot = s.boot := (noteState_only ..).boot (by simp)
@[simp] theorem closeSession_boot (w reason s) : (closeSession w reason s).boot = s.boot :=
  (closeSession_only ..).boot (by simp)

/-! ## Radio dies -/

@[simp] theorem updDie_boot (d f s) : (updDie d f s).boot = s.boot := (updDie_only ..).boot (by simp)
@[simp] theorem setLedger_boot (e l s) : (setLedger e l s).boot = s.boot := (setLedger_only ..).boot (by simp)
@[simp] theorem startLedgers_boot (s) : (startLedgers s).boot = s.boot :=
  each_boot (fun _ _ => by dsimp only; split <;> simp) ..
@[simp] theorem setLink_boot (a l s) : (setLink a l s).boot = s.boot := (setLink_only ..).boot (by simp)
@[simp] theorem linkEvent_boot (a old s) : (linkEvent a old s).boot = s.boot := by simp [linkEvent]
@[simp] theorem newLink_boot (n l s) : (newLink n l s).boot = s.boot := by simp [newLink]
@[simp] theorem linkSummary_boot (s) : (linkSummary s).boot = s.boot := by simp [linkSummary]
@[simp] theorem returned_boot (node status s) : (returned node status s).boot = s.boot := by rfl
@[simp] theorem cancelFollowOn_boot (node s) : (cancelFollowOn node s).boot = s.boot := by simp [cancelFollowOn]
@[simp] theorem cancelCell_boot (c s) : (cancelCell c s).boot = s.boot := by unfold cancelCell; split <;> simp
@[simp] theorem dropIndirect_boot (node status s) : (dropIndirect node status s).boot = s.boot := by simp [dropIndirect]
@[simp] theorem moveLink_boot (node x s) : (moveLink node x s).boot = s.boot := by simp [moveLink]
@[simp] theorem setCells_boot (k before fs s) : (setCells k before fs s).boot = s.boot :=
  (foldl_boot (by simp) ..).trans (each_boot (fun _ _ => by dsimp only; split <;> simp) ..)
@[simp] theorem cancelCells_boot (s) : (cancelCells s).boot = s.boot := by simp [cancelCells]
@[simp] theorem reloadCells_boot (s) : (reloadCells s).boot = s.boot := by simp [reloadCells]
@[simp] theorem relive_boot (s0 s) : (relive s0 s).boot = s.boot := by simp [relive]
@[simp] theorem dieEvent_boot (d kind s) : (dieEvent d kind s).boot = s.boot := by simp [dieEvent]
@[simp] theorem strobeAt_boot (strobe d s) : (strobeAt strobe d s).boot = s.boot := by simp [strobeAt]
@[simp] theorem linkAt_boot (down d s) : (linkAt down d s).boot = s.boot := by simp [linkAt]
@[simp] theorem nodePlaced_boot (n s) : (nodePlaced n s).boot = s.boot := by simp [nodePlaced]
@[simp] theorem dropRecalls_boot (x s) : (dropRecalls x s).boot = s.boot := by rfl
@[simp] theorem moveDie_boot (d s) : (moveDie d s).boot = s.boot := by simp [moveDie]
@[simp] theorem refreshShadow_boot (s) : (refreshShadow s).boot = s.boot := by rfl
@[simp] theorem radioAtEdge_boot (strobe down s) : (radioAtEdge strobe down s).boot = s.boot := by simp [radioAtEdge]
@[simp] theorem massAdrift_boot (s) : (massAdrift s).boot = s.boot := by simp [massAdrift]
@[simp] theorem stopRadio_boot (x s) : (stopRadio x s).boot = s.boot := by unfold stopRadio; split <;> simp
@[simp] theorem startRadio_boot (x s) : (startRadio x s).boot = s.boot := by rfl

/-! ## Lantern service -/

@[simp] theorem updNode_boot (n f s) : (updNode n f s).boot = s.boot := (updNode_only ..).boot (by simp)
@[simp] theorem setNodeState_boot (n st reason s) : (setNodeState n st reason s).boot = s.boot := by simp [setNodeState]
@[simp] theorem stateSummary_boot (s) : (stateSummary s).boot = s.boot := by simp [stateSummary]
@[simp] theorem syncNode_boot (n s) : (syncNode n s).boot = s.boot := by simp [syncNode]
@[simp] theorem queueMsg_boot (n x kind left body s) : (queueMsg n x kind left body s).boot = s.boot := by rfl
@[simp] theorem dropMsgs_boot (n kind s) : (dropMsgs n kind s).boot = s.boot := by rfl
@[simp] theorem sendPlace_boot (n x epoch fromTide s) : (sendPlace n x epoch fromTide s).boot = s.boot := by rfl
@[simp] theorem sendReporting_boot (n s) : (sendReporting n s).boot = s.boot := by rfl
@[simp] theorem endMove_boot (n s) : (endMove n s).boot = s.boot := by simp [endMove]
@[simp] theorem left_boot (n s) : (left n s).boot = s.boot := by simp [left]
@[simp] theorem recallAll_boot (s) : (recallAll s).boot = s.boot := by simp [recallAll]
@[simp] theorem stopBowWave_boot (s) : (stopBowWave s).boot = s.boot := by simp [stopBowWave]
@[simp] theorem startBowWave_boot (s) : (startBowWave s).boot = s.boot := by rfl
@[simp] theorem lanternAtEdge_boot (s) : (lanternAtEdge s).boot = s.boot := by
  unfold lanternAtEdge; dsimp only; split <;> simp

/-! ## Configuration store -/

@[simp] theorem putRecord_boot (r s) : (putRecord r s).boot = s.boot := by rfl
@[simp] theorem cfgApplied_boot (tide version kind s) : (cfgApplied tide version kind s).boot = s.boot := by
  simp [cfgApplied]
@[simp] theorem startDefaults_boot (m r v s) : (startDefaults m r v s).boot = s.boot := by simp [startDefaults]
@[simp] theorem startOn_boot (img s) : (startOn img s).boot = s.boot := by unfold startOn; split <;> simp
@[simp] theorem startMigrated_boot (k s) : (startMigrated k s).boot = s.boot := by
  unfold startMigrated; dsimp only; split <;> simp
@[simp] theorem startConfig_boot (s) : (startConfig s).boot = s.boot := by
  unfold startConfig; dsimp only; (repeat' split) <;> simp

/-! ## Berth pool -/

@[simp] theorem updQ_boot (q f s) : (updQ q f s).boot = s.boot := (updQ_only ..).boot (by simp)
@[simp] theorem updQwin_boot (w f s) : (updQwin w f s).boot = s.boot := (updQwin_only ..).boot (by simp)
@[simp] theorem enterStored_boot (id x s) : (enterStored id x s).boot = s.boot := by rfl
@[simp] theorem notePressure_boot (s) : (notePressure s).boot = s.boot := (notePressure_only ..).boot (by simp)
@[simp] theorem append_boot (q n e s) : (append q n e s).boot = s.boot := by rfl
@[simp] theorem trimIn_boot (id n q s) : (trimIn id n q s).boot = s.boot := by rfl
@[simp] theorem admitAll_boot (qs att check n mk s hd) : (admitAll qs att check n mk s hd).2.boot = s.boot := by
  unfold admitAll; dsimp only; split <;> simp [apply_ite Prod.snd]
@[simp] theorem free_boot (e s) : (free e s).boot = s.boot := (free_only ..).boot (by simp)
@[simp] theorem dropHead_boot (q s) : (dropHead q s).boot = s.boot := (dropHead_only ..).boot (by simp)
@[simp] theorem clearQ_boot (q s) : (clearQ q s).boot = s.boot := by simp [clearQ]
@[simp] theorem updLt_boot (n f s) : (updLt n f s).boot = s.boot := (updLt_only ..).boot (by simp)
@[simp] theorem passData_boot (q att n s) : (passData q att n s).2.boot = s.boot := by
  unfold passData; dsimp only; (repeat' split) <;> simp
@[simp] theorem updPort_boot (p f s) : (updPort p f s).boot = s.boot := (updPort_only ..).boot (by simp)
@[simp] theorem countP_boot (p i n s) : (countP p i n s).boot = s.boot := by simp [countP]
@[simp] theorem ownQueued_boot (att p c size ts o s) : (ownQueued att p c size ts o s).2.boot = s.boot := by
  unfold ownQueued; (repeat' split) <;> simp
@[simp] theorem ownFrame_boot (p c size ts o s) : (ownFrame p c size ts o s).boot = s.boot := by simp [ownFrame]
@[simp] theorem sendDatagram_boot (v p addr udp b s) : (sendDatagram v p addr udp b s).boot = s.boot := by
  simp [sendDatagram]
@[simp] theorem qwDrop_boot (w s) : (qwDrop w s).boot = s.boot := by rfl
@[simp] theorem feedIn_boot (w kind att check n hd b s) : (feedIn w kind att check n hd b s).2.boot = s.boot := by
  unfold feedIn; dsimp only; (repeat' split) <;> simp
@[simp] theorem feed_boot (w kind att bytes s) : (feed w kind att bytes s).2.boot = s.boot := by simp [feed]

/-! ## Time unit -/

@[simp] theorem updSrc_boot (k f s) : (updSrc k f s).boot = s.boot := (updSrc_only ..).boot (by simp)
@[simp] theorem updPtp_boot (p f s) : (updPtp p f s).boot = s.boot := (updPtp_only ..).boot (by simp)
@[simp] theorem toState_boot (st src s) : (toState st src s).boot = s.boot := by rfl
@[simp] theorem lowerFlag_boot (s) : (lowerFlag s).boot = s.boot := by simp [lowerFlag]
@[simp] theorem flagJump_boot (k d reason s) : (flagJump k d reason s).boot = s.boot := by simp [flagJump]
@[simp] theorem invalidate_boot (k s) : (invalidate k s).boot = s.boot := by
  unfold invalidate; dsimp only; (repeat' split) <;> simp
@[simp] theorem refer_boot (d s) : (refer d s).boot = s.boot := by rfl
@[simp] theorem updTimeQ_boot (s) : (updTimeQ s).boot = s.boot := by simp [updTimeQ]
@[simp] theorem timeAtEdge_boot (s) : (timeAtEdge s).boot = s.boot := by unfold timeAtEdge; dsimp only; split <;> simp
@[simp] theorem ptpSend_boot (p kind seq log fields s) : (ptpSend p kind seq log fields s).boot = s.boot := by
  simp [ptpSend]
@[simp] theorem ptpRequest_boot (kind p s) : (ptpRequest kind p s).boot = s.boot := by simp [ptpRequest]
@[simp] theorem peerRequests_boot (s) : (peerRequests s).boot = s.boot := by simp [peerRequests]
@[simp] theorem bmca_boot (s) : (bmca s).boot = s.boot := by unfold bmca; dsimp only; split <;> simp
@[simp] theorem stampDrops_boot (s) : (stampDrops s).boot = s.boot := by simp [stampDrops]
@[simp] theorem recheckSources_boot (s) : (recheckSources s).boot = s.boot := by simp [recheckSources]

/-! ## Frame ports -/

@[simp] theorem linesAtEdge_boot (l s) : (linesAtEdge l s).boot = s.boot := by simp [linesAtEdge]
@[simp] theorem gateOverruns_boot (s) : (gateOverruns s).boot = s.boot :=
  each_boot (fun _ _ => by dsimp only; split <;> simp) ..
@[simp] theorem flushFdb_boot (s) : (flushFdb s).boot = s.boot := by rfl
@[simp] theorem discardQueued_boot (p s) : (discardQueued p s).boot = s.boot := by simp [discardQueued]
@[simp] theorem failHead_boot (p t s) : (failHead p t s).boot = s.boot := by unfold failHead; split <;> simp
@[simp] theorem fpLink_boot (p kind speed s) : (fpLink p kind speed s).boot = s.boot := by simp [fpLink]
@[simp] theorem ringEvent_boot (old b0 b1 s) : (ringEvent old b0 b1 s).boot = s.boot := by simp [ringEvent]
@[simp] theorem sendRaps_boot (kind s) : (sendRaps kind s).boot = s.boot := by simp [sendRaps]
@[simp] theorem ringSet_boot (st blocks wtr s) : (ringSet st blocks wtr s).boot = s.boot := by simp [ringSet]
@[simp] theorem ringStart_boot (s) : (ringStart s).boot = s.boot := by simp [ringStart]
@[simp] theorem showBeacons_boot (p s) : (showBeacons p s).boot = s.boot := by simp [showBeacons]
@[simp] theorem linkLost_boot (p cut s) : (linkLost p cut s).boot = s.boot := by
  unfold linkLost; (repeat' split) <;> simp
@[simp] theorem gatesNow_boot (p s) : (gatesNow p s).boot = s.boot := by rfl
@[simp] theorem stopPort_boot (p s) : (stopPort p s).boot = s.boot := by simp [stopPort]
@[simp] theorem startPort_boot (p s) : (startPort p s).boot = s.boot := by simp [startPort]
@[simp] theorem portsAtEdge_boot (s) : (portsAtEdge s).boot = s.boot := by simp [portsAtEdge]

/-! ## Queue windows and lighters -/

@[simp] theorem releaseRec_boot (w s) : (releaseRec w s).boot = s.boot := by simp [releaseRec]
@[simp] theorem ltIrq_boot (n s) : (ltIrq n s).boot = s.boot := by unfold ltIrq; dsimp only; split <;> simp
@[simp] theorem endDesc_boot (n d code sor eor trunc k s) : (endDesc n d code sor eor trunc k s).boot = s.boot := by
  simp [endDesc]
@[simp] theorem truncateRec_boot (n s) : (truncateRec n s).boot = s.boot := by simp [truncateRec]
@[simp] theorem disableLt_boot (n s) : (disableLt n s).boot = s.boot := by unfold disableLt; dsimp only; split <;> simp
@[simp] theorem poolAtEdge_boot (s) : (poolAtEdge s).boot = s.boot := by simp [poolAtEdge]
@[simp] theorem releaseLt_boot (n s) : (releaseLt n s).boot = s.boot := by simp [releaseLt]
@[simp] theorem releaseQwin_boot (q s) : (releaseQwin q s).boot = s.boot := by simp [releaseQwin]

/-! ## Reservation engine -/

@[simp] theorem updVeh_boot (v f s) : (updVeh v f s).boot = s.boot := (updVeh_only ..).boot (by simp)
@[simp] theorem syncVehicles_boot (s) : (syncVehicles s).boot = s.boot :=
  foldl_boot (fun _ _ => by dsimp only; split <;> simp) ..
@[simp] theorem vehicleEvent_boot (v old new s) : (vehicleEvent v old new s).boot = s.boot := by simp [vehicleEvent]
@[simp] theorem fleetSummary_boot (s) : (fleetSummary s).boot = s.boot := by simp [fleetSummary]
@[simp] theorem haltHold_boot (v s) : (haltHold v s).boot = s.boot := by rfl
@[simp] theorem enterHeld_boot (v s) : (enterHeld v s).boot = s.boot := by simp [enterHeld]
@[simp] theorem holdAnew_boot (v s) : (holdAnew v s).boot = s.boot := by simp [holdAnew]
@[simp] theorem holdAll_boot (s) : (holdAll s).boot = s.boot := by simp [holdAll]
@[simp] theorem takeOp_boot (s o) : (takeOp s o).boot = s.boot := by rfl
@[simp] theorem dropPast_boot (s) : (dropPast s).boot = s.boot := by simp [dropPast]
@[simp] theorem takeReleased_boot (s) : (takeReleased s).boot = s.boot := by simp [takeReleased]
@[simp] theorem fleetAtEdge_boot (s) : (fleetAtEdge s).boot = s.boot := by simp [fleetAtEdge]
@[simp] theorem dropSkipped_boot (a b s) : (dropSkipped a b s).boot = s.boot := by simp [dropSkipped]

/-! ## Fleet service -/

@[simp] theorem setRelays_boot (on s) : (setRelays on s).boot = s.boot := by simp [setRelays]
@[simp] theorem checkRelays_boot (s) : (checkRelays s).boot = s.boot := by simp [checkRelays]
@[simp] theorem sendLink_boot (v kind body s) : (sendLink v kind body s).boot = s.boot := by simp [sendLink]
@[simp] theorem sendTask_boot (v t epoch action s) : (sendTask v t epoch action s).boot = s.boot := by simp [sendTask]
@[simp] theorem stopFleet_boot (s) : (stopFleet s).boot = s.boot := by simp [stopFleet]
@[simp] theorem startFleet_boot (s) : (startFleet s).boot = s.boot := by simp [startFleet]

/-! ## Redundancy service -/

@[simp] theorem prAtEdge_boot (s) : (prAtEdge s).boot = s.boot := by simp [prAtEdge]

/-! ## Quay bus -/

@[simp] theorem updQch_boot (c f s) : (updQch c f s).boot = s.boot := (updQch_only ..).boot (by simp)
@[simp] theorem txDone_boot (l s) : (txDone l s).boot = s.boot := by simp [txDone]
@[simp] theorem qbResult_boot (c result e s) : (qbResult c result e s).boot = s.boot := by simp [qbResult]
@[simp] theorem quayAtEdge_boot (s) : (quayAtEdge s).boot = s.boot := by simp [quayAtEdge]
@[simp] theorem qbRetire_boot (c result sel s) : (qbRetire c result sel s).boot = s.boot := by simp [qbRetire]
@[simp] theorem rxDeliver_boot (c r s) : (rxDeliver c r s).boot = s.boot := by
  unfold rxDeliver; dsimp only; (repeat' split) <;> simp
@[simp] theorem stopQuay_boot (c s) : (stopQuay c s).boot = s.boot := by simp [stopQuay]
@[simp] theorem startQuay_boot (c s) : (startQuay c s).boot = s.boot := by simp [startQuay]

/-! ## Metering -/

@[simp] theorem updI_boot (c f s) : (updI c f s).boot = s.boot := (updI_only ..).boot (by simp)
@[simp] theorem updPout_boot (o f s) : (updPout o f s).boot = s.boot := (updPout_only ..).boot (by simp)
@[simp] theorem mark_boot (i s) : (mark i s).boot = s.boot := by rfl
@[simp] theorem pulseEvent_boot (o kind n s) : (pulseEvent o kind n s).boot = s.boot := by simp [pulseEvent]
@[simp] theorem setPulse_boot (o par s) : (setPulse o par s).boot = s.boot := by simp [setPulse]
@[simp] theorem beginSave_boot (kind j s) : (beginSave kind j s).boot = s.boot := by
  unfold beginSave; dsimp only; (repeat' split) <;> simp
@[simp] theorem saveDone_boot (s) : (saveDone s).boot = s.boot := by unfold saveDone; split <;> simp
@[simp] theorem endRun_boot (s) : (endRun s).boot = s.boot := by unfold endRun; split <;> simp
@[simp] theorem freshMeter_boot (s) : (freshMeter s).boot = s.boot := by rfl
@[simp] theorem takeCopy_boot (v s) : (takeCopy v s).boot = s.boot := by rfl
@[simp] theorem energyGapEvent_boot (tide us kind sev s) : (energyGapEvent tide us kind sev s).boot = s.boot := by
  simp [energyGapEvent]
@[simp] theorem meterStart_boot (s) : (meterStart s).boot = s.boot := by unfold meterStart; split <;> simp
@[simp] theorem batteryBack_boot (s) : (batteryBack s).boot = s.boot := by unfold batteryBack; (repeat' split) <;> simp
@[simp] theorem keepScales_boot (s) : (keepScales s).boot = s.boot := by rfl
@[simp] theorem resetGains_boot (p s) : (resetGains p s).boot = s.boot := by simp [resetGains]

/-! ## Sign and lamp engine -/

@[simp] theorem updLport_boot (p f s) : (updLport p f s).boot = s.boot := (updLport_only ..).boot (by simp)
@[simp] theorem updLamp_boot (p i f s) : (updLamp p i f s).boot = s.boot := by rfl
@[simp] theorem updSign_boot (p f s) : (updSign p f s).boot = s.boot := (updSign_only ..).boot (by simp)
@[simp] theorem drainSign_boot (p s) : (drainSign p s).boot = s.boot :=
  (drainSign_movesWrites ..).only.boot (by simp [signParts])
@[simp] theorem lampAtEdge_boot (s) : (lampAtEdge s).boot = s.boot := by simp [lampAtEdge]
@[simp] theorem stopLamp_boot (p s) : (stopLamp p s).boot = s.boot := by rfl
@[simp] theorem cancelSwap_boot (p s) : (cancelSwap p s).boot = s.boot := by unfold cancelSwap; split <;> simp
@[simp] theorem stopSign_boot (p s) : (stopSign p s).boot = s.boot := by simp [stopSign]
@[simp] theorem lampConfig_boot (s) : (lampConfig s).boot = s.boot := by simp [lampConfig]

/-! ## Logbook -/

@[simp] theorem closeHalf_boot (s) : (closeHalf s).boot = s.boot := by simp [closeHalf]
@[simp] theorem storeRec_boot (r s) : (storeRec r s).boot = s.boot := by simp [storeRec]
@[simp] theorem answerNote_boot (tag seq s) : (answerNote tag seq s).boot = s.boot := by
  unfold answerNote; split <;> simp
@[simp] theorem flushRecs_boot (rs s) : (flushRecs rs s).boot = s.boot := by
  induction rs generalizing s with
  | nil => rfl
  | cons r rs ih => simp [flushRecs, ih]
@[simp] theorem flushStaging_boot (s) : (flushStaging s).boot = s.boot := by simp [flushStaging]
@[simp] theorem reclaim_boot (seg s) : (reclaim seg s).2.boot = s.boot := by unfold reclaim; dsimp only; split <;> simp
@[simp] theorem storeSegment_boot (recs s) : (storeSegment recs s).boot = s.boot := by
  unfold storeSegment; (repeat' split) <;> simp
@[simp] theorem recoverTail_boot (s) : (recoverTail s).2.boot = s.boot := by simp [recoverTail]

/-! ## GNSS baseband -/

@[simp] theorem setChan_boot (c v s) : (setChan c v s).boot = s.boot := by rfl
@[simp] theorem updChan_boot (c f s) : (updChan c f s).boot = s.boot := (updChan_only ..).boot (by simp)
@[simp] theorem updRf_boot (r f s) : (updRf r f s).boot = s.boot := (updRf_only ..).boot (by simp)
@[simp] theorem updAnt_boot (a f s) : (updAnt a f s).boot = s.boot := (updAnt_only ..).boot (by simp)
@[simp] theorem updBand_boot (b f s) : (updBand b f s).boot = s.boot := (updBand_only ..).boot (by simp)
@[simp] theorem giveBack_boot (r st s) : (giveBack r st s).boot = s.boot := by rfl
@[simp] theorem startSearches_boot (k s) : (startSearches k s).boot = s.boot := by
  induction k generalizing s with
  | zero => rfl
  | succ k ih => unfold startSearches; (repeat' split) <;> simp [ih]
@[simp] theorem gnssNotch_boot (rf notch kind off s) : (gnssNotch rf notch kind off s).boot = s.boot := by
  simp [gnssNotch]
@[simp] theorem setNotch_boot (rf n v s) : (setNotch rf n v s).boot = s.boot := by rfl
@[simp] theorem gnssAntenna_boot (a kind s) : (gnssAntenna a kind s).boot = s.boot := by simp [gnssAntenna]
@[simp] theorem endChans_boot (s) : (endChans s).boot = s.boot := by simp [endChans]
@[simp] theorem gnssFalse_boot (band kind s) : (gnssFalse band kind s).boot = s.boot := by simp [gnssFalse]
@[simp] theorem fsUntest_boot (b s) : (fsUntest b s).boot = s.boot := by simp [fsUntest]
@[simp] theorem fsDown_boot (s) : (fsDown s).boot = s.boot := by simp [fsDown]
@[simp] theorem fsBaselines_boot (s) : (fsBaselines s).boot = s.boot := by simp [fsBaselines]
@[simp] theorem followLine_boot (x s) : (followLine x s).boot = s.boot := by simp [followLine]
@[simp] theorem startChan_boot (x s) : (startChan x s).boot = s.boot := by simp [startChan]
@[simp] theorem antennaBack_boot (e a s) : (antennaBack e a s).boot = s.boot := by simp [antennaBack]
@[simp] theorem gnssAtEdge_boot (e s) : (gnssAtEdge e s).boot = s.boot := by simp [gnssAtEdge]
@[simp] theorem stopSignal_boot (a row s) : (stopSignal a row s).boot = s.boot := by simp [stopSignal]
@[simp] theorem startSignal_boot (a row s) : (startSignal a row s).boot = s.boot := by rfl
@[simp] theorem applyGnssSetting_boot (x s) : (applyGnssSetting x s).boot = s.boot := by
  unfold applyGnssSetting; split <;> simp

/-! ## Reference station -/

@[simp] theorem refEvent_boot (old new cause s) : (refEvent old new cause s).boot = s.boot := by simp [refEvent]
@[simp] theorem enterRef_boot (st cause s) : (enterRef st cause s).boot = s.boot := by simp [enterRef]
@[simp] theorem goRef_boot (edge st cause s) : (goRef edge st cause s).boot = s.boot := by simp [goRef]
@[simp] theorem setIntegrity_boot (k s) : (setIntegrity k s).boot = s.boot := by simp [setIntegrity]
@[simp] theorem newCoordinates_boot (s) : (newCoordinates s).boot = s.boot := by simp [newCoordinates]
@[simp] theorem resumeRef_boot (edge cause s) : (resumeRef edge cause s).boot = s.boot := by
  unfold resumeRef; split <;> simp
@[simp] theorem freshRef_boot (edge cause s) : (freshRef edge cause s).boot = s.boot := by simp [freshRef]
@[simp] theorem stopRef_boot (edge cause s) : (stopRef edge cause s).boot = s.boot := by simp [stopRef]
@[simp] theorem startPos_boot (s) : (startPos s).boot = s.boot := by rfl
@[simp] theorem stopPos_boot (s) : (stopPos s).boot = s.boot := by rfl
@[simp] theorem takeUtc_boot (s) : (takeUtc s).boot = s.boot := by unfold takeUtc; split <;> simp
@[simp] theorem refSummary_boot (s) : (refSummary s).boot = s.boot := by simp [refSummary]
@[simp] theorem refAtEdge_boot (s) : (refAtEdge s).boot = s.boot := by
  unfold refAtEdge; dsimp only; (repeat' split) <;> simp
@[simp] theorem refDown_boot (s) : (refDown s).boot = s.boot := by simp [refDown]
@[simp] theorem refRestored_boot (s) : (refRestored s).boot = s.boot := by simp [refRestored]

/-! ## Resets -/

@[simp] theorem hmRestart_boot (byCommand s) : (hmRestart byCommand s).boot = s.boot := by simp [hmRestart]

/-! ## Update service -/

@[simp] theorem restState_boot (s) : (restState s).boot = s.boot := by rfl
@[simp] theorem updResult_boot (kind cause st v s) : (updResult kind cause st v s).boot = s.boot := by simp [updResult]
@[simp] theorem applyKey_boot (e s) : (applyKey e s).boot = s.boot := by rfl
@[simp] theorem applyKeys_boot (r s) : (applyKeys r s).boot = s.boot := by simp [applyKeys]
@[simp] theorem dropLoad_boot (s) : (dropLoad s).boot = s.boot := by rfl
@[simp] theorem setSlot_boot (k v s) : (setSlot k v s).boot = s.boot := by rfl
@[simp] theorem cancelLater_boot (e s) : (cancelLater e s).boot = s.boot := by
  unfold cancelLater; dsimp only; (repeat' split) <;> simp
@[simp] theorem updAtEdge_boot (s) : (updAtEdge s).boot = s.boot := by rfl
@[simp] theorem cancelActivation_boot (s) : (cancelActivation s).boot = s.boot := by
  unfold cancelActivation; split <;> simp

/-! ## Campaigns -/

@[simp] theorem updCnode_boot (n f s) : (updCnode n f s).boot = s.boot := (updCnode_only ..).boot (by simp)
@[simp] theorem campSummary_boot (s) : (campSummary s).boot = s.boot := by simp [campSummary]
@[simp] theorem sendBegin_boot (n s) : (sendBegin n s).boot = s.boot := by simp [sendBegin]
@[simp] theorem sendActivate_boot (n t s) : (sendActivate n t s).boot = s.boot := by rfl
@[simp] theorem activateHeld_boot (n s) : (activateHeld n s).boot = s.boot := by simp [activateHeld]
@[simp] theorem campAtEdge_boot (s) : (campAtEdge s).boot = s.boot := by simp [campAtEdge]

/-! ## Pins and plate -/

@[simp] theorem showGpio_boot (s) : (showGpio s).boot = s.boot := by simp [showGpio]
@[simp] theorem gpioStart_boot (s) : (gpioStart s).boot = s.boot := by simp [gpioStart]
@[simp] theorem gpioSummary_boot (s) : (gpioSummary s).boot = s.boot := by simp [gpioSummary]
@[simp] theorem thermalApply_boot (old new s) : (thermalApply old new s).boot = s.boot := by simp [thermalApply]
@[simp] theorem thermalStart_boot (plate s) : (thermalStart plate s).boot = s.boot := by simp [thermalStart]

/-! ## Sessions -/

@[simp] theorem deliverHeld_boot (w s) : (deliverHeld w s).boot = s.boot := (deliverHeld_only ..).boot (by simp)

/-! ## Configuration sections -/

@[simp] theorem replaced_boot (ns s) : (replaced ns s).boot = s.boot := by simp [replaced]
@[simp] theorem startRadios_boot (xs s) : (startRadios xs s).boot = s.boot := by simp [startRadios]
@[simp] theorem startPtp_boot (p s) : (startPtp p s).boot = s.boot := by simp [startPtp]
@[simp] theorem takeTime_boot (p s) : (takeTime p s).boot = s.boot := by simp [takeTime]
@[simp] theorem takeRadio_boot (p s) : (takeRadio p s).boot = s.boot := by simp [takeRadio]
@[simp] theorem takeLantern_boot (p s) : (takeLantern p s).boot = s.boot := by simp [takeLantern]
@[simp] theorem takeGnss_boot (p s) : (takeGnss p s).boot = s.boot := by simp [takeGnss]
@[simp] theorem refCoordinates_boot (s) : (refCoordinates s).boot = s.boot := by rfl
@[simp] theorem takeRef_boot (p s) : (takeRef p s).boot = s.boot := by simp [takeRef]
@[simp] theorem takeFleet_boot (p s) : (takeFleet p s).boot = s.boot := by simp [takeFleet]
@[simp] theorem startPorts_boot (s) : (startPorts s).boot = s.boot := by simp [startPorts]
@[simp] theorem takePorts_boot (p s) : (takePorts p s).boot = s.boot := by simp [takePorts]
@[simp] theorem restartLt_boot (n s) : (restartLt n s).boot = s.boot := by simp [restartLt]
@[simp] theorem takePool_boot (p s) : (takePool p s).boot = s.boot := by
  unfold takePool; dsimp only
  rw [notePressure_boot, markAll_boot, updPar_boot, each_boot fun _ _ => updQwin_boot .., each_boot restartLt_boot]
@[simp] theorem startQuays_boot (s) : (startQuays s).boot = s.boot := by simp [startQuays]
@[simp] theorem takeQuays_boot (p s) : (takeQuays p s).boot = s.boot := by simp [takeQuays]
@[simp] theorem takeMeter_boot (p s) : (takeMeter p s).boot = s.boot := by simp [takeMeter]
@[simp] theorem takeLamps_boot (p s) : (takeLamps p s).boot = s.boot := by simp [takeLamps]
@[simp] theorem takePr_boot (p s) : (takePr p s).boot = s.boot := by simp [takePr]
@[simp] theorem newRights_boot (s) : (newRights s).boot = s.boot := by simp [newRights]
@[simp] theorem takeSection_boot (p t s) : (takeSection p t s).boot = s.boot := by unfold takeSection; split <;> simp
@[simp] theorem takeWaiting_boot (s) : (takeWaiting s).boot = s.boot := by unfold takeWaiting; split <;> simp
@[simp] theorem applyConfig_boot (s) : (applyConfig s).boot = s.boot := by
  unfold applyConfig; dsimp only; (repeat' split) <;> simp

/-! ## Roles -/

@[simp] theorem takeServices_boot (own b s) : (takeServices own b s).boot = s.boot := by rfl
@[simp] theorem refill_boot (b s) : (refill b s).boot = s.boot := by rfl

/-! ## Edges and corrections -/

@[simp] theorem endOfTide_boot (s) : (endOfTide s).boot = s.boot := by simp [endOfTide]
@[simp] theorem nextNumber_boot (s) : (nextNumber s).boot = s.boot := by rfl
@[simp] theorem gapFlags_boot (gap f s) : (gapFlags gap f s).boot = s.boot := by simp [gapFlags]
@[simp] theorem beginStats_boot (s) : (beginStats s).boot = s.boot := by simp [beginStats]
@[simp] theorem keepalives_boot (s) : (keepalives s).boot = s.boot := by simp [keepalives]
@[simp] theorem refillBuckets_boot (s) : (refillBuckets s).boot = s.boot := by rfl
@[simp] theorem heartbeatCheck_boot (s) : (heartbeatCheck s).boot = s.boot := by simp [heartbeatCheck]
@[simp] theorem drainTls_boot (s) : (drainTls s).boot = s.boot := by simp [drainTls]
@[simp] theorem serveTls_boot (s) : (serveTls s).boot = s.boot := by simp [serveTls]
@[simp] theorem condGeneration_boot (s) : (condGeneration s).boot = s.boot := by simp [condGeneration]
@[simp] theorem edgeWork_boot (e s) : (edgeWork e s).boot = s.boot := by simp [edgeWork]
@[simp] theorem tideEdge_boot (e s) : (tideEdge e s).boot = s.boot := by simp [tideEdge]
@[simp] theorem lapseJump_boot (c j d s) : (lapseJump c j d s).boot = s.boot := by simp [lapseJump]
@[simp] theorem gapEvent_boot (k m skip d cause s) : (gapEvent k m skip d cause s).boot = s.boot := by simp [gapEvent]
@[simp] theorem afterCorrection_boot (k m skip d s) : (afterCorrection k m skip d s).boot = s.boot := by
  simp [afterCorrection]
@[simp] theorem applyCorrection_boot (c d s) : (applyCorrection c d s).boot = s.boot := by simp [applyCorrection]
@[simp] theorem correct_boot (s) : (correct s).boot = s.boot := by unfold correct; (repeat' split) <;> simp

/-! ## Start-up -/

@[simp] theorem enterRecovery_boot (cause s) : (enterRecovery cause s).boot = s.boot := by simp [enterRecovery]
@[simp] theorem loadTime_boot (s) : (loadTime s).boot = s.boot := by rfl
@[simp] theorem markTrial_boot (s) : (markTrial s).boot = s.boot := by rfl
@[simp] theorem startRecord_boot (recovered s) : (startRecord recovered s).boot = s.boot := by simp [startRecord]
@[simp] theorem startResults_boot (s) : (startResults s).boot = s.boot := by unfold startResults; split <;> simp
@[simp] theorem warmConfig_boot (s) : (warmConfig s).boot = s.boot := by simp [warmConfig]
@[simp] theorem recAnswer_boot (c op status payload s) : (recAnswer c op status payload s).boot = s.boot := by rfl
@[simp] theorem updRecov_boot (f s) : (updRecov f s).boot = s.boot := by rfl

end Sys2Proof.Machine
end

section
/-! PROOFS. The count of failed starts: what keeps it on a change of the boot part, what each command does to it, where
every start of the boot ROM ends, and from them the rule of the count (R613). -/

namespace Sys2Proof.Machine

/-! ## Changes of the boot part that keep the count -/

@[simp] theorem setSeal_failedStarts (k v s) : (setSeal k v s).boot.failedStarts = s.boot.failedStarts := by rfl

@[simp] theorem beginInstall_failedStarts (j s) : (beginInstall j s).boot.failedStarts = s.boot.failedStarts := by
  simp [beginInstall]

@[simp] theorem emptySlots_failedStarts (s) : (emptySlots s).boot.failedStarts = s.boot.failedStarts := by
  simp [emptySlots]

@[simp] theorem recInstalled_failedStarts (s) : (recInstalled s).boot.failedStarts = s.boot.failedStarts := by
  unfold recInstalled; dsimp only; split <;> simp

@[simp] theorem confirm_failedStarts (t s) : (confirm t s).boot.failedStarts = s.boot.failedStarts := by
  simp [confirm]

@[simp] theorem fullReset_failedStarts (kind s) : (fullReset kind s).boot.failedStarts = s.boot.failedStarts := by
  simp [fullReset]

@[simp] theorem revertState_failedStarts (cause s) : (revertState cause s).boot.failedStarts = s.boot.failedStarts := by
  unfold revertState; split <;> rfl

@[simp] theorem revertReset_failedStarts (cause s) : (revertReset cause s).boot.failedStarts = s.boot.failedStarts := by
  simp [revertReset]

@[simp] theorem hmReset_failedStarts (c s) : (hmReset c s).boot.failedStarts = s.boot.failedStarts := by
  unfold hmReset; split <;> simp

@[simp] theorem romRevert_failedStarts (cause s) : (romRevert cause s).boot.failedStarts = s.boot.failedStarts :=
  revertState_failedStarts cause s

/-! ## Tamwyn commands and recovery requests -/

theorem perform_failedStarts {w code bad f} (hf : ∀ p s, (f p s).boot.failedStarts = s.boot.failedStarts) (c s) :
    (perform w code bad f c s).boot.failedStarts = s.boot.failedStarts := by
  unfold perform; (repeat' split) <;> simp [hf]

theorem performLeft_failedStarts {w code bad f} (hf : ∀ p s, (f p s).boot.failedStarts = s.boot.failedStarts)
    (sid c o s) : (performLeft w code bad f sid c o s).boot.failedStarts = s.boot.failedStarts := by
  unfold performLeft; split
  · rfl
  · exact perform_failedStarts hf c _

theorem onCmd_failedStarts {w code bad f} (hf : ∀ p s, (f p s).boot.failedStarts = s.boot.failedStarts) (s) :
    (onCmd w code bad f s).boot.failedStarts = s.boot.failedStarts := by
  unfold onCmd; split
  · rfl
  · split
    · rfl
    · split <;> split
      · rfl
      · exact performLeft_failedStarts hf ..
      · rfl
      · split
        · rfl
        · exact perform_failedStarts hf ..

theorem updCancelF_failedStarts (w p s) : (updCancelF w p s).boot.failedStarts = s.boot.failedStarts := by
  unfold updCancelF; dsimp only; (repeat' split) <;> simp

theorem updInstallF_failedStarts (w p s) : (updInstallF w p s).boot.failedStarts = s.boot.failedStarts := by
  unfold updInstallF; split <;> simp

/-! ## Ends of commands -/

theorem done_failedStarts {s t u : State} (run : done s t = .next u) (h : t.boot.failedStarts = s.boot.failedStarts) :
    u.boot.failedStarts = s.boot.failedStarts := by
  cases run; exact h

theorem doneAt_failedStarts {k : Nat} {s t u : State} (run : doneAt k s t = .next u)
    (h : t.boot.failedStarts = s.boot.failedStarts) : u.boot.failedStarts = s.boot.failedStarts := by
  cases run; exact h

theorem doneIn_failedStarts {ws : List Part} {s t u : State} (run : doneIn ws s t = .next u)
    (h : t.boot.failedStarts = s.boot.failedStarts) : u.boot.failedStarts = s.boot.failedStarts := by
  rw [doneIn_next run, merge_boot]; split
  · exact h
  · rfl

theorem doneIn_boot {ws : List Part} {s t u : State} (run : doneIn ws s t = .next u) (h : ws.contains Part.boot = true) :
    u.boot = t.boot := by
  rw [doneIn_next run, merge_boot, if_pos h]

theorem doneIn_failedStarts_of_not_boot {ws : List Part} {s t u : State} (run : doneIn ws s t = .next u)
    (h : ws.contains Part.boot = false) : u.boot.failedStarts = s.boot.failedStarts := by
  rw [doneIn_next run, merge_boot, h]; rfl

theorem answered_failedStarts {s t u : State} (run : answered s t = .next u) :
    u.boot.failedStarts = s.boot.failedStarts := by
  cases run; rfl

/-- The commands at which the count of failed starts may change (R612, R613, R622). -/
def countsStarts : Instr → Bool
  | .romStart _ | .servicesStarted | .recRestart _ => true
  | _ => false

/-- Every command but these keeps the count: one that may write the boot part does so by what it means, and every other one
writes parts without it. -/
theorem exec_failedStarts_eq {i : Instr} {s t : State} (run : exec i s = .next t) (h : countsStarts i = false) :
    t.boot.failedStarts = s.boot.failedStarts := by
  cases i with
  | romStart | servicesStarted | recRestart => cases h
  | tideEdge | timeCorrectionApply => exact doneAt_failedStarts run (by simp)
  | harbourmasterRun => exact doneAt_failedStarts run (by split <;> simp)
  | cfgApplyEdge => exact done_failedStarts run (by simp)
  | clusterRestoreComplete | lockstepMismatch | mainDomainLoss | powerFailClear | coldStart | externalReset | startTimeout
  | configChecked => exact done_failedStarts run (by split <;> simp)
  | resetEdge | activationEdge | trialWindowExpiry => exact done_failedStarts run (by (repeat' split) <;> simp)
  | updCancel w => exact done_failedStarts run (onCmd_failedStarts (updCancelF_failedStarts w) s)
  | updInstall w => exact doneIn_failedStarts run (onCmd_failedStarts (updInstallF_failedStarts w) s)
  | packageVerifyComplete => exact doneIn_failedStarts run (by dsimp only; (repeat' split) <;> simp)
  | installComplete | confirmation | recoveryVerifyComplete | recoveryInstallComplete =>
    exact doneIn_failedStarts run (by (repeat' split) <;> simp)
  | sessionInfo | keepalive | sysInfo | sysState | cfgStatus | timeStatus | timePortStatus | rtcStatus | radioStatus
  | radioLedger | radioNeighbour | radioStats | lantStatus | lantNode | lantBalance | gnssStatus | gnssChannel
  | gnssFsStatus | gnssStats | refStatus | posVehicle | refStats | fleetStatus | fleetVehicle | fleetTask | fleetPath
  | fleetStats | fpPortStatus | fpStats | fpCounters | fpGateList | poolStatus | queueStatus | poolStats | lighterStatus
  | qbusStatus | qbusStats | mtrStatus | mtrPoint | mtrInterval | mtrBatteryLog | lampStatus | signStatus | lampSignStats
  | prStatus | prHealth | prCheckpoints | prThermalStatus | updStatus | updManifest | updImages | updCampaignStatus
  | updCampaignNode | logStatus | logRead | sysGpio => exact answered_failedStarts run
  | _ => exact doneIn_failedStarts_of_not_boot run rfl

/-! ## The start-up state that hosts are shown -/

/-- Showing the start-up state changes none of it. -/
theorem noteState_sys (s : State) : ∃ v, (noteState s).sys = { s.sys with shown := v } := by
  have raised (code : Nat) (p : List Byte) (t : State) : (raise code p t).sys = t.sys :=
    (raise_only code p t).2 .sys (by simp)
  unfold noteState; dsimp only; split
  · exact ⟨_, rfl⟩
  · split
    · exact ⟨_, rfl⟩
    · exact ⟨_, raised ..⟩

@[simp] theorem noteState_modState (s) : (noteState s).sys.modState = s.sys.modState := by
  obtain ⟨v, same⟩ := noteState_sys s
  rw [same]

@[simp] theorem noteState_romDone (s) : (noteState s).sys.romDone = s.sys.romDone := by
  obtain ⟨v, same⟩ := noteState_sys s
  rw [same]

/-! ## The boot ROM (R612) -/

theorem exec_romStart {s : State} (rom : inRom s = true) (low : Bool) : exec (.romStart low) s =
    .next (State.merge [.sys, .boot, .host, .cfg, .upd, .meter, .out] s (romStart low s)) := by
  show execRomStart low s = _
  rw [execRomStart, if_pos rom]; rfl

/-- A start outside a trial, or an activation's, starts the chosen area when its seal verifies. -/
theorem romStart_startArea {s : State} (kind : s.sys.kind ≠ 9) (few : s.boot.failedStarts < 3)
    (ok : areaOk s (runSlot s) = true) (activation : s.boot.trial = true → s.sys.kind = 6) :
    romStart false s = startArea s := by
  have keeps : (s.boot.trial && s.sys.kind != 6) = false := by
    cases trial : s.boot.trial
    · rfl
    · simp [activation trial]
  simp [romStart, kind, Nat.not_le.2 few, keeps, ok]

/-- After three failed starts the ROM enters recovery mode. -/
theorem romStart_enterRecovery {s : State} (kind : s.sys.kind ≠ 9) (many : 3 ≤ s.boot.failedStarts) :
    romStart false s = enterRecovery 4 s := by
  simp [romStart, kind, many]

/-- Every start ends in the start of an area or in recovery mode, where no revert on the way has changed the count. -/
theorem romStart_ends (low : Bool) (s : State) : ∃ u, u.boot.failedStarts = s.boot.failedStarts ∧
    (romStart low s = startArea u ∨ ∃ cause, romStart low s = enterRecovery cause u) := by
  have reverted : (if s.boot.trial && s.sys.kind != 6 then romRevert 2 s else s).boot.failedStarts =
      s.boot.failedStarts := by split <;> simp
  unfold romStart; dsimp only
  generalize (if s.boot.trial && s.sys.kind != 6 then romRevert 2 s else s) = t at reverted ⊢
  have again := (romRevert_failedStarts 4 t).trans reverted
  split
  · exact ⟨s, rfl, .inr ⟨1, rfl⟩⟩
  · split
    · exact ⟨s, rfl, .inr ⟨2, rfl⟩⟩
    · split
      · exact ⟨s, rfl, .inr ⟨4, rfl⟩⟩
      · split
        · exact ⟨t, reverted, .inl rfl⟩
        · split
          · split
            · exact ⟨_, again, .inl rfl⟩
            · exact ⟨_, again, .inr ⟨3, rfl⟩⟩
          · exact ⟨t, reverted, .inr ⟨3, rfl⟩⟩

theorem startArea_failedStarts (s : State) : (startArea s).boot.failedStarts =
    if s.boot.trial then s.boot.failedStarts else s.boot.failedStarts + 1 := rfl

theorem le_romStart_failedStarts (low : Bool) (s : State) :
    s.boot.failedStarts ≤ (romStart low s).boot.failedStarts := by
  obtain ⟨u, same, starts | ⟨cause, recovers⟩⟩ := romStart_ends low s
  · rw [starts, startArea_failedStarts, ← same]; split <;> omega
  · rw [recovers, enterRecovery_boot, same]

/-! ## The count at every command (R613, R622) -/

theorem exec_romStart_failedStarts {low : Bool} {s t : State} (run : exec (.romStart low) s = .next t) :
    s.boot.failedStarts ≤ t.boot.failedStarts := by
  rw [doneIn_boot run rfl]; split
  · exact le_romStart_failedStarts low s
  · exact le_rfl

theorem exec_servicesStarted_failedStarts {s t : State} (run : exec .servicesStarted s = .next t) :
    t.boot.failedStarts = s.boot.failedStarts ∨ t.boot.failedStarts = 0 := by
  rw [doneIn_boot run rfl]; split
  · exact .inl rfl
  · exact .inr (by simp)

theorem exec_recRestart_failedStarts {c : Nat} {s t : State} (run : exec (.recRestart c) s = .next t) :
    t.boot.failedStarts = s.boot.failedStarts ∨ t.boot.failedStarts = 0 := by
  cases run
  show (onRecovery c 5 _ s).boot.failedStarts = _ ∨ (onRecovery c 5 _ s).boot.failedStarts = _
  unfold onRecovery; (repeat' split) <;> simp

theorem exec_failedStarts_le_or_zero {i : Instr} {s t : State} (run : exec i s = .next t) :
    s.boot.failedStarts ≤ t.boot.failedStarts ∨ t.boot.failedStarts = 0 := by
  cases counted : countsStarts i with
  | false => exact .inl (exec_failedStarts_eq run counted).ge
  | true =>
    cases i with
    | romStart low => exact .inl (exec_romStart_failedStarts run)
    | servicesStarted => exact (exec_servicesStarted_failedStarts run).imp_left Eq.ge
    | recRestart c => exact (exec_recRestart_failedStarts run).imp_left Eq.ge
    | _ => cases counted

theorem step_failedStarts_le_or_zero {s t : State} (run : step s = .next t) :
    s.boot.failedStarts ≤ t.boot.failedStarts ∨ t.boot.failedStarts = 0 := by
  unfold step at run
  split at run
  · cases run; exact .inl le_rfl
  · exact (exec_failedStarts_le_or_zero run :)

/-- A module whose services have started is RUNNING, and its failed starts are forgotten. -/
theorem exec_servicesStarted {s : State} (state : s.sys.modState = 3) (runs : s.sys.hmRuns = true) :
    ∃ u, exec .servicesStarted s = .next (State.merge [.clk, .sys, .boot, .host, .stats, .time, .radio, .pool, .ports,
      .ref, .fleet, .quay, .log, .out] s (noteState u)) ∧ u.sys.modState = 4 ∧ u.boot.failedStarts = 0 := by
  have due : ¬(s.sys.modState != 3 || !s.sys.hmRuns) = true := by simp [state, runs]
  exact ⟨_, congrArg (doneIn _ s) (if_neg due), rfl, rfl⟩

/-- Settles O59: RUNNING clears the count, a start outside a trial adds one to it, three of them lead into recovery mode, and
no step lowers it but to 0. -/
theorem failedStarts : Obligations.FailedStarts := by
  unfold Obligations.FailedStarts
  refine ⟨fun s state runs => ?_, fun s rom kind few ok => ⟨fun trial activation => ?_, fun noTrial => ?_⟩,
    fun s rom kind many => ?_, fun s t => step_failedStarts_le_or_zero⟩
  · obtain ⟨u, run, running, cleared⟩ := exec_servicesStarted state runs
    refine ⟨_, run, ?_, ?_⟩
    · rw [merge_sys, if_pos (by simp), noteState_modState, running]
    · rw [merge_boot, if_pos (by simp), noteState_boot, cleared]
  · refine ⟨_, exec_romStart rom false, ?_⟩
    rw [romStart_startArea kind few ok fun _ => activation]
    exact ⟨rfl, (startArea_failedStarts s).trans (if_pos trial)⟩
  · refine ⟨_, exec_romStart rom false, ?_⟩
    rw [romStart_startArea kind few ok (by simp [noTrial])]
    exact ⟨rfl, (startArea_failedStarts s).trans (if_neg (by simp [noTrial]))⟩
  · refine ⟨_, exec_romStart rom false, ?_⟩
    rw [romStart_enterRecovery kind many]
    simp [enterRecovery]

end Sys2Proof.Machine
end
